-- ==== Sys2Proof/Word.lean ====
section
/-! DEFINITION. The plain words of the three serial lines and the station number. -/

namespace Sys2Proof

/-- One byte of a frame of any of the three lines (R190). -/
abbrev Byte := BitVec 8

/-- The bytes of a payload or of a command's arguments, in the order they are sent (R190). -/
abbrev Bytes := List Byte

/-- A station number, 0 to 15: the low four bits of every arbitration word (R166, R191). -/
abbrev StationNo := Fin 16

end Sys2Proof
end

