-- ==== Sys2Proof/Syntax.lean ====
section
/-! DEFINITION. The commands the block takes: one constructor of `Instr` per row of spec/opcode_table.json.

Every command that is not the expiry of a timer held in State carries `t`, the time in ms at which it is taken
(DESIGN CHOICE, notes/assumptions/1.md). The bytes of a received payload or of a command's arguments are the
operand, so that the layouts of R192 to R194 are part of what a command means. -/

namespace Sys2Proof

/-- The strapped role (R164, R166). -/
inductive Role where
  | unloader
  | intake
  deriving DecidableEq, Repr

/-- The strapped belt (R164, R166). -/
inductive Belt where
  | one
  | two
  deriving DecidableEq, Repr

/-- The levels of the straps: station number, role and belt (R166). -/
structure Straps where
  number : StationNo
  role : Role
  belt : Belt
  deriving DecidableEq, Repr

/-- The receive test of R3 that an occupancy failed. -/
inductive RxFault where
  /-- a sync bit read recessive -/
  | sync
  /-- unassigned kind code -/
  | kind
  /-- urgent bit not matching the kind -/
  | urgency
  /-- destination not permitted; the receiver reads on, and its CRC check succeeded or not -/
  | destination (crcGood : Bool)
  /-- length above 64 or not permitted for the kind -/
  | length
  /-- CRC mismatch -/
  | crc
  /-- line idle before the acknowledge slot -/
  | cutShort
  deriving DecidableEq, Repr

/-- Why a machine-link frame was dropped (R145). -/
inductive MachineFrameFault where
  | kind
  | length
  | crc
  deriving DecidableEq, Repr

/-- Why a command frame was dropped (R178, R194). -/
inductive ConsoleFrameFault where
  | length
  | crc
  deriving DecidableEq, Repr

/-- The commands. -/
inductive Instr where
  -- resets (R165)
  | powerReset (t : Nat)
  | pinReset (t : Nat)
  | resetRelease (t : Nat) (straps : Straps)
  -- the quay line (R3 to R18)
  | occupancyEnd (t : Nat)
  | attemptStart (t : Nat)
  | lostArbitration (t : Nat)
  | transmitFault (t : Nat)
  | receiveFault (t : Nat) (cause : RxFault)
  -- good frames taken from the line (R5, R30)
  | helloTaken (t : Nat) (sender : StationNo) (payload : Bytes)
  | byeTaken (t : Nat) (sender : StationNo) (payload : Bytes)
  | statusTaken (t : Nat) (sender : StationNo) (payload : Bytes)
  | raiseTaken (t : Nat) (sender : StationNo) (payload : Bytes)
  | lowerTaken (t : Nat) (sender : StationNo) (payload : Bytes)
  | claimTaken (t : Nat) (sender : StationNo) (payload : Bytes)
  | releaseTaken (t : Nat) (sender : StationNo) (payload : Bytes)
  | tallyTaken (t : Nat) (sender : StationNo) (payload : Bytes)
  | recallTaken (t : Nat) (sender : StationNo) (dest : BitVec 5) (payload : Bytes)
  | capacityTaken (t : Nat) (sender : StationNo) (dest : BitVec 5) (payload : Bytes)
  | haltTaken (t : Nat) (sender : StationNo) (dest : BitVec 5) (payload : Bytes)
  | clearTaken (t : Nat) (sender : StationNo) (dest : BitVec 5) (payload : Bytes)
  | resetTaken (t : Nat) (sender : StationNo) (dest : BitVec 5) (straps : Straps)
  -- own frames completing on the line (R12, R17)
  | helloCompletes (t : Nat) (acked : Bool)
  | byeCompletes (t : Nat) (acked : Bool)
  | statusCompletes (t : Nat) (acked : Bool)
  | raiseCompletes (t : Nat) (acked : Bool)
  | lowerCompletes (t : Nat) (acked : Bool)
  | claimCompletes (t : Nat) (acked : Bool)
  | releaseCompletes (t : Nat) (acked : Bool)
  | frameCompletes (t : Nat) (acked : Bool)
  -- expiries of timers and deadlines held in State
  | peerSilent (peer : StationNo)
  | peerLost (peer : StationNo)
  | pendingRaiseExpiry (peer : StationNo)
  | selfSilent
  | raiseSettleDeadline
  | drainStall
  | releaseTimerExpiry
  | haltRepeat
  | capacityRepeat
  | governorUpdate
  | tallyTimerExpiry
  | claimSettleDeadline
  | travelTimeout
  | exhaustionTimerExpiry
  | listenTimerExpiry
  | statusTimerExpiry
  | machineSilent
  | choke
  | chokeCleared
  -- the machine link (R145 to R151)
  | machineByteTimeout (t : Nat)
  | machineFrameError (t : Nat) (cause : MachineFrameFault)
  | measure (t : Nat) (payload : Bytes)
  | machineFrameSent (t : Nat)
  -- the console line (R178, R179)
  | consoleByteTimeout (t : Nat)
  | consoleFrameError (t : Nat) (cause : ConsoleFrameFault)
  | responseSent (t : Nat)
  -- console commands (R180, R194): the command tag and the argument bytes
  | unknown (t : Nat) (tag : BitVec 16) (code : Byte)
  | configure (t : Nat) (tag : BitVec 16) (args : Bytes)
  | join (t : Nat) (tag : BitVec 16) (args : Bytes)
  | leave (t : Nat) (tag : BitVec 16) (args : Bytes)
  | planBegin (t : Nat) (tag : BitVec 16) (args : Bytes)
  | planHold (t : Nat) (tag : BitVec 16) (args : Bytes)
  | planEnd (t : Nat) (tag : BitVec 16) (args : Bytes)
  | planDrop (t : Nat) (tag : BitVec 16) (args : Bytes)
  | order (t : Nat) (tag : BitVec 16) (args : Bytes)
  | cancel (t : Nat) (tag : BitVec 16) (args : Bytes)
  | halt (t : Nat) (tag : BitVec 16) (args : Bytes)
  | clear (t : Nat) (tag : BitVec 16) (args : Bytes)
  | overrideClear (t : Nat) (tag : BitVec 16) (args : Bytes)
  | beltcap (t : Nat) (tag : BitVec 16) (args : Bytes)
  | remoteReset (t : Nat) (tag : BitVec 16) (args : Bytes)
  | queryStation (t : Nat) (tag : BitVec 16) (args : Bytes)
  | queryPeer (t : Nat) (tag : BitVec 16) (args : Bytes)
  | queryHold (t : Nat) (tag : BitVec 16) (args : Bytes)
  | queryOrders (t : Nat) (tag : BitVec 16) (args : Bytes)
  | queryFinished (t : Nat) (tag : BitVec 16) (args : Bytes)
  | readReport (t : Nat) (tag : BitVec 16) (args : Bytes)
  -- the line first seen idle after a reset (R3)
  | lineIdle (t : Nat)
  deriving DecidableEq, Repr

end Sys2Proof
end

