-- ==== Sys2Proof/Config.lean ====
section
/-! DEFINITION. The fixed numbers of the FK420 (spec/00_scope.md 'Fixed numbers' and the rules named there).
All times are in milliseconds. The device has no free value: every open point of the spec is an order of
events, decided by the command queue, or a choice of coding, named in the assumption log. -/

namespace Sys2Proof.Config

/-- The line is idle once it has been recessive for this many consecutive bit times (R1). -/
def idleBits : Nat := 12
/-- A PRESENT peer becomes SILENT this long after it was last heard (R27). -/
def silentAfter : Nat := 2000
/-- A SILENT peer becomes LOST this long after it was last heard (R27). -/
def lostAfter : Nat := 10000
/-- Lifetime of a peer's pending raise (R33). -/
def pendingRaiseLife : Nat := 2000
/-- The self-silence watch (R37). -/
def selfSilence : Nat := 1500
/-- The settle window of an own RAISE (R49). -/
def raiseSettle : Nat := 1000
/-- The settle window of an own CLAIM (R112). -/
def claimSettle : Nat := 1000
/-- The drain deadline of a lowering (R52, R54, R55). -/
def drainDeadline : Nat := 15000
/-- The release timer (R58). -/
def releaseTimer : Nat := 10000
/-- The halt repeat timer (R63). -/
def haltRepeat : Nat := 1000
/-- The CAPACITY repeat timer (R67). -/
def capacityRepeat : Nat := 5000
/-- The governor's update period (R70). -/
def governorPeriod : Nat := 250
/-- The TALLY period (R101). -/
def tallyPeriod : Nat := 5000
/-- The travel timer (R127). -/
def travelTimer : Nat := 600000
/-- The exhaustion timer (R131). -/
def exhaustionTimer : Nat := 60000
/-- The join listen (R171). -/
def listenTimer : Nat := 2000
/-- The STATUS period (R173). -/
def statusPeriod : Nat := 500
/-- The machine silence timer (R148). -/
def machineSilence : Nat := 1000
/-- The choke entry timer (R159). -/
def chokeEntry : Nat := 2000
/-- The choke recovery timer (R161). -/
def chokeRecovery : Nat := 5000
/-- Three chokes within this time end the order (R160). -/
def chokeWindow : Nat := 600000

/-- Grant, setpoint and allowed-rate ceiling, in t/h (R42, R79). -/
def grantMax : Nat := 1500
/-- Largest belt capacity, in t/h (R45, R67). -/
def capacityMax : Nat := 6000
/-- Largest rail position, in dm (R35, R146). -/
def positionMax : Nat := 65000
/-- Ceiling of a mass cell and of an order's done, in kg (R94, R123). -/
def massMax : Nat := 4294967295
/-- Ceiling of the 16-bit counts (R24, R144, R177). -/
def countMax : Nat := 65535

end Sys2Proof.Config
end

