-- ==== Sys2Proof/Machine/State.lean ====
section
/-! DEFINITION. The state of one FK420 as plain data, block by block (spec/00_scope.md 'Block overview'; the state
tables of R24, R41, R69, R88, R106, R122, R144, R164, R177 and of the Quay Link chapter), the reasons a step could
stop, and the state right after reset. Quantities the manual counts are `Nat` or `Int`; what it treats as bits is
`BitVec`. A deadline or a recorded time is in ms on the model's clock `now` (log 1); a stopped timer is `none`. -/

namespace Sys2Proof.Machine

/-- No command stops the device (INVENTORY.md 'Faults'): nobody raises a fault, and the type is empty. -/
inductive Fault where
  deriving DecidableEq, Repr

/-- Why a command could be refused by the model. -/
inductive Refusal where
  /-- Raised by an arm of `exec` whose command has no meaning yet (safe: the model stops). No arm does. -/
  | notModelled (mnemonic : String)
  deriving DecidableEq, Repr

/-! ### Names -/

/-- R164. -/
inductive StationState where
  | config | offline | joining | active | degraded | leaving | muted
  deriving DecidableEq, Repr

/-- R165. -/
inductive ResetCause where
  | power | pin | remote
  deriving DecidableEq, Repr

/-- The start cause a HELLO announces (R170, R196). -/
inductive StartCause where
  | power | pin | remote | rejoin
  deriving DecidableEq, Repr

/-- The thirteen kinds of quay frame (R4, R191). -/
inductive Kind where
  | hello | bye | status | raise | lower | claim | release | tally | recall | capacity | halt | clear | reset
  deriving DecidableEq, Repr

/-- The scope of a halt (R62). -/
inductive HaltScope where
  | belt | quay
  deriving DecidableEq, Repr

/-- Presence of a peer (R24, R26). -/
inductive Presence where
  | absent | present | silent | lost | left
  deriving DecidableEq, Repr

/-- The cause a RAISE_YIELDED report names (R49, R50, R196). -/
inductive YieldCause where
  | conflict | halt | lower | state
  deriving DecidableEq, Repr

/-- The hold-off conditions, in the order of the table of R80. -/
inductive HoldOff where
  | halt | state | selfSilent | machineSilent | choke | order | limit
  deriving DecidableEq, Repr

/-- The binding term of A, in the order of the table of R79. -/
inductive BindAllowed where
  | demand | taper | balance | trim | machine | ceiling
  deriving DecidableEq, Repr

/-- The binding term of F_t (R69, R80). -/
inductive BindTarget where
  | allowed | grant | lowering
  | holdOff (condition : HoldOff)
  deriving DecidableEq, Repr

/-- Which limit is closed (R84). -/
inductive ClosedLimit where
  | balance | trim | both
  deriving DecidableEq, Repr

/-- R88. -/
inductive PlanPhase where
  | none | loading | ready
  deriving DecidableEq, Repr

/-- R106, R109. -/
inductive BlockedReason where
  | halted | link | viewIncomplete | slotTaken | pathBlocked
  deriving DecidableEq, Repr

/-- R106. -/
inductive ClaimPhase where
  | none | queued | sending | settling | settled | releasing
  deriving DecidableEq, Repr

/-- How a claim conflicts (R113). -/
inductive Conflict where
  | sameSlot | path
  deriving DecidableEq, Repr

/-- R123. -/
inductive OrderState where
  | waiting | claiming | travelling | discharging | suspending | suspended | ending
  | complete | cancelled | failed | exhausted
  deriving DecidableEq, Repr

/-- R123. -/
inductive EndState where
  | complete | cancelled | failed | exhausted
  deriving DecidableEq, Repr

/-- R123. -/
inductive EndReason where
  | target | hostCancel | travelTimeout | wrongSlot | chokeRepeat | feedLow
  deriving DecidableEq, Repr

/-- The level of a report (R186). -/
inductive Level where
  | error | warning | info
  deriving DecidableEq, Repr

/-- The source block of a report (R186). -/
inductive Source where
  | link | table | share | governor | plan | claim | order | machine | station | console
  deriving DecidableEq, Repr

/-- The results of R180. -/
inductive Result where
  | ok | clamped | badState | badArg | full | tagInUse | notFound | busy | role | unknown
  deriving DecidableEq, Repr

/-! ### Frames -/

/-- The content of a HELLO (R170, R192). `cause` is the byte as sent. -/
structure HelloBody where
  cause : Nat
  role : Role
  belt : Belt
  capacity : Nat
  planId : Nat
  deriving DecidableEq, Repr

/-- The content of a STATUS (R173, R192). `stateCode` is the four bits as sent; `position` is absent for none. -/
structure StatusBody where
  stateCode : Nat
  role : Role
  belt : Belt
  seq : BitVec 8
  position : Option Nat
  hold : Nat
  slot : Nat
  age : Nat
  grant : Nat
  raiseTarget : Nat
  feed : Nat
  allowed : Nat
  capacity : Nat
  planId : Nat
  mass : Nat
  halts : BitVec 16
  deriving DecidableEq, Repr

/-- The content of a CLAIM (R112, R192). -/
structure ClaimBody where
  hold : Nat
  slot : Nat
  fromPos : Nat
  toPos : Nat
  deriving DecidableEq, Repr

/-- The content of a TALLY or a RECALL: a plan id and (hold, mass) pairs (R101, R102, R192). -/
structure TallyBody where
  planId : Nat
  pairs : List (Nat × Nat)
  deriving DecidableEq, Repr

/-- An own quay frame as it stands in a queue or on the line (R13 to R15). -/
inductive Content where
  | hello (b : HelloBody)
  | bye (reason : Nat)
  | status (b : StatusBody)
  | raise (target current : Nat)
  | lower (grant : Nat)
  | claim (b : ClaimBody)
  | release (hold slot : Nat)
  | tally (b : TallyBody)
  | recall (dest : StationNo) (b : TallyBody)
  | capacity (value : Nat)
  | halt (scope : HaltScope) (reason : Nat)
  | clear (reason : Nat)
  | reset (dest : StationNo)
  deriving DecidableEq, Repr

/-- The own frame in its attempt (R6), with whether a withdrawal is recorded against it (R16). -/
structure Attempt where
  content : Content
  word : BitVec 9
  withdrawn : Bool
  deriving DecidableEq, Repr

/-- What this station has judged the present occupancy to hold, as far as R3, R8, R9 and R18 ask (log 7). An occupancy is
judged once: after anything but `unjudged` nothing more is taken from it and no fault is counted (R3, R18). -/
inductive Occupancy where
  /-- nothing judged yet, noise included -/
  | unjudged
  /-- a good frame other than a HELLO, taken -/
  | taken
  /-- a good HELLO, taken or sent -/
  | hello
  /-- a receive fault, counted once -/
  | faulty
  /-- the own frame other than a HELLO, completed -/
  | ownSent
  /-- the own attempt, aborted by a transmit fault -/
  | aborted
  deriving DecidableEq, Repr

/-! ### Link controller (chapter Quay Link) -/

structure Link where
  rank : Nat
  urgent : List Content
  normal : List Content
  txFaults : Nat
  rxFaults : Nat
  rxPoor : Bool
  unheard : Nat
  aloneReported : Bool
  dupReported : Bool
  synced : Bool
  onLine : Option Attempt
  held : Option Content
  occupancy : Occupancy
  ackDriven : Bool
  deriving DecidableEq, Repr

/-! ### Station table (R24) -/

structure PendingRaise where
  target : Nat
  heard : Nat
  deriving DecidableEq, Repr

structure PeerClaim where
  hold : Nat
  slot : Nat
  target : Option Nat
  age : Nat
  receipt : Nat
  deriving DecidableEq, Repr

structure PeerEntry where
  presence : Presence
  role : Option Role
  belt : Option Belt
  cause : Option StartCause
  lastStatus : Option StatusBody
  grant : Nat
  raise : Option PendingRaise
  claim : Option PeerClaim
  position : Option Nat
  planId : Nat
  capacity : Nat
  mismatch : Option Nat
  lastHeard : Nat
  lastSeq : Option (BitVec 8)
  missed : Nat
  deriving DecidableEq, Repr

/-- The values of an ABSENT entry (R24). R24 gives the last-heard time no value there ('Not used while ABSENT'): the 0 is the
model's choice, which no rule reads (log 32). -/
def PeerEntry.empty : PeerEntry where
  presence := .absent
  role := none
  belt := none
  cause := none
  lastStatus := none
  grant := 0
  raise := none
  claim := none
  position := none
  planId := 0
  capacity := 0
  mismatch := none
  lastHeard := 0
  lastSeq := none
  missed := 0

structure Table where
  entries : Vector PeerEntry 16
  watchStart : Option Nat
  watchDeadline : Option Nat
  selfSilent : Bool
  lastStatusDone : Option Nat
  deriving DecidableEq, Repr

/-! ### Share unit (R41) -/

/-- The own raise and its phase (R46); a SENDING raise may be marked abandoned (R48), with the cause that reached it first, the
model's choice (log 39). -/
inductive Raise where
  | none
  | queued (target : Nat)
  | sending (target : Nat) (abandoned : Option YieldCause)
  | settling (target deadline : Nat)
  deriving DecidableEq, Repr

/-- A lowering in progress with the requesters waiting on it (R52, R55). -/
structure Lowering where
  target : Nat
  deadline : Option Nat
  waitOrder : Bool
  waitClaim : Bool
  waitStation : Bool
  deriving DecidableEq, Repr

structure OwnHalt where
  scope : HaltScope
  reason : Nat
  deriving DecidableEq, Repr

structure Share where
  grant : Nat
  raise : Raise
  yieldOwed : Bool
  lowering : Option Lowering
  releaseTimer : Option Nat
  resv : Nat
  capacity : Nat
  intakeCaps : Vector (Option Nat) 16
  feed : Option Nat
  overcommit : Bool
  halts : BitVec 16
  ownHalt : Option OwnHalt
  haltTimer : Option Nat
  beltCap : Option Nat
  capTimer : Option Nat
  beltRunning : Option Bool
  deriving DecidableEq, Repr

/-! ### Flow governor (R69) -/

structure Governor where
  feed : Nat
  allowed : Nat
  target : Nat
  taper : Nat
  balance : Nat
  trim : Nat
  machineCap : Nat
  moment : Option Int
  room : Option Int
  bindAllowed : BindAllowed
  bindTarget : BindTarget
  limit : Option ClosedLimit
  timer : Option Nat
  deriving DecidableEq, Repr

/-! ### Plan store (R88, R89) -/

structure HoldEntry where
  mass : Nat
  lever : Int
  pos1 : Nat
  pos2 : Option Nat
  deriving DecidableEq, Repr

structure PlanRecord where
  id : Nat
  count : Nat
  dadj : Nat
  tmax : Nat
  holds : Vector (Option HoldEntry) 12
  deriving DecidableEq, Repr

structure PlanStore where
  phase : PlanPhase
  record : Option PlanRecord
  cells : Vector (Vector Nat 16) 12
  recallBase : Vector Nat 12
  attributed : Vector Nat 12
  unattributed : Nat
  marks : Vector (Option Nat) 16
  tallyTimer : Option Nat
  deriving DecidableEq, Repr

/-! ### Claim unit (R106) -/

structure ClaimRequest where
  hold : Nat
  slot : Nat
  pos : Nat
  blocked : Option BlockedReason
  deriving DecidableEq, Repr

structure ClaimUnit where
  request : Option ClaimRequest
  phase : ClaimPhase
  own : Option ClaimBody
  time : Option Nat
  settle : Option Nat
  withdrawn : Bool
  releaseOwed : Bool
  waitOrder : Bool
  waitStation : Bool
  deriving DecidableEq, Repr

/-! ### Order unit (R122, R123) -/

/-- The set of reasons holding a DISCHARGING order (R123). -/
structure Held where
  halt : Bool
  choke : Bool
  limit : Bool
  machine : Bool
  link : Bool
  deriving DecidableEq, Repr

/-- No reason: RUNNING. -/
def Held.none : Held := ⟨false, false, false, false, false⟩

structure OrderRecord where
  tag : Nat
  hold : Nat
  slot : Nat
  target : Nat
  done : Nat
  demand : Nat
  priority : Nat
  state : OrderState
  held : Held
  blocked : Option BlockedReason
  endState : Option EndState
  endReason : Option EndReason
  arrival : Nat
  deriving DecidableEq, Repr

structure OrderUnit where
  active : Option OrderRecord
  incoming : Option OrderRecord
  stack : List OrderRecord
  queue : List OrderRecord
  finished : List OrderRecord
  arrival : Nat
  releaseOut : Bool
  travelTimer : Option Nat
  exhaustTimer : Option Nat
  endDrained : Bool
  endReleasePending : Bool
  deriving DecidableEq, Repr

/-! ### Machine interface (R144) -/

/-- The fields of a MEASURE (R193). -/
structure Measure where
  seq : BitVec 8
  count : BitVec 32
  receiver : Nat
  feed : Nat
  velocity : Nat
  position : Nat
  hold : Nat
  slot : Nat
  capacity : Nat
  ready : Bool
  fault : Bool
  running : Bool
  deriving DecidableEq, Repr

/-- A frame for the machine (R151, R152, R193). -/
inductive MachineFrame where
  | setpoint (feed : Nat)
  | move (position hold slot : Nat)
  deriving DecidableEq, Repr

structure MachineIf where
  last : Option Measure
  lastSeq : Option (BitVec 8)
  missed : Nat
  errors : Nat
  silent : Bool
  silenceTimer : Option Nat
  fault : Bool
  position : Option Nat
  announced : Option Nat
  baseline : Option (BitVec 32)
  accepted : Nat
  attrHold : Nat
  carry : List (Nat × Nat)
  choke : Bool
  chokeEntry : Option Nat
  chokeRecovery : Option Nat
  history : List Nat
  sending : Option MachineFrame
  waiting : List MachineFrame
  deriving DecidableEq, Repr

/-! ### Station controller (R164, R168) -/

structure ConfigRecord where
  capacity : Nat
  spacing : Nat
  vmin : Nat
  horizon : Nat
  taperMass : Nat
  reportLevel : Nat
  remoteEnable : Bool
  deriving DecidableEq, Repr

structure Station where
  state : StationState
  resetCause : ResetCause
  straps : Straps
  config : Option ConfigRecord
  reportLevel : Nat
  remoteEnable : Bool
  joined : Bool
  helloCause : Option StartCause
  listen : Option Nat
  statusTimer : Option Nat
  lastSentSeq : Option (BitVec 8)
  leaveDrain : Bool
  leaveRelease : Bool
  deriving DecidableEq, Repr

/-! ### Console interface (R177, R186, R194) -/

structure Report where
  level : Level
  source : Source
  code : Nat
  args : List (BitVec 32)
  deriving DecidableEq, Repr

structure Response where
  tag : BitVec 16
  result : Result
  data : Bytes
  deriving DecidableEq, Repr

structure Console where
  receiving : Option Bytes
  sending : Option Response
  waiting : List Response
  reports : List Report
  lost : Nat
  errors : Nat
  attention : Bool
  deriving DecidableEq, Repr

/-! ### The state -/

/-- The whole state of one station, with the queue of commands waiting. -/
structure State where
  pending : List Instr
  now : Nat
  inReset : Option ResetCause
  station : Station
  link : Link
  table : Table
  share : Share
  gov : Governor
  plan : PlanStore
  claim : ClaimUnit
  order : OrderUnit
  machine : MachineIf
  console : Console
  deriving DecidableEq, Repr

/-! ### After reset -/

/-- Link controller after any reset: the rank is the strapped station number (R10). -/
def Link.afterReset (number : StationNo) : Link where
  rank := number.val
  urgent := []
  normal := []
  txFaults := 0
  rxFaults := 0
  rxPoor := false
  unheard := 0
  aloneReported := false
  dupReported := false
  synced := false
  onLine := none
  held := none
  occupancy := .unjudged
  ackDriven := false

/-- Station table after any reset (R24, R38). -/
def Table.afterReset : Table where
  entries := Vector.replicate 16 PeerEntry.empty
  watchStart := none
  watchDeadline := none
  selfSilent := false
  lastStatusDone := none

/-- Share unit after any reset (R41). -/
def Share.afterReset : Share where
  grant := 0
  raise := .none
  yieldOwed := false
  lowering := none
  releaseTimer := none
  resv := 0
  capacity := 0
  intakeCaps := Vector.replicate 16 none
  feed := none
  overcommit := false
  halts := 0#16
  ownHalt := none
  haltTimer := none
  beltCap := none
  capTimer := none
  beltRunning := none

/-- Flow governor after any reset (R69). -/
def Governor.afterReset : Governor where
  feed := 0
  allowed := 0
  target := 0
  taper := 0
  balance := 1500
  trim := 1500
  machineCap := 0
  moment := none
  room := none
  bindAllowed := .demand
  bindTarget := .holdOff .state
  limit := none
  timer := none

/-- Plan store after any reset (R88). -/
def PlanStore.afterReset : PlanStore where
  phase := .none
  record := none
  cells := Vector.replicate 12 (Vector.replicate 16 0)
  recallBase := Vector.replicate 12 0
  attributed := Vector.replicate 12 0
  unattributed := 0
  marks := Vector.replicate 16 none
  tallyTimer := none

/-- Claim unit after any reset (R106). -/
def ClaimUnit.afterReset : ClaimUnit where
  request := none
  phase := .none
  own := none
  time := none
  settle := none
  withdrawn := false
  releaseOwed := false
  waitOrder := false
  waitStation := false

/-- Order unit after any reset (R122). -/
def OrderUnit.afterReset : OrderUnit where
  active := none
  incoming := none
  stack := []
  queue := []
  finished := []
  arrival := 0
  releaseOut := false
  travelTimer := none
  exhaustTimer := none
  endDrained := false
  endReleasePending := false

/-- Machine interface after any reset (R144): MACHINE_SILENT is set and no report made. -/
def MachineIf.afterReset : MachineIf where
  last := none
  lastSeq := none
  missed := 0
  errors := 0
  silent := true
  silenceTimer := none
  fault := false
  position := none
  announced := none
  baseline := none
  accepted := 0
  attrHold := 0
  carry := []
  choke := false
  chokeEntry := none
  chokeRecovery := none
  history := []
  sending := none
  waiting := []

/-- Station controller after any reset (R164). -/
def Station.afterReset (cause : ResetCause) (straps : Straps) : Station where
  state := .config
  resetCause := cause
  straps := straps
  config := none
  reportLevel := 3
  remoteEnable := false
  joined := false
  helloCause := none
  listen := none
  statusTimer := none
  lastSentSeq := none
  leaveDrain := false
  leaveRelease := false

/-- Console interface after any reset, before STARTED is queued (R177). -/
def Console.afterReset : Console where
  receiving := none
  sending := none
  waiting := []
  reports := []
  lost := 0
  errors := 0
  attention := false

/-- Every block at its reset values, STARTED not yet reported (R165). The clock and the queue of commands are the
model's own and are kept. -/
def State.cleared (pending : List Instr) (now : Nat) (cause : ResetCause) (straps : Straps) : State where
  pending := pending
  now := now
  inReset := none
  station := Station.afterReset cause straps
  link := Link.afterReset straps.number
  table := Table.afterReset
  share := Share.afterReset
  gov := Governor.afterReset
  plan := PlanStore.afterReset
  claim := ClaimUnit.afterReset
  order := OrderUnit.afterReset
  machine := MachineIf.afterReset
  console := Console.afterReset

/-- The straps of `State.reset`: station 0, unloader, belt 1 (DESIGN CHOICE, log 5: the spec gives the straps no
levels). -/
def State.resetStraps : Straps := ⟨0, .unloader, .one⟩

/-- The machine right after a POWER reset is released (R164 to R166, R177): CONFIG, every block at its reset
values, STARTED (information, STATION, code 31) with cause POWER, station 0, unloader, belt 1 at the head of the
report queue and the attention line asserted; the clock at 0 and no command waiting. -/
def State.reset : State :=
  { State.cleared [] 0 .power State.resetStraps with
    console := { Console.afterReset with
      reports := [⟨.info, .station, 31, [1#32, 0#32, 0#32, 1#32]⟩]
      attention := true } }

end Sys2Proof.Machine
end

