-- ==== Sys2Proof/Machine/Codes.lean ====
section
/-! DEFINITION. The codes of R196, the kind codes and urgencies of R191, and the codes the spec gives no number
for (log 22). -/

namespace Sys2Proof.Machine

/-! ### Quay frame kinds (R191) -/

/-- The kind code of a frame (R191). -/
def Kind.code : Kind → Nat
  | .hello => 1 | .bye => 2 | .status => 3 | .raise => 4 | .lower => 5 | .claim => 6 | .release => 7
  | .tally => 8 | .recall => 9 | .capacity => 10 | .halt => 12 | .clear => 13 | .reset => 14

/-- Whether a kind is sent with the urgent bit set (R4, R191). -/
def Kind.urgent : Kind → Bool
  | .halt => true
  | .clear => true
  | .reset => true
  | _ => false

/-- The kind a code names; 0x0, 0xB and 0xF are unassigned (R191). -/
def Kind.ofCode : Nat → Option Kind
  | 1 => some .hello | 2 => some .bye | 3 => some .status | 4 => some .raise | 5 => some .lower | 6 => some .claim
  | 7 => some .release | 8 => some .tally | 9 => some .recall | 10 => some .capacity | 12 => some .halt
  | 13 => some .clear | 14 => some .reset
  | _ => none

/-- The kind of a content. -/
def Content.kind : Content → Kind
  | .hello _ => .hello
  | .bye _ => .bye
  | .status _ => .status
  | .raise _ _ => .raise
  | .lower _ => .lower
  | .claim _ => .claim
  | .release _ _ => .release
  | .tally _ => .tally
  | .recall _ _ => .recall
  | .capacity _ => .capacity
  | .halt _ _ => .halt
  | .clear _ => .clear
  | .reset _ => .reset

/-- Whether a kind stands in the TALLY/RECALL list (R15). -/
def Kind.listed : Kind → Bool
  | .tally => true
  | .recall => true
  | _ => false

/-- The destination code of a belt (R4). -/
def Belt.dest : Belt → Nat
  | .one => 16
  | .two => 17

/-- The destination code a frame is sent with (R4, R62, R64, R67, R102, R181). -/
def Content.dest (belt : Belt) : Content → Nat
  | .recall d _ => d.val
  | .capacity _ => Belt.dest belt
  | .halt .belt _ => Belt.dest belt
  | .halt .quay _ => 31
  | .reset d => d.val
  | _ => 31

/-- The destination codes permitted for a kind (R4). -/
def Kind.permits (k : Kind) (dest : Nat) : Bool :=
  match k with
  | .recall => decide (dest ≤ 15)
  | .reset => decide (dest ≤ 15)
  | .capacity => dest == 16 || dest == 17
  | .halt => dest == 16 || dest == 17 || dest == 31
  | .clear => dest == 16 || dest == 17 || dest == 31
  | _ => dest == 31

/-- A frame is for a station when its destination is the own number, the own belt's code, or 31 (R4). -/
def destFor (straps : Straps) (dest : Nat) : Bool :=
  dest == straps.number.val || dest == Belt.dest straps.belt || dest == 31

/-! ### Codes of R196 -/

def ResetCause.code : ResetCause → Nat
  | .power => 1 | .pin => 2 | .remote => 3

def StartCause.code : StartCause → Nat
  | .power => 1 | .pin => 2 | .remote => 3 | .rejoin => 4

/-- The start cause a byte names, if any (R35: one of its four values). -/
def StartCause.ofCode : Nat → Option StartCause
  | 1 => some .power | 2 => some .pin | 3 => some .remote | 4 => some .rejoin
  | _ => none

/-- A reset cause as the start cause of the first JOIN after it (R170). -/
def ResetCause.start : ResetCause → StartCause
  | .power => .power | .pin => .pin | .remote => .remote

def StationState.code : StationState → Nat
  | .config => 0 | .offline => 1 | .joining => 2 | .active => 3 | .degraded => 4 | .leaving => 5 | .muted => 6

def Role.code : Role → Nat
  | .unloader => 0 | .intake => 1

/-- The code of a belt in query data and report arguments (R196). -/
def Belt.code : Belt → Nat
  | .one => 1 | .two => 2

/-- The belt bit of the HELLO and STATUS role and belt byte (R192). -/
def Belt.bit : Belt → Nat
  | .one => 0 | .two => 1

def Level.code : Level → Nat
  | .error => 1 | .warning => 2 | .info => 3

def Source.code : Source → Nat
  | .link => 1 | .table => 2 | .share => 3 | .governor => 4 | .plan => 5 | .claim => 6 | .order => 7
  | .machine => 8 | .station => 9 | .console => 10

def HaltScope.code : HaltScope → Nat
  | .belt => 1 | .quay => 2

def YieldCause.code : YieldCause → Nat
  | .conflict => 1 | .halt => 2 | .lower => 3 | .state => 4

def ClosedLimit.code : ClosedLimit → Nat
  | .balance => 1 | .trim => 2 | .both => 3

def Conflict.code : Conflict → Nat
  | .sameSlot => 1 | .path => 2

def BlockedReason.code : BlockedReason → Nat
  | .halted => 1 | .link => 2 | .viewIncomplete => 3 | .slotTaken => 4 | .pathBlocked => 5

def OrderState.code : OrderState → Nat
  | .waiting => 1 | .claiming => 2 | .travelling => 3 | .discharging => 4 | .suspending => 5 | .suspended => 6
  | .ending => 7 | .complete => 8 | .cancelled => 9 | .failed => 10 | .exhausted => 11

def EndState.code : EndState → Nat
  | .complete => 1 | .cancelled => 2 | .failed => 3 | .exhausted => 4

def EndReason.code : EndReason → Nat
  | .target => 1 | .hostCancel => 2 | .travelTimeout => 3 | .wrongSlot => 4 | .chokeRepeat => 5 | .feedLow => 6

def PlanPhase.code : PlanPhase → Nat
  | .none => 0 | .loading => 1 | .ready => 2

/-- The result codes of R194. -/
def Result.code : Result → Nat
  | .ok => 0 | .clamped => 1 | .badState => 2 | .badArg => 3 | .full => 4 | .tagInUse => 5 | .notFound => 6
  | .busy => 7 | .role => 8 | .unknown => 9

/-- The halt reason of a belt trip (R196). -/
def beltTripReason : Nat := 100

/-! ### Codes the spec gives no number for: the order of the rule's own table, from 0 (DESIGN CHOICE, log 22) -/

def Presence.code : Presence → Nat
  | .absent => 0 | .present => 1 | .silent => 2 | .lost => 3 | .left => 4

def Raise.code : Raise → Nat
  | .none => 0 | .queued _ => 1 | .sending _ _ => 2 | .settling _ _ => 3

def ClaimPhase.code : ClaimPhase → Nat
  | .none => 0 | .queued => 1 | .sending => 2 | .settling => 3 | .settled => 4 | .releasing => 5

def BindAllowed.code : BindAllowed → Nat
  | .demand => 0 | .taper => 1 | .balance => 2 | .trim => 3 | .machine => 4 | .ceiling => 5

def HoldOff.code : HoldOff → Nat
  | .halt => 0 | .state => 1 | .selfSilent => 2 | .machineSilent => 3 | .choke => 4 | .order => 5 | .limit => 6

def BindTarget.code : BindTarget → Nat
  | .allowed => 0 | .grant => 1 | .lowering => 2 | .holdOff _ => 3

end Sys2Proof.Machine
end

