-- ==== Sys2Proof/Machine/Operands.lean ====
section
/-! DEFINITION. The bytes of payloads, machine-link frames and command arguments: how a field is laid out and how it
is read (R190, R192, R193, R194). Reading is total: a payload or an argument list of the wrong length reads as
`none`. -/

namespace Sys2Proof.Machine

/-! ### Fields (R190): most significant byte first, plain binary -/

/-- The low eight bits of a number. -/
def byteOf (n : Nat) : Byte := BitVec.ofNat 8 n

/-- A field of two bytes. -/
def bytes2 (n : Nat) : Bytes := [byteOf (n / 256), byteOf n]

/-- A field of four bytes. -/
def bytes4 (n : Nat) : Bytes := [byteOf (n / 16777216), byteOf (n / 65536), byteOf (n / 256), byteOf n]

/-- A field of eight bytes. -/
def bytes8 (n : Nat) : Bytes := bytes4 (n / 4294967296) ++ bytes4 n

/-- The value of a field of two bytes. -/
def read2 (a b : Byte) : Nat := a.toNat * 256 + b.toNat

/-- The value of a field of four bytes. -/
def read4 (a b c d : Byte) : Nat := ((a.toNat * 256 + b.toNat) * 256 + c.toNat) * 256 + d.toNat

/-- A signed field of two bytes in two's complement: the lever (R190). -/
def readSigned2 (a b : Byte) : Int := if read2 a b < 32768 then (read2 a b : Int) else (read2 a b : Int) - 65536

/-- A signed value as the number its two's complement spells in `w` bits (R190). -/
def twos (w : Nat) (z : Int) : Nat := (z % (2 ^ w : Int)).toNat

/-- An optional field of two bytes: all ones is absent (R190, R192 rail position). -/
def readOpt2 (a b : Byte) : Option Nat := if read2 a b = 65535 then none else some (read2 a b)

/-- An absent value of `w` bytes: all ones (R190). -/
def absent (w : Nat) : Bytes := List.replicate w 255#8

/-! ### The role and belt bits (R192) -/

/-- Bit 1 is the role, bit 0 the belt. -/
def roleBelt (r : Role) (b : Belt) : Nat := Role.code r * 2 + Belt.bit b

def roleOf (x : Byte) : Role := if x.getLsbD 1 then .intake else .unloader

def beltOf (x : Byte) : Belt := if x.getLsbD 0 then .two else .one

/-! ### Quay payloads (R192) -/

def HelloBody.bytes (b : HelloBody) : Bytes :=
  [byteOf b.cause, byteOf (roleBelt b.role b.belt)] ++ bytes2 b.capacity ++ bytes4 b.planId

def readHello : Bytes → Option HelloBody
  | [c, rb, c1, c0, p3, p2, p1, p0] =>
    some { cause := c.toNat, role := roleOf rb, belt := beltOf rb, capacity := read2 c1 c0, planId := read4 p3 p2 p1 p0 }
  | _ => none

def readBye : Bytes → Option Nat
  | [r] => some r.toNat
  | _ => none

def StatusBody.bytes (b : StatusBody) : Bytes :=
  [byteOf (b.stateCode * 16 + roleBelt b.role b.belt), b.seq] ++ bytes2 (b.position.getD 65535)
    ++ [byteOf b.hold, byteOf b.slot] ++ bytes2 b.age ++ bytes2 b.grant ++ bytes2 b.raiseTarget ++ bytes2 b.feed
    ++ bytes2 b.allowed ++ bytes2 b.capacity ++ bytes4 b.planId ++ bytes4 b.mass ++ bytes2 b.halts.toNat

def readStatus : Bytes → Option StatusBody
  | [sb, q, x1, x0, h, l, a1, a0, g1, g0, t1, t0, f1, f0, w1, w0, c1, c0, p3, p2, p1, p0, m3, m2, m1, m0, h1, h0] =>
    some { stateCode := sb.toNat / 16, role := roleOf sb, belt := beltOf sb, seq := q, position := readOpt2 x1 x0
           hold := h.toNat, slot := l.toNat, age := read2 a1 a0, grant := read2 g1 g0, raiseTarget := read2 t1 t0
           feed := read2 f1 f0, allowed := read2 w1 w0, capacity := read2 c1 c0, planId := read4 p3 p2 p1 p0
           mass := read4 m3 m2 m1 m0, halts := BitVec.ofNat 16 (read2 h1 h0) }
  | _ => none

/-- RAISE: target and current grant. -/
def readRaise : Bytes → Option (Nat × Nat)
  | [t1, t0, g1, g0] => some (read2 t1 t0, read2 g1 g0)
  | _ => none

/-- LOWER: new grant; CAPACITY: belt capacity. -/
def readWord : Bytes → Option Nat
  | [g1, g0] => some (read2 g1 g0)
  | _ => none

def ClaimBody.bytes (b : ClaimBody) : Bytes :=
  [byteOf b.hold, byteOf b.slot] ++ bytes2 b.fromPos ++ bytes2 b.toPos

def readClaim : Bytes → Option ClaimBody
  | [h, l, f1, f0, t1, t0] =>
    some { hold := h.toNat, slot := l.toNat, fromPos := read2 f1 f0, toPos := read2 t1 t0 }
  | _ => none

/-- RELEASE: hold and slot. -/
def readRelease : Bytes → Option (Nat × Nat)
  | [h, l] => some (h.toNat, l.toNat)
  | _ => none

/-- The (hold, mass) pairs of a TALLY or RECALL, five bytes each. -/
def pairBytes : List (Nat × Nat) → Bytes
  | [] => []
  | (h, m) :: rest => byteOf h :: bytes4 m ++ pairBytes rest

def readPairs : Bytes → Option (List (Nat × Nat))
  | [] => some []
  | h :: m3 :: m2 :: m1 :: m0 :: rest => (readPairs rest).map fun ps => (h.toNat, read4 m3 m2 m1 m0) :: ps
  | _ => none

def TallyBody.bytes (b : TallyBody) : Bytes := bytes4 b.planId ++ pairBytes b.pairs

/-- TALLY and RECALL: a plan id and 1 to 12 pairs (R4, R192). -/
def readTally : Bytes → Option TallyBody
  | p3 :: p2 :: p1 :: p0 :: rest =>
    match readPairs rest with
    | some ps => if 1 ≤ ps.length ∧ ps.length ≤ 12 then some { planId := read4 p3 p2 p1 p0, pairs := ps } else none
    | none => none
  | _ => none

/-- HALT and CLEAR: the reason. -/
def readReason : Bytes → Option Nat
  | [r] => some r.toNat
  | _ => none

/-- The payload of an own frame (R192). -/
def Content.payload : Content → Bytes
  | .hello b => b.bytes
  | .bye r => [byteOf r]
  | .status b => b.bytes
  | .raise t g => bytes2 t ++ bytes2 g
  | .lower g => bytes2 g
  | .claim b => b.bytes
  | .release h l => [byteOf h, byteOf l]
  | .tally b => b.bytes
  | .recall _ b => b.bytes
  | .capacity c => bytes2 c
  | .halt _ r => [byteOf r]
  | .clear r => [byteOf r]
  | .reset _ => []

/-! ### The machine link (R193) -/

/-- The payload of a MEASURE: 18 bytes; bits 7 to 3 of the flags are not examined. -/
def readMeasure : Bytes → Option Measure
  | [q, w3, w2, w1, w0, r1, r0, f1, f0, v1, v0, x1, x0, h, l, c1, c0, fl] =>
    some { seq := q, count := BitVec.ofNat 32 (read4 w3 w2 w1 w0), receiver := read2 r1 r0, feed := read2 f1 f0
           velocity := read2 v1 v0, position := read2 x1 x0, hold := h.toNat, slot := l.toNat
           capacity := read2 c1 c0, ready := fl.getLsbD 0, fault := fl.getLsbD 1, running := fl.getLsbD 2 }
  | _ => none

def flagBit (b : Bool) (w : Nat) : Nat := if b then w else 0

def Measure.bytes (m : Measure) : Bytes :=
  [m.seq] ++ bytes4 m.count.toNat ++ bytes2 m.receiver ++ bytes2 m.feed ++ bytes2 m.velocity ++ bytes2 m.position
    ++ [byteOf m.hold, byteOf m.slot] ++ bytes2 m.capacity
    ++ [byteOf (flagBit m.ready 1 + flagBit m.fault 2 + flagBit m.running 4)]

/-- The payload of a frame for the machine. -/
def MachineFrame.payload : MachineFrame → Bytes
  | .setpoint f => bytes2 f
  | .move x h l => bytes2 x ++ [byteOf h, byteOf l]

/-! ### Command arguments (R194) -/

/-- CONFIGURE's fields as given (R168). -/
structure ConfigureArgs where
  capacity : Nat
  spacing : Nat
  vmin : Nat
  horizon : Nat
  taperMass : Nat
  reportLevel : Nat
  remoteEnable : Nat
  deriving DecidableEq, Repr

def readConfigure : Bytes → Option ConfigureArgs
  | [c1, c0, s1, s0, v1, v0, h1, h0, k1, k0, l, e] =>
    some { capacity := read2 c1 c0, spacing := read2 s1 s0, vmin := read2 v1 v0, horizon := read2 h1 h0
           taperMass := read2 k1 k0, reportLevel := l.toNat, remoteEnable := e.toNat }
  | _ => none

def ConfigureArgs.bytes (a : ConfigureArgs) : Bytes :=
  bytes2 a.capacity ++ bytes2 a.spacing ++ bytes2 a.vmin ++ bytes2 a.horizon ++ bytes2 a.taperMass
    ++ [byteOf a.reportLevel, byteOf a.remoteEnable]

/-- PLAN_BEGIN's fields (R90). -/
structure PlanBeginArgs where
  id : Nat
  count : Nat
  dadj : Nat
  tmax : Nat
  deriving DecidableEq, Repr

def readPlanBegin : Bytes → Option PlanBeginArgs
  | [i3, i2, i1, i0, n, d3, d2, d1, d0, t3, t2, t1, t0] =>
    some { id := read4 i3 i2 i1 i0, count := n.toNat, dadj := read4 d3 d2 d1 d0, tmax := read4 t3 t2 t1 t0 }
  | _ => none

def PlanBeginArgs.bytes (a : PlanBeginArgs) : Bytes :=
  bytes4 a.id ++ [byteOf a.count] ++ bytes4 a.dadj ++ bytes4 a.tmax

/-- PLAN_HOLD's fields (R91). -/
structure PlanHoldArgs where
  hold : Nat
  mass : Nat
  lever : Int
  slots : Nat
  pos1 : Nat
  pos2 : Nat
  deriving DecidableEq, Repr

def readPlanHold : Bytes → Option PlanHoldArgs
  | [h, m3, m2, m1, m0, v1, v0, n, x1, x0, y1, y0] =>
    some { hold := h.toNat, mass := read4 m3 m2 m1 m0, lever := readSigned2 v1 v0, slots := n.toNat
           pos1 := read2 x1 x0, pos2 := read2 y1 y0 }
  | _ => none

def PlanHoldArgs.bytes (a : PlanHoldArgs) : Bytes :=
  [byteOf a.hold] ++ bytes4 a.mass ++ bytes2 (twos 16 a.lever) ++ [byteOf a.slots] ++ bytes2 a.pos1 ++ bytes2 a.pos2

/-- ORDER's fields (R124). -/
structure OrderArgs where
  tag : Nat
  hold : Nat
  slot : Nat
  target : Nat
  demand : Nat
  priority : Nat
  deriving DecidableEq, Repr

def readOrder : Bytes → Option OrderArgs
  | [t1, t0, h, l, m3, m2, m1, m0, d1, d0, p] =>
    some { tag := read2 t1 t0, hold := h.toNat, slot := l.toNat, target := read4 m3 m2 m1 m0
           demand := read2 d1 d0, priority := p.toNat }
  | _ => none

def OrderArgs.bytes (a : OrderArgs) : Bytes :=
  bytes2 a.tag ++ [byteOf a.hold, byteOf a.slot] ++ bytes4 a.target ++ bytes2 a.demand ++ [byteOf a.priority]

/-- HALT's scope and reason as given (R62). -/
def readHaltArgs : Bytes → Option (Nat × Nat)
  | [s, r] => some (s.toNat, r.toNat)
  | _ => none

/-- A command with one byte of argument: CLEAR, REMOTE_RESET, QUERY_PEER, QUERY_HOLD. -/
def readByteArg : Bytes → Option Nat
  | [b] => some b.toNat
  | _ => none

/-- A command with no argument. -/
def readNoArg : Bytes → Option Unit
  | [] => some ()
  | _ => none

/-- Clamped to a range (spec/00_scope.md 'Numbers'). -/
def clamp (lo hi n : Nat) : Nat := max lo (min hi n)

end Sys2Proof.Machine
end

