-- ==== Sys2Proof/Machine/Flags.lean ====
section
/-! DEFINITION. The conditions of the state that more than one rule asks for: station states, fault conditions,
held-reason conditions, plan and peer views. Each is a function of State and changes nothing. -/

namespace Sys2Proof.Machine

/-! ### Station states (R6, R70, R80) -/

/-- JOINING, ACTIVE, DEGRADED, LEAVING: the transmitting states (R6). -/
def StationState.transmits : StationState → Bool
  | .joining => true | .active => true | .degraded => true | .leaving => true
  | _ => false

/-- The update states of the governor (R70). -/
def StationState.updates : StationState → Bool
  | .joining => true | .active => true | .degraded => true | .leaving => true | .muted => true
  | _ => false

/-- ACTIVE, DEGRADED or LEAVING: the states that may feed and that send STATUS (R80, R173). -/
def StationState.onQuay : StationState → Bool
  | .active => true | .degraded => true | .leaving => true
  | _ => false

/-- ACTIVE or DEGRADED. -/
def StationState.working : StationState → Bool
  | .active => true | .degraded => true
  | _ => false

def State.transmits (s : State) : Bool := s.station.state.transmits
def State.onQuay (s : State) : Bool := s.station.state.onQuay
def State.working (s : State) : Bool := s.station.state.working
def State.isUnloader (s : State) : Bool := s.station.straps.role == .unloader
def State.isIntake (s : State) : Bool := s.station.straps.role == .intake

/-- The own station number (R166). -/
def State.own (s : State) : StationNo := s.station.straps.number

/-- The station numbers in ascending order. -/
def stations : List StationNo := [0, 1, 2, 3, 4, 5, 6, 7, 8, 9, 10, 11, 12, 13, 14, 15]

/-- The peers' numbers in ascending order (R24: no entry for the own number). -/
def State.peers (s : State) : List StationNo := stations.filter (fun j => j != s.own)

/-- The entry of a station number. -/
def State.entry (s : State) (j : StationNo) : PeerEntry := s.table.entries[j]

/-! ### Counts held at a value -/

/-- A count raised by `k` and held at `top` (spec/00_scope.md 'Numbers'). -/
def holdAt (top n k : Nat) : Nat := min top (n + k)

/-! ### Halts (R60) -/

/-- Whether a station number is in the halt set. -/
def haltMember (halts : BitVec 16) (j : StationNo) : Bool := halts.getLsbD j.val

/-- The set with one member, or none: bit n stands for station n (R192). -/
def haltBit (j : StationNo) : BitVec 16 := BitVec.ofNat 16 (2 ^ j.val)

def haltInsert (halts : BitVec 16) (j : StationNo) : BitVec 16 := halts ||| haltBit j
def haltErase (halts : BitVec 16) (j : StationNo) : BitVec 16 := halts &&& ~~~(haltBit j)

/-- The number of members (R65). -/
def haltCount (halts : BitVec 16) : Nat := (stations.filter (fun j => haltMember halts j)).length

/-- The halt set is non-empty (R61). -/
def State.halted (s : State) : Bool := s.share.halts != 0#16

/-! ### Plan (R89) -/

/-- The plan as its readers see it: only when READY (R89). -/
def State.readyPlan (s : State) : Option PlanRecord :=
  match s.plan.phase with
  | .ready => s.plan.record
  | _ => none

/-- The given entry of a hold number (1 to 12) of a plan record. -/
def PlanRecord.hold (p : PlanRecord) (h : Nat) : Option HoldEntry :=
  if hh : 1 ≤ h ∧ h ≤ 12 then p.holds[h - 1]'(by omega) else none

/-- Slot count of a hold entry: 1 or 2 (R89). -/
def HoldEntry.slots (e : HoldEntry) : Nat := if e.pos2.isSome then 2 else 1

/-- The rail position of a slot (R89). -/
def HoldEntry.slotPos (e : HoldEntry) (slot : Nat) : Option Nat :=
  if slot = 1 then some e.pos1 else if slot = 2 then e.pos2 else none

/-- The position of a hold and slot in the READY plan (R34, R108). -/
def State.planPos (s : State) (hold slot : Nat) : Option Nat :=
  match s.readyPlan with
  | some p => if hold ≤ p.count then (p.hold hold).bind (fun e => e.slotPos slot) else none
  | none => none

/-- The plan id announced: the own READY plan id, or 0 (R105). -/
def State.announcedPlan (s : State) : Nat :=
  match s.readyPlan with
  | some p => p.id
  | none => 0

/-- A mass of a hold number held in a vector by hold; 0 outside 1 to 12. -/
def massAt (v : Vector Nat 12) (h : Nat) : Nat :=
  if hh : 1 ≤ h ∧ h ≤ 12 then v[h - 1]'(by omega) else 0

/-- The own cell of a hold: recall base plus attributed mass, held at the ceiling (R95). -/
def State.ownCell (s : State) (h : Nat) : Nat :=
  min Config.massMax (massAt s.plan.recallBase h + massAt s.plan.attributed h)

/-- Cell (h, j) of the hold account table (R94, R95). -/
def State.cell (s : State) (h : Nat) (j : StationNo) : Nat :=
  if j = s.own then s.ownCell h
  else if hh : 1 ≤ h ∧ h ≤ 12 then (s.plan.cells[h - 1]'(by omega))[j] else 0

/-- Hold numbers 1 to 12. -/
def holdNumbers : List Nat := [1, 2, 3, 4, 5, 6, 7, 8, 9, 10, 11, 12]

/-! ### Machine (R150, R72, R129) -/

/-- The last good MEASURE carries FAULT. -/
def State.machineFaulted (s : State) : Bool :=
  match s.machine.last with
  | some m => m.fault
  | none => false

/-- The nozzle hold and slot of the last good MEASURE, or 0 and 0 where there is none. -/
def State.nozzle (s : State) : Nat × Nat :=
  match s.machine.last with
  | some m => (m.hold, m.slot)
  | none => (0, 0)

/-- Cm (R72): the capacity of the last good MEASURE when it has READY set and MACHINE_SILENT is clear. -/
def State.machineCap (s : State) : Nat :=
  if s.machine.silent then 0
  else match s.machine.last with
    | some m => if m.ready then m.capacity else 0
    | none => 0

/-! ### Orders (R123, R129) -/

/-- RUNNING is an empty set of held reasons. -/
def Held.any (h : Held) : Bool := h.halt || h.choke || h.limit || h.machine || h.link

/-- The active order is DISCHARGING (RUNNING or HELD). -/
def State.discharging (s : State) : Option OrderRecord :=
  match s.order.active with
  | some o => if o.state = .discharging then some o else none
  | none => none

/-- The active order is DISCHARGING-RUNNING. -/
def State.running (s : State) : Bool :=
  match s.discharging with
  | some o => !o.held.any
  | none => false

/-- Held reason MACHINE (R129). -/
def State.machineHeld (s : State) : Bool := s.machine.silent || s.machineFaulted

/-- Held reason LINK (R129). -/
def State.linkHeld (s : State) : Bool := !s.onQuay || s.table.selfSilent

/-- The held reasons at entry to DISCHARGING (R129): HOLD_LIMIT is never present at entry. -/
def State.heldNow (s : State) : Held where
  halt := s.halted
  choke := s.machine.choke
  limit := false
  machine := s.machineHeld
  link := s.linkHeld

/-- The order unit holds an active or incoming order (R142, R174). -/
def State.orderHeld (s : State) : Bool := s.order.active.isSome || s.order.incoming.isSome

/-- An order is active, incoming, suspended or waiting (R90, R93). -/
def State.anyOrder (s : State) : Bool :=
  s.orderHeld || !s.order.stack.isEmpty || !s.order.queue.isEmpty

/-! ### Configuration -/

/-- A field of the configuration record, 0 where the record is absent (no rule reads it there). -/
def State.configNat (s : State) (f : ConfigRecord → Nat) : Nat :=
  match s.station.config with
  | some c => f c
  | none => 0

/-- Whole seconds from a recorded time, rounded down (R34, R106). -/
def State.secondsSince (s : State) (t : Nat) : Nat := (s.now - t) / 1000

/-- The own claim age: whole seconds since the claim time, held at 65 535; 0 with no claim time (R106). -/
def State.claimAge (s : State) : Nat :=
  match s.claim.time with
  | some t => min Config.countMax (s.secondsSince t)
  | none => 0

/-- A peer's claim age now: the age at receipt plus the whole seconds since (R34). -/
def State.peerClaimAge (s : State) (c : PeerClaim) : Nat :=
  min Config.countMax (c.age + s.secondsSince c.receipt)

end Sys2Proof.Machine
end

