-- ==== Sys2Proof/Machine/Ops.lean ====
section
/-! DEFINITION. The operations every block uses: the clock, the report queue (R186, R187, R189), the response queue
(R179), the machine output (R151) and the link controller's queues (R13 to R17). -/

namespace Sys2Proof.Machine

/-! ### The clock (log 1, 2) -/

/-- A command with time `t` is taken at `t`, or at once where the clock has passed it. -/
def State.advance (t : Nat) (s : State) : State := { s with now := max s.now t }

/-! ### Reports -/

/-- An argument word (R186). -/
def reportWord (n : Nat) : BitVec 32 := BitVec.ofNat 32 n

/-- An argument stated as "none" (R186). -/
def noneWord : Nat := 4294967295

/-- Appends a report that passed its level, or counts it lost against a full queue; the attention line is asserted
by the append that makes the queue non-empty (R187, R189). -/
def Console.enqueue (r : Report) (c : Console) : Console :=
  if c.reports.length < 16 then { c with reports := c.reports ++ [r], attention := true }
  else { c with lost := holdAt Config.countMax c.lost 1 }

/-- Makes a report: its level is compared with the report level in force (R186); one that passes goes to the queue
(R187), any other is discarded. -/
def State.report (level : Level) (source : Source) (code : Nat) (args : List Nat) (s : State) : State :=
  if level.code ≤ s.station.reportLevel then
    { s with console := s.console.enqueue ⟨level, source, code, args.map reportWord⟩ }
  else s

/-! The table of report codes (chapter Console Port and Reports): level, source and arguments of every code. -/

def State.reportAlone (n : Nat) : State → State := State.report .info .link 1 [n]
def State.reportTxqFull (k : Kind) : State → State := State.report .warning .link 2 [k.code]
def State.reportDegraded (n : Nat) : State → State := State.report .warning .link 3 [n]
def State.reportLinkRecovered : State → State := State.report .info .link 4 []
def State.reportMuted (n : Nat) : State → State := State.report .error .link 5 [n]
def State.reportRxPoor : State → State := State.report .warning .link 6 []
def State.reportDupNumber (k : Kind) : State → State := State.report .error .link 7 [k.code]
def State.reportPeerLost (j : StationNo) : State → State := State.report .info .table 8 [j.val]
def State.reportBadContent (source : Source) (j : StationNo) (k : Kind) : State → State :=
  State.report .warning source 9 [j.val, k.code]
def State.reportSelfSilent (ms : Nat) : State → State := State.report .warning .table 10 [ms]
def State.reportCapMismatch (j : StationNo) (peer own : Nat) : State → State :=
  State.report .warning .table 11 [j.val, peer, own]
def State.reportRaiseYielded (target : Nat) (c : YieldCause) : State → State :=
  State.report .info .share 12 [target, c.code]
def State.reportDrainStall (l g : Nat) (feed : Option Nat) : State → State :=
  State.report .warning .share 13 [l, g, feed.getD noneWord]
def State.reportShed (e c g : Nat) : State → State := State.report .warning .share 14 [e, c, g]
def State.reportHaltIn (j : StationNo) (reason : Nat) : State → State := State.report .warning .share 15 [j.val, reason]
def State.reportHaltCleared (j : StationNo) : State → State := State.report .info .share 16 [j.val]
def State.reportHaltOut (sc : HaltScope) (reason : Nat) : State → State := State.report .info .share 17 [sc.code, reason]
def State.reportOverride (n : Nat) : State → State := State.report .warning .share 18 [n]
def State.reportHoldLimit (h : Nat) (l : ClosedLimit) : State → State := State.report .warning .governor 19 [h, l.code]
def State.reportPlanMismatch (j : StationNo) (peer own : Nat) : State → State :=
  State.report .warning .plan 20 [j.val, peer, own]
def State.reportRecallLate (j : StationNo) (id : Nat) : State → State := State.report .info .plan 21 [j.val, id]
def State.reportClaimYielded (h l : Nat) (j : StationNo) (c : Conflict) : State → State :=
  State.report .warning .claim 22 [h, l, j.val, c.code]
/-- ORDER_END: information for COMPLETE and CANCELLED, warning for FAILED and EXHAUSTED (R135). -/
def State.reportOrderEnd (tag : Nat) (e : EndState) (done : Nat) (r : EndReason) : State → State :=
  State.report (match e with | .complete => .info | .cancelled => .info | .failed => .warning | .exhausted => .warning)
    .order 23 [tag, e.code, done, r.code]
def State.reportMachineSilent (seq : Option (BitVec 8)) : State → State :=
  State.report .warning .machine 24 [match seq with | some q => q.toNat | none => noneWord]
def State.reportMachineHeard (seq : BitVec 8) : State → State := State.report .info .machine 25 [seq.toNat]
def State.reportMachineFault (feed : Nat) : State → State := State.report .warning .machine 26 [feed]
def State.reportWeighJump (d count : Nat) : State → State := State.report .warning .machine 27 [d, count]
def State.reportCarryMerged (newest old mass : Nat) : State → State := State.report .warning .machine 28 [newest, old, mass]
def State.reportChoke (v n : Nat) : State → State := State.report .warning .machine 29 [v, n]
def State.reportChokeCleared (v : Nat) : State → State := State.report .info .machine 30 [v]
def State.reportStarted (c : ResetCause) (st : Straps) : State → State :=
  State.report .info .station 31 [c.code, st.number.val, Role.code st.role, Belt.code st.belt]
def State.reportRemoteRefused (j : StationNo) : State → State := State.report .info .station 32 [j.val]
def State.reportJoined (c : StartCause) : State → State := State.report .info .station 33 [c.code]
def State.reportLeftQuay : State → State := State.report .info .station 34 []
def State.reportConsoleFrameError (n : Nat) : State → State := State.report .warning .console 35 [n]
def State.reportConsoleOverrun (tag : BitVec 16) : State → State := State.report .warning .console 36 [tag.toNat]

/-! ### Responses (R179) -/

/-- A response starts at once when none is being sent, and waits otherwise. -/
def Console.respond (r : Response) (c : Console) : Console :=
  match c.sending with
  | none => { c with sending := some r }
  | some _ => { c with waiting := c.waiting ++ [r] }

/-! ### The machine output (R151) -/

/-- Whether two frames are of one kind: a waiting SETPOINT is replaced by a SETPOINT, a MOVE by a MOVE. -/
def MachineFrame.sameKind : MachineFrame → MachineFrame → Bool
  | .setpoint _, .setpoint _ => true
  | .move _ _ _, .move _ _ _ => true
  | _, _ => false

/-- A frame handed while one of its kind waits replaces it and keeps its place; otherwise it waits last. -/
def placeWaiting (f : MachineFrame) : List MachineFrame → List MachineFrame
  | [] => [f]
  | g :: rest => if f.sameKind g then f :: rest else g :: placeWaiting f rest

/-- Hands a frame to the machine output. -/
def State.handMachine (f : MachineFrame) (s : State) : State :=
  match s.machine.sending with
  | none => { s with machine := { s.machine with sending := some f } }
  | some _ => { s with machine := { s.machine with waiting := placeWaiting f s.machine.waiting } }

/-- A MOVE to the own position x with the nozzle hold and slot of the last good MEASURE, when x is present, to stop
travel (R116, R134, R137). -/
def State.stopTravel (s : State) : State :=
  match s.machine.position with
  | some x => s.handMachine (.move x s.nozzle.1 s.nozzle.2)
  | none => s

/-! ### The link controller's queues (R13 to R17) -/

/-- The kind of the own frame on the line, if one is. -/
def Link.lineKind (l : Link) : Option Kind := l.onLine.map (fun a => a.content.kind)

/-- How many urgent frames stand in the urgent queue, the one on the line counted with them (log 9). -/
def Link.urgentCount (l : Link) : Nat :=
  l.urgent.length + (match l.lineKind with | some k => if k.urgent then 1 else 0 | none => 0)

/-- The urgent queue holds 2 frames (R13). -/
def State.urgentFull (s : State) : Bool := decide (2 ≤ s.link.urgentCount)

/-- Offers a frame to the urgent queue: appended where fewer than 2 stand in it and the station transmits,
refused otherwise (R13, R17). -/
def State.offerUrgent (c : Content) (s : State) : State :=
  if s.transmits && !s.urgentFull then { s with link := { s.link with urgent := s.link.urgent ++ [c] } } else s

/-- How many TALLY and RECALL entries the list holds, one on the line counted (R15). -/
def Link.listCount (l : Link) : Nat :=
  (l.normal.filter (fun c => c.kind.listed)).length
    + (match l.lineKind with | some k => if k.listed then 1 else 0 | none => 0)

/-- Withdraws a kind: a queued frame leaves the set; against a frame on the line the withdrawal is recorded and held
content is discarded (R16). -/
def Link.withdraw (k : Kind) (l : Link) : Link :=
  { l with
    normal := l.normal.filter (fun c => c.kind != k)
    onLine := l.onLine.map (fun a => if a.content.kind = k then { a with withdrawn := true } else a)
    held := match l.held with | some c => if c.kind = k then none else some c | none => none }

def State.withdraw (k : Kind) (s : State) : State := { s with link := s.link.withdraw k }

/-- Replaces the content of a queued single kind in its place (R14). -/
def replaceKind (c : Content) : List Content → List Content
  | [] => []
  | d :: rest => if d.kind = c.kind then c :: rest else d :: replaceKind c rest

/-- A single kind offered to the normal transmit set: held behind one on the line, replacing a queued one in its
place, or appended (R14). -/
def Link.placeSingle (c : Content) (l : Link) : Link :=
  if l.lineKind = some c.kind then { l with held := some c }
  else if l.normal.any (fun d => d.kind == c.kind) then { l with normal := replaceKind c l.normal }
  else { l with normal := l.normal ++ [c] }

/-- Offers a frame of a single kind to the normal transmit set; refused in a state that does not transmit (R17).
Offering a LOWER withdraws any RAISE (R16). -/
def State.offerSingle (c : Content) (s : State) : State :=
  if s.transmits then
    let l := if c.kind = .lower then s.link.withdraw .raise else s.link
    { s with link := l.placeSingle c }
  else s

/-- Offers a TALLY or RECALL to its list: appended where it holds fewer than 4, dropped with TXQ_FULL otherwise
(R15); refused in a state that does not transmit (R17). -/
def State.offerListed (c : Content) (s : State) : State :=
  if s.transmits then
    if s.link.listCount < 4 then { s with link := { s.link with normal := s.link.normal ++ [c] } }
    else s.reportTxqFull c.kind
  else s

/-- Both queues emptied and held content discarded on entry to OFFLINE or MUTED (R17). -/
def State.emptyQueues (s : State) : State :=
  { s with link := { s.link with urgent := [], normal := [], held := none } }

/-- The frame offered at a start bit: the head of the urgent queue, or else the first entry of the normal set (R6). -/
def Link.choose (l : Link) : Option (Content × Link) :=
  match l.urgent with
  | c :: rest => some (c, { l with urgent := rest })
  | [] => match l.normal with
    | c :: rest => some (c, { l with normal := rest })
    | [] => none

/-- The arbitration word: urgent bit, rank, station number (R6, R191). -/
def arbitrationWord (urgent : Bool) (rank : Nat) (number : StationNo) : BitVec 9 :=
  BitVec.ofNat 9 ((if urgent then 256 else 0) + rank * 16 + number.val)

/-- The attempt on the line ended without completing: a frame with a withdrawal recorded is withdrawn; any other
returns to its place at the head, with held content in place of its own (R7, R14, R16). -/
def Link.returnFrame (l : Link) : Link :=
  match l.onLine with
  | none => l
  | some a =>
    if a.withdrawn then
      { l with onLine := none, held := none, normal := (match l.held with | some c => [c] | none => []) ++ l.normal }
    else if a.content.kind.urgent then { l with onLine := none, held := none, urgent := a.content :: l.urgent }
    else { l with onLine := none, held := none, normal := (l.held.getD a.content) :: l.normal }

/-- The attempt on the line completed: held content is appended as a new entry (R14). -/
def Link.finishFrame (l : Link) : Link :=
  { l with onLine := none, held := none, normal := l.normal ++ (match l.held with | some c => [c] | none => []) }

/-- A frame of the kind stands queued, held or on the line. -/
def Link.holds (p : Content → Bool) (l : Link) : Bool :=
  l.normal.any p || (match l.held with | some c => p c | none => false)
    || (match l.onLine with | some a => p a.content | none => false)

/-- A LOWER carrying this grant is queued, held or on the line (R53, R55). -/
def Link.lowerPending (g : Nat) (l : Link) : Bool := l.holds (fun c => c == .lower g)

end Sys2Proof.Machine
end

