-- ==== Sys2Proof/Machine/Feed.lean ====
section
/-! DEFINITION. The clamps of the feed setpoint between governor updates (R82, R83) and the signals that end a
leave (R175). -/

namespace Sys2Proof.Machine

/-- F takes a value; where it becomes 0 the choke entry timer stops (R159). -/
def State.setFeed (f : Nat) (s : State) : State :=
  if f = 0 then
    { s with gov := { s.gov with feed := 0 }, machine := { s.machine with chokeEntry := none } }
  else { s with gov := { s.gov with feed := f } }

/-- The hold-off clamp (R82): F becomes 0 at once, a SETPOINT carrying 0 is handed over where F was above 0, and F_t
becomes 0 with the condition concerned. In the intake role the governor's values stay as at reset (R69). -/
def State.holdOffClamp (c : HoldOff) (s : State) : State :=
  if s.isUnloader then
    let s1 := if 0 < s.gov.feed then (s.setFeed 0).handMachine (.setpoint 0) else s
    { s1 with gov := { s1.gov with target := 0, bindTarget := .holdOff c } }
  else s

/-- The lowering clamp (R83): F above L becomes L at once and is handed over. -/
def State.loweringClamp (l : Nat) (s : State) : State :=
  if l < s.gov.feed then (s.setFeed l).handMachine (.setpoint l) else s

/-- With both leave waits set a BYE with reason LEAVE is offered (R175). -/
def State.tryBye (s : State) : State :=
  if s.station.leaveDrain && s.station.leaveRelease then s.offerSingle (.bye 1) else s

/-- The drain-finished signal to the station controller; for an abandoned leave it sets no wait (R175). -/
def State.leaveDrained (s : State) : State :=
  if s.station.state = .leaving then
    State.tryBye { s with station := { s.station with leaveDrain := true } }
  else s

/-- The release-complete signal to the station controller; for an abandoned leave it sets no wait (R175). -/
def State.leaveReleased (s : State) : State :=
  if s.station.state = .leaving then
    State.tryBye { s with station := { s.station with leaveRelease := true } }
  else s

end Sys2Proof.Machine
end

