-- ==== Sys2Proof/Machine/Claims.lean ====
section
/-! DEFINITION. The claim unit: intervals on the rail (R110, R111), eligibility (R109), the claim request (R108), the
CLAIM while queued (R112) and the release of the claim (R117, R118). Conflicts are in Machine/Conflicts.lean. -/

namespace Sys2Proof.Machine

/-! ### Intervals on the rail -/

/-- The own path interval for a slot at position `p` from position `x`: widened by the spacing and not clamped to the
rail (R110). -/
def ownPath (spacing x p : Nat) : Int × Int :=
  ((min x p : Int) - (spacing : Int), (max x p : Int) + (spacing : Int))

/-- Closed intervals overlap when they share any point (R110). -/
def overlaps (a b : Int × Int) : Bool := decide (a.1 ≤ b.2) && decide (b.1 ≤ a.2)

/-- The occupied interval of an entry (R111). -/
def PeerEntry.occupied (e : PeerEntry) : Option (Int × Int) :=
  match e.position with
  | none => none
  | some x =>
    match e.claim with
    | some c => match c.target with
      | some p => some ((min x p : Nat), (max x p : Nat))
      | none => some ((x : Nat), (x : Nat))
    | none => some ((x : Nat), (x : Nat))

/-- PRESENT or SILENT. -/
def PeerEntry.heard (e : PeerEntry) : Bool :=
  match e.presence with
  | .present => true
  | .silent => true
  | _ => false

/-- Role unloader or unknown (R24, R43, R109). -/
def PeerEntry.unloads (e : PeerEntry) : Bool := e.role != some .intake

/-- The entry's slot claim names this hold and slot. -/
def PeerEntry.claims (hold slot : Nat) (e : PeerEntry) : Bool :=
  match e.claim with
  | some c => c.hold == hold && c.slot == slot
  | none => false

/-! ### Eligibility (R109) -/

/-- Condition 3 fails for this peer: a heard unloader without a rail position, or a heard claim without a target
position. -/
def PeerEntry.viewGap (e : PeerEntry) : Bool :=
  e.heard && ((e.unloads && e.position.isNone)
    || (match e.claim with | some c => c.target.isNone | none => false))

/-- The entry's occupied interval shares a point with an own path interval. -/
def PeerEntry.inPath (path : Int × Int) (e : PeerEntry) : Bool :=
  match e.occupied with
  | some i => overlaps path i
  | none => false

/-- The first condition of R109 that fails for a request, in table order. R109 says that intake entries have no position
and no claim and play no part; one that a CLAIM or a STATUS has given a claim or a position all the same (R29, R34) is
counted in conditions 3 to 5, which is the model's choice (log 34). -/
def State.claimBlocked (r : ClaimRequest) (s : State) : Option BlockedReason :=
  if !(s.station.state == .active && !s.link.rxPoor) then some .link
  else if s.halted then some .halted
  else match s.machine.position with
    | none => some .viewIncomplete
    | some x =>
      if s.peers.any (fun j => (s.entry j).viewGap) then some .viewIncomplete
      else if s.peers.any (fun j => (s.entry j).heard && (s.entry j).claims r.hold r.slot) then some .slotTaken
      else if s.peers.any (fun j => (s.entry j).inPath (ownPath (s.configNat (·.spacing)) x r.pos)) then
        some .pathBlocked
      else none

/-- The active order's blocked reason follows the request's while it is CLAIMING (R106, R126). -/
def OrderUnit.setBlocked (b : Option BlockedReason) (u : OrderUnit) : OrderUnit :=
  match u.active with
  | some o => if o.state = .claiming then { u with active := some { o with blocked := b } } else u
  | none => u

/-- Records or removes the blocked reason of the request (R106, R109). -/
def State.setBlocked (b : Option BlockedReason) (s : State) : State :=
  { s with
    claim := { s.claim with request := s.claim.request.map (fun r => { r with blocked := b }) }
    order := s.order.setBlocked b }

/-- Forms the own claim from an eligible request and offers its CLAIM (R112). -/
def State.offerClaim (r : ClaimRequest) (s : State) : State :=
  let b : ClaimBody := ⟨r.hold, r.slot, s.machine.position.getD 0, r.pos⟩
  State.offerSingle (.claim b)
    { s with claim := { s.claim with phase := .queued, own := some b, withdrawn := false } }

/-- A request held in phase NONE is tested: its CLAIM is offered, or the first failing reason recorded (R109). -/
def State.examineRequest (s : State) : State :=
  match s.claim.request with
  | none => s
  | some r =>
    match s.claimBlocked r with
    | some b => s.setBlocked (some b)
    | none => (s.setBlocked none).offerClaim r

/-- The own claim is removed before it was announced, and the phase becomes NONE. -/
def State.dropClaim (s : State) : State :=
  { s with claim := { s.claim with phase := .none, own := none } }

/-- A QUEUED CLAIM tested again: withdrawn when a condition fails, offered again when x has moved (R112). -/
def State.retestQueued (s : State) : State :=
  match s.claim.request with
  | none => s
  | some r =>
    match s.claimBlocked r with
    | some b => ((s.withdraw .claim).dropClaim).setBlocked (some b)
    | none =>
      match s.claim.own with
      | some c => if some c.fromPos = s.machine.position then s else s.offerClaim r
      | none => s.offerClaim r

/-- The test of R109 at one of its events: in NONE for a held request, in QUEUED for the CLAIM (R112). -/
def State.claimRetest (s : State) : State :=
  match s.claim.phase with
  | .none => s.examineRequest
  | .queued => s.retestQueued
  | _ => s

/-- The order unit's claim request (R108): it replaces any held, and is examined at once in phase NONE. -/
def State.makeRequest (hold slot : Nat) (s : State) : State :=
  let s1 := { s with claim := { s.claim with request := some ⟨hold, slot, (s.planPos hold slot).getD 0, none⟩ } }
  if s.claim.phase = .none then s1.examineRequest else s1

/-- The order unit withdraws its claim request (R108). -/
def State.withdrawRequest (s : State) : State :=
  let s1 := { s with claim := { s.claim with request := none } }
  match s.claim.phase with
  | .queued => (s1.withdraw .claim).dropClaim
  | .sending => (State.withdraw .claim { s1 with claim := { s1.claim with withdrawn := true } })
  | _ => s1

/-! ### Release (R117, R118) -/

/-- Entry to RELEASING: the RELEASE is offered, or owed where the station does not transmit (R118). -/
def State.enterReleasing (s : State) : State :=
  let s1 := { s with claim := { s.claim with phase := .releasing, settle := none, releaseOwed := !s.transmits } }
  match s.claim.own with
  | some c => s1.offerSingle (.release c.hold c.slot)
  | none => s1

/-- A release waiter: the order unit or the station controller (R106). -/
inductive Waiter where
  | order
  | station
  deriving DecidableEq, Repr

/-- The requester joins the release waiters. -/
def State.joinRelease (w : Waiter) (s : State) : State :=
  match w with
  | .order => { s with claim := { s.claim with waitOrder := true } }
  | .station => { s with claim := { s.claim with waitStation := true } }

/-- A release request acts on the phase (R117); the flag says whether the requester is signalled at once. -/
def State.startRelease (w : Waiter) (s : State) : State × Bool :=
  match s.claim.phase with
  | .none => (s, true)
  | .queued => ((s.withdraw .claim).dropClaim, true)
  | .sending => (State.withdraw .claim { (s.joinRelease w) with claim := { (s.joinRelease w).claim with withdrawn := true } }, false)
  | .settling => ((s.joinRelease w).enterReleasing, false)
  | .settled => ((s.joinRelease w).enterReleasing, false)
  | .releasing => (s.joinRelease w, false)

end Sys2Proof.Machine
end

