-- ==== Sys2Proof/Machine/Orders.lean ====
section
/-! DEFINITION. The order unit's own movements: becoming active (R126), the release and drain signals (R134, R139,
R140), the finished list (R135) and the choice of the next order (R136). What decides an end, and preemption, are in
Machine/OrderEvents.lean, above the share unit. -/

namespace Sys2Proof.Machine

/-- The active order of the order unit is replaced. -/
def State.setActive (o : Option OrderRecord) (s : State) : State :=
  { s with order := { s.order with active := o } }

/-- An order becomes the active order and enters CLAIMING (R126): the choke history is emptied (R162), and its claim
request is made unless a release of the order unit is outstanding. -/
def State.activate (o : OrderRecord) (s : State) : State :=
  let s1 := s.setActive (some { o with state := .claiming, held := Held.none, blocked := none })
  let s2 := { s1 with machine := { s1.machine with history := [] } }
  if s2.order.releaseOut then s2 else s2.makeRequest o.hold o.slot

/-- The next order, when the active order becomes absent with no incoming order (R136). -/
def State.nextOrder (s : State) : State :=
  match s.order.stack, s.order.queue with
  | [], [] => s
  | t :: rest, [] => State.activate t { s with order := { s.order with stack := rest } }
  | [], q :: rest => State.activate q { s with order := { s.order with queue := rest } }
  | t :: ts, q :: qs =>
    if t.priority < q.priority then State.activate q { s with order := { s.order with queue := qs } }
    else State.activate t { s with order := { s.order with stack := ts } }

/-- The incoming order becomes active, or the next is chosen (R135 step 3, R139, R140). -/
def State.followOn (s : State) : State :=
  match s.order.incoming with
  | some i => State.activate i { s with order := { s.order with incoming := none } }
  | none => s.nextOrder

/-- An end state as an order state (R123). -/
def EndState.orderState : EndState → OrderState
  | .complete => .complete | .cancelled => .cancelled | .failed => .failed | .exhausted => .exhausted

/-- The finished list takes a record; the oldest is dropped where it held 8 (R135). -/
def OrderUnit.finish (o : OrderRecord) (u : OrderUnit) : OrderUnit :=
  { u with finished := (if u.finished.length < 8 then u.finished else u.finished.tail) ++ [o] }

/-- Steps 1 and 2 of R135: to the finished list, and ORDER_END. -/
def State.recordEnd (o : OrderRecord) (e : EndState) (r : EndReason) (s : State) : State :=
  let done : OrderRecord := { o with state := e.orderState, endState := some e, endReason := some r }
  State.reportOrderEnd o.tag e o.done r { s with order := s.order.finish done }

/-- R135 for the active order: to the finished list with its recorded end, then what follows becomes active. -/
def State.finishActive (o : OrderRecord) (s : State) : State :=
  let s1 := s.recordEnd o (o.endState.getD .complete) (o.endReason.getD .target)
  (s1.setActive none).followOn

/-- The SUSPENDING order is pushed on the stack and what follows becomes active (R139). -/
def State.suspendActive (o : OrderRecord) (s : State) : State :=
  let s1 := { s with order := { s.order with
    active := none
    stack := { o with state := .suspended, held := Held.none, blocked := none } :: s.order.stack } }
  s1.followOn

/-- The release-complete signal to the order unit (R126, R134, R139, R140). -/
def State.orderReleased (s : State) : State :=
  let s1 := { s with order := { s.order with releaseOut := false } }
  match s.order.active with
  | none => s1
  | some o =>
    match o.state with
    | .claiming => s1.makeRequest o.hold o.slot
    | .ending => if s.order.endDrained && !s.order.endReleasePending then s1.finishActive o else s1
    | .suspending => if o.endState.isSome then s1.finishActive o else s1.suspendActive o
    | _ => s1

/-- The order unit's release request (R117): outstanding until it is signalled complete (R122). -/
def State.orderRelease (s : State) : State :=
  let r := State.startRelease .order { s with order := { s.order with releaseOut := true } }
  if r.2 then r.1.orderReleased else r.1

/-- The drain-finished signal to the order unit: an ENDING order makes a release request that waited for it, or ends
where its release is complete (R134). -/
def State.orderDrained (s : State) : State :=
  match s.order.active with
  | none => s
  | some o =>
    if o.state = .ending then
      if s.order.endReleasePending then
        State.orderRelease { s with order := { s.order with endDrained := true, endReleasePending := false } }
      else
        let s1 := { s with order := { s.order with endDrained := true } }
        if s.order.releaseOut then s1 else s1.finishActive o
    else s

/-- The station controller's release request (R117, R174). -/
def State.stationRelease (s : State) : State :=
  let r := State.startRelease .station s
  if r.2 then r.1.leaveReleased else r.1

/-- The release waiters are told that the release is complete (R117, R118). -/
def State.signalReleased (s : State) : State :=
  let s0 := { s with claim := { s.claim with waitOrder := false, waitStation := false } }
  let s1 := if s.claim.waitOrder then s0.orderReleased else s0
  if s.claim.waitStation then s1.leaveReleased else s1

end Sys2Proof.Machine
end

