-- ==== Sys2Proof/Machine/Shares.lean ====
section
/-! DEFINITION. The share unit: reservations, capacity and headroom (R43, R44), raises (R46 to R51), lowerings (R52 to
R57), release, shedding and halts (R58 to R63). -/

namespace Sys2Proof.Machine

/-! ### Reservations, capacity, headroom -/

/-- Belt of an entry is the own belt, or unknown (R43). -/
def PeerEntry.onBelt (b : Belt) (e : PeerEntry) : Bool :=
  match e.belt with
  | some x => x == b
  | none => true

/-- The entry is counted in S (R43). -/
def PeerEntry.counted (b : Belt) (e : PeerEntry) : Bool := e.heard && e.unloads && e.onBelt b

/-- The larger of the announced grant and the pending raise's target (R43). -/
def PeerEntry.reservation (e : PeerEntry) : Nat :=
  match e.raise with
  | some r => max e.grant r.target
  | none => e.grant

/-- S (R43). -/
def State.sumReserved (s : State) : Nat :=
  (s.peers.map (fun j => if (s.entry j).counted s.station.straps.belt then (s.entry j).reservation else 0)).sum

/-- The least of a capacity and an optional further one. -/
def minOpt (c : Nat) : Option Nat → Nat
  | some d => min c d
  | none => c

/-- The capacity of a PRESENT or SILENT entry that holds a mismatch mark (R44). -/
def PeerEntry.markedCapacity (e : PeerEntry) : Option Nat :=
  if e.heard && e.mismatch.isSome then some e.capacity else none

/-- C (R44): the least of the own configured capacity, the marked peers' and the intake capacity list; 0 in CONFIG. -/
def State.effectiveCapacity (s : State) : Nat :=
  match s.station.config with
  | none => 0
  | some c =>
    let c1 := (s.peers.map (fun j => (s.entry j).markedCapacity)).foldl minOpt c.capacity
    (stations.map (fun j => s.share.intakeCaps[j])).foldl minOpt c1

/-- H = C - S - G, signed (R43). -/
def State.headroom (s : State) : Int := (s.share.capacity : Int) - s.share.resv - s.share.grant

/-- I = min(A - G, 200, H) (R47, R48). -/
def State.increment (s : State) : Int := min (min ((s.gov.allowed : Int) - s.share.grant) 200) s.headroom

/-- The last measured feed is present and at most `n` (R53, R57, R138). -/
def State.feedAtMost (n : Nat) (s : State) : Bool :=
  match s.share.feed with
  | some f => decide (f ≤ n)
  | none => false

def State.setRaise (r : Raise) (s : State) : State := { s with share := { s.share with raise := r } }

/-! ### Yields (R57) -/

/-- While a yield is owed and no lowering is in progress, a LOWER with G is offered once the feed allows it, and again at
every test that passes: one queued is replaced in its place, one on the line has the new content held behind it (R57,
R14; log 16). -/
def State.yieldTest (s : State) : State :=
  if s.share.yieldOwed && s.share.lowering.isNone && s.feedAtMost (s.share.grant + 10) then
    s.offerSingle (.lower s.share.grant)
  else s

/-- A SETTLING raise is abandoned (R50): reported, and a yield owed where its LOWER can be sent. -/
def State.abandonSettling (c : YieldCause) (s : State) : State :=
  match s.share.raise with
  | .settling t _ =>
    let s1 := (s.setRaise .none).reportRaiseYielded t c
    if s.transmits then State.yieldTest { s1 with share := { s1.share with yieldOwed := true } } else s1
  | _ => s

/-- Any raise is abandoned for a cause (R48, R50, R52): a QUEUED one is withdrawn, a SENDING one marked, a SETTLING
one abandoned. A SENDING one that is marked keeps its cause: that the first of a lower request and a halt to reach it is the cause
R49 reports is the model's choice (log 39). -/
def State.abandonRaise (c : YieldCause) (s : State) : State :=
  match s.share.raise with
  | .none => s
  | .queued _ => (s.withdraw .raise).setRaise .none
  | .sending t none => (s.withdraw .raise).setRaise (.sending t (some c))
  | .sending _ (some _) => s
  | .settling _ _ => s.abandonSettling c

/-! ### Raises -/

/-- The conflict test of a SETTLING raise: abandoned when C - S - T is below 0 (R50). -/
def State.settleConflict (s : State) : State :=
  match s.share.raise with
  | .settling t _ => if s.share.capacity < s.share.resv + t then s.abandonSettling .conflict else s
  | _ => s

/-- Offers a RAISE to target `t` with the current grant; the phase is QUEUED with T (R47, R48). -/
def State.offerRaise (t : Nat) (s : State) : State :=
  (s.setRaise (.queued t)).offerSingle (.raise t s.share.grant)

/-- R48: a QUEUED raise re-examined, on a change of S or C or (with `update`) at a governor update. That the setting of RX_POOR
and the entry to DEGRADED are not events of it, but are found at the next one, is the model's choice (log 36). -/
def State.reviewRaise (update : Bool) (s : State) : State :=
  match s.share.raise with
  | .queued t =>
    if s.halted || s.share.lowering.isSome || s.station.state != .active || s.link.rxPoor
        || (update && decide (s.gov.allowed ≤ s.share.grant)) || decide (s.increment < 10) then
      (s.withdraw .raise).setRaise .none
    else if s.share.grant + s.increment.toNat = t then s
    else s.offerRaise (s.share.grant + s.increment.toNat)
  | _ => s

/-- S and C recomputed; where either has changed, R48 and then the conflict test of R50 (R43). -/
def State.recompute (s : State) : State :=
  if s.sumReserved = s.share.resv ∧ s.effectiveCapacity = s.share.capacity then s
  else
    ((State.reviewRaise false
      { s with share := { s.share with resv := s.sumReserved, capacity := s.effectiveCapacity } })).settleConflict

/-- R47: a raise is started at a governor update. -/
def State.startRaise (s : State) : State :=
  if s.isUnloader && s.station.state == .active && !s.link.rxPoor && s.share.raise == .none && !s.share.yieldOwed
      && s.share.lowering.isNone && !s.halted && decide (s.share.grant < s.gov.allowed)
      && decide (10 ≤ s.increment) then
    s.offerRaise (s.share.grant + s.increment.toNat)
  else s

/-! ### Lowerings -/

/-- The cause of a lower request (R52); `claim` is the claim unit's yield, of cause order. -/
inductive LowerCause where
  | halt | shed | release | order | claim | leave
  deriving DecidableEq, Repr

def State.setLowering (l : Option Lowering) (s : State) : State := { s with share := { s.share with lowering := l } }

/-- The requester joins the requesters waiting on a lowering (R52). -/
def Lowering.join (c : LowerCause) (l : Lowering) : Lowering :=
  match c with
  | .order => { l with waitOrder := true }
  | .claim => { l with waitClaim := true }
  | .leave => { l with waitStation := true }
  | _ => l

/-- A requester of cause order or leave is signalled at once that its drain has finished (R52). The claim unit, whose
request has the cause order on a yield, does nothing with the signal (R116). -/
def State.signalDrained (c : LowerCause) (s : State) : State :=
  match c with
  | .order => s.orderDrained
  | .leave => s.leaveDrained
  | _ => s

/-- The drain test (R53): when it passes, a LOWER with new grant L is offered and the drain deadline stops (R55). -/
def State.drainTest (s : State) : State :=
  match s.share.lowering with
  | some l =>
    if !s.link.lowerPending l.target && s.transmits && s.feedAtMost (l.target + 10) then
      (s.setLowering (some { l with deadline := none })).offerSingle (.lower l.target)
    else s
  | none => s

/-- The drain deadline is set 15 s ahead where it should run and does not: a lowering in progress, the station
transmitting, no LOWER carrying L queued or on the line (R55; log 17). -/
def State.armDrain (s : State) : State :=
  match s.share.lowering with
  | some l =>
    if l.deadline.isNone && s.transmits && !s.link.lowerPending l.target then
      s.setLowering (some { l with deadline := some (s.now + Config.drainDeadline) })
    else s
  | none => s

/-- A lowering starts (R52): the release timer stops, an owed yield is cleared (R57), the governor clamps (R83). -/
def State.startLowering (c : LowerCause) (target : Nat) (s : State) : State :=
  let l : Lowering := Lowering.join c ⟨target, none, false, false, false⟩
  let s1 := { s with share := { s.share with lowering := some l, releaseTimer := none, yieldOwed := false } }
  (s1.loweringClamp target).drainTest.armDrain

/-- L of a lowering in progress is lowered (R52). -/
def State.deepenLowering (l : Lowering) (c : LowerCause) (target : Nat) (s : State) : State :=
  let s1 := s.setLowering (some { l.join c with target := target })
  (s1.loweringClamp target).drainTest.armDrain

/-- A lower request (R52): it abandons any raise, then starts a lowering, deepens one, joins one, or is answered at
once as finished. -/
def State.lowerRequest (c : LowerCause) (target : Nat) (s : State) : State :=
  let s1 := s.abandonRaise .lower
  match s1.share.lowering with
  | none => if target < s1.share.grant then s1.startLowering c target else s1.signalDrained c
  | some l =>
    if target < l.target then s1.deepenLowering l c target
    else s1.setLowering (some (l.join c))

/-- The waiting requesters of a lowering that ended are signalled (R54). -/
def State.signalWaiters (l : Lowering) (s : State) : State :=
  let s1 := if l.waitOrder then s.orderDrained else s
  if l.waitStation then s1.leaveDrained else s1

/-- An own LOWER has completed with new grant `n` (R54, R57). -/
def State.lowerDone (n : Nat) (s : State) : State :=
  let s1 := { s with share := { s.share with grant := n } }
  match s.share.lowering with
  | none => { s1 with share := { s1.share with yieldOwed := false } }
  | some l =>
    if n ≤ l.target then ((s1.setLowering none).signalWaiters l).yieldTest
    else (s1.setLowering (some { l with deadline := none })).drainTest.armDrain

/-! ### Release, shedding (R58, R59) -/

/-- R58: the release timer examined at a governor update. -/
def State.reviewRelease (s : State) : State :=
  if s.isUnloader && s.working && decide (s.gov.allowed + 50 ≤ s.share.grant) && s.share.lowering.isNone
      && s.share.raise == .none then
    match s.share.releaseTimer with
    | none => { s with share := { s.share with releaseTimer := some (s.now + Config.releaseTimer) } }
    | some _ => s
  else { s with share := { s.share with releaseTimer := none } }

/-- The quotient rounded up. -/
def ceilDiv (a b : Nat) : Nat := (a + (b - 1)) / b

/-- G_s = G - ceil(E × G ÷ (S + G)), not below 0 (R59). -/
def shedTarget (resv grant capacity : Nat) : Nat :=
  grant - ceilDiv ((resv + grant - capacity) * grant) (resv + grant)

/-- R59: shedding evaluated at a governor update. That SHED is reported after the RAISE_YIELDED of its own lower request is the
model's choice (log 20). -/
def State.shed (s : State) : State :=
  if s.isUnloader && s.working then
    if s.share.capacity < s.share.resv + s.share.grant then
      if 0 < s.share.grant then
        let e := s.share.resv + s.share.grant - s.share.capacity
        let g := shedTarget s.share.resv s.share.grant s.share.capacity
        let s1 := s.lowerRequest .shed g
        if s.share.overcommit then s1
        else (State.reportShed e s.share.capacity g { s1 with share := { s1.share with overcommit := true } })
      else s
    else { s with share := { s.share with overcommit := false } }
  else s

/-! ### Held reasons of the active order (R129) -/

/-- The held reasons of a DISCHARGING order follow their conditions; entry to HELD stops the exhaustion timer (R129,
R131). HOLD_LIMIT follows the governor's signals alone. -/
def State.refreshHeld (s : State) : State :=
  match s.order.active with
  | some o =>
    if o.state = .discharging then
      let h := { s.heldNow with limit := o.held.limit }
      { s with order := { s.order with
          active := some { o with held := h }
          exhaustTimer := if h.any then none else s.order.exhaustTimer } }
    else s
  | none => s

/-- Held reason HOLD_LIMIT added to or removed from the DISCHARGING order; entry to HELD stops the exhaustion timer
(R84, R85, R129). -/
def State.setLimitHeld (b : Bool) (s : State) : State :=
  match s.discharging with
  | some o =>
    let h := { o.held with limit := b }
    { s with order := { s.order with
        active := some { o with held := h }
        exhaustTimer := if h.any then none else s.order.exhaustTimer } }
  | none => s

/-! ### Halts (R60 to R65) -/

/-- The halt set has gained a member: the governor's clamp (R82), and where it was empty in the unloader role the
raise abandoned and a lowering to 0 requested (R61); the order held (R129) and the claim request tested (R109). -/
def State.haltGained (wasEmpty : Bool) (s : State) : State :=
  let s1 := s.holdOffClamp .halt
  let s2 := if wasEmpty && s.isUnloader then (s1.abandonRaise .halt).lowerRequest .halt 0 else s1
  s2.refreshHeld.claimRetest

/-- The halt set has lost a member (R129, R109). -/
def State.haltLost (s : State) : State := s.refreshHeld.claimRetest

/-- R61 at a governor update: while the halt set stays non-empty with G above 0 and no lowering in progress. -/
def State.haltLower (s : State) : State :=
  if s.isUnloader && s.halted && decide (0 < s.share.grant) && s.share.lowering.isNone then
    s.lowerRequest .halt 0
  else s

/-- The own halt's HALT, offered to the urgent queue (R62, R63). -/
def State.offerHalt (s : State) : State :=
  match s.share.ownHalt with
  | some h => s.offerUrgent (.halt h.scope h.reason)
  | none => s

/-- The station originates a halt (R62, R68): the own halt, the own membership, the HALT, the repeat timer, HALT_OUT. -/
def State.originateHalt (h : OwnHalt) (s : State) : State :=
  let wasEmpty := !s.halted
  let isMember := haltMember s.share.halts s.own
  let s1 := { s with share := { s.share with ownHalt := some h, halts := haltInsert s.share.halts s.own } }
  let s2 := if isMember then s1 else s1.haltGained wasEmpty
  let s3 := s2.offerHalt
  State.reportHaltOut h.scope h.reason
    { s3 with share := { s3.share with haltTimer := some (s3.now + Config.haltRepeat) } }

/-- A belt trip found in the intake role: with no own halt in force the station originates a halt of scope BELT and
reason BELT_TRIP (R68). -/
def State.beltTrip (s : State) : State :=
  if s.share.ownHalt.isNone then s.originateHalt ⟨.belt, beltTripReason⟩ else s

end Sys2Proof.Machine
end

