-- ==== Sys2Proof/Machine/OrderEvents.lean ====
section
/-! DEFINITION. What happens to the active order: the end decided (R134), settled claims (R127), arrival and wrong slot
(R128), discharge and done (R129, R130), exhaustion (R131), repeated choke (R132), yields (R133), preemption (R137,
R138), the feed drain (R138) and cancel (R141). -/

namespace Sys2Proof.Machine

/-- The hold-off clamp of an order that was RUNNING and no longer is (R82, R143). -/
def State.clampIfRan (ran : Bool) (s : State) : State := if ran then s.holdOffClamp .order else s

/-- The order enters ENDING with its end fixed (R134): the state, the timers, and whether the release request waits for
the drain. -/
def State.markEnding (o : OrderRecord) (e : EndState) (r : EndReason) (s : State) : State :=
  { s with order := { s.order with
      active := some { o with
        state := .ending, held := Held.none, blocked := none, endState := some e, endReason := some r }
      travelTimer := none
      exhaustTimer := none
      endDrained := false
      endReleasePending := decide (o.state = .discharging) } }

/-- The end of the active order is decided in CLAIMING, TRAVELLING or DISCHARGING (R134). From CLAIMING and TRAVELLING R134
says that the lowering and the release run together; that the release request is made before the lower request, so that a
RELEASE stands before a LOWER in the normal transmit set, is the model's choice (log 35). -/
def State.decideEnd (e : EndState) (r : EndReason) (s : State) : State :=
  match s.order.active with
  | none => s
  | some o =>
    match o.state with
    | .claiming => (((s.markEnding o e r).withdrawRequest).orderRelease).lowerRequest .order 0
    | .travelling => (((s.markEnding o e r).stopTravel).orderRelease).lowerRequest .order 0
    | .discharging => ((s.markEnding o e r).clampIfRan s.running).lowerRequest .order 0
    | _ => s

/-- Entry to DISCHARGING: the held reasons are formed from the conditions as they stand (R129). -/
def State.enterDischarging (o : OrderRecord) (s : State) : State :=
  { s with order := { s.order with
      active := some { o with state := .discharging, held := s.heldNow, blocked := none }
      travelTimer := none
      exhaustTimer := none } }

/-- The claim has settled while the order is active and CLAIMING (R127). -/
def State.orderSettled (s : State) : State :=
  match s.order.active with
  | none => s
  | some o =>
    if o.state = .claiming then
      if s.machine.last.isSome && s.nozzle == (o.hold, o.slot) then s.enterDischarging o
      else
        let s1 := { s with order := { s.order with
          active := some { o with state := .travelling, blocked := none }
          travelTimer := some (s.now + Config.travelTimer) } }
        s1.handMachine (.move ((s.planPos o.hold o.slot).getD 0) o.hold o.slot)
    else s

/-- The nozzle report of a good MEASURE (R128). -/
def State.orderNozzle (hold slot : Nat) (s : State) : State :=
  match s.order.active with
  | none => s
  | some o =>
    match o.state with
    | .travelling =>
      if hold = o.hold ∧ slot = o.slot then s.enterDischarging o
      else if hold ≠ 0 then s.decideEnd .failed .wrongSlot
      else s
    | .discharging =>
      if hold ≠ 0 ∧ ¬(hold = o.hold ∧ slot = o.slot) then s.decideEnd .failed .wrongSlot else s
    | _ => s

/-- An attribution to a hold counts toward the active order's done while it is DISCHARGING, SUSPENDING or ENDING
(R130); done at the target decides or records the end. -/
def State.orderAttributed (hold mass : Nat) (s : State) : State :=
  match s.order.active with
  | none => s
  | some o =>
    if o.hold = hold then
      let o1 := { o with done := holdAt Config.massMax o.done mass }
      match o.state with
      | .discharging =>
        let s1 := s.setActive (some o1)
        if o1.target ≤ o1.done then s1.decideEnd .complete .target else s1
      | .suspending =>
        if o1.target ≤ o1.done ∧ o1.endState = none then
          s.setActive (some { o1 with endState := some .complete, endReason := some .target })
        else s.setActive (some o1)
      | .ending => s.setActive (some o1)
      | _ => s
    else s

/-- The exhaustion test (R131). -/
def State.exhausting (s : State) : Bool :=
  s.running && decide (100 ≤ s.gov.feed)
    && (match s.share.feed with | some f => decide (10 * f < s.gov.feed) | none => false)

/-- The exhaustion test evaluated: it starts the timer, leaves it running, or stops it (R131). -/
def State.exhaustionTest (s : State) : State :=
  if s.exhausting then
    match s.order.exhaustTimer with
    | none => { s with order := { s.order with exhaustTimer := some (s.now + Config.exhaustionTimer) } }
    | some _ => s
  else { s with order := { s.order with exhaustTimer := none } }

/-- The feed drain of a SUSPENDING order: finished at 10 t/h or less, it makes the release request once (R138). -/
def State.feedDrain (s : State) : State :=
  match s.order.active with
  | none => s
  | some o =>
    if o.state = .suspending ∧ s.feedAtMost 10 = true ∧ s.order.releaseOut = false then s.orderRelease else s

/-- The line has choked repeatedly: a DISCHARGING order ends (R132). -/
def State.chokeRepeated (s : State) : State :=
  match s.discharging with
  | some _ => s.decideEnd .failed .chokeRepeat
  | none => s

/-- The claim unit signals a yield (R133): back to CLAIMING from TRAVELLING and DISCHARGING; in every case a release
request. -/
def State.orderYield (s : State) : State :=
  match s.order.active with
  | none => s
  | some o =>
    match o.state with
    | .travelling =>
      State.orderRelease { s with order := { s.order with
        active := some { o with state := .claiming }, travelTimer := none } }
    | .discharging =>
      State.orderRelease (State.clampIfRan s.running { s with order := { s.order with
        active := some { o with state := .claiming, held := Held.none }, exhaustTimer := none } })
    | .claiming => s.orderRelease
    | .suspending => s.orderRelease
    | .ending => s.orderRelease
    | _ => s

/-! ### Placement (R125) and preemption (R137, R138) -/

/-- Enters the waiting queue after every entry of equal or higher priority (R125). -/
def insertOrder (o : OrderRecord) : List OrderRecord → List OrderRecord
  | [] => [o]
  | p :: rest => if o.priority ≤ p.priority then p :: insertOrder o rest else o :: p :: rest

/-- Where an accepted order is placed (R124, R125). -/
inductive Placement where
  | active | incoming | queued
  deriving DecidableEq, Repr

/-- The placement byte of the answer (R194). -/
def Placement.code : Placement → Nat
  | .active => 1 | .incoming => 2 | .queued => 3

/-- The placement R125 gives an order of a priority, or none where it is refused FULL. -/
def State.placement (priority : Nat) (s : State) : Option Placement :=
  let queue := if s.order.queue.length < 8 then some Placement.queued else none
  match s.order.active with
  | none => some .active
  | some a =>
    if a.state = .suspending ∨ a.state = .ending then queue
    else if a.priority < priority then
      if 4 ≤ s.order.stack.length then none
      else if a.state = .discharging then some .incoming
      else some .active
    else queue

/-- The active order, CLAIMING or TRAVELLING, is suspended at once (R137). -/
def State.suspendAtOnce (a : OrderRecord) (s : State) : State :=
  let s1 := match a.state with
    | .claiming => s.withdrawRequest
    | _ => s.stopTravel
  let s2 := { s1 with order := { s1.order with
    active := none
    travelTimer := none
    stack := { a with state := .suspended, held := Held.none, blocked := none } :: s1.order.stack } }
  s2.orderRelease

/-- The active order, DISCHARGING, enters SUSPENDING with an incoming order (R138); the feed drain is tested at entry. -/
def State.enterSuspending (a i : OrderRecord) (s : State) : State :=
  let s1 := { s with order := { s.order with
    active := some { a with state := .suspending, held := Held.none }
    incoming := some i
    exhaustTimer := none } }
  (s1.clampIfRan s.running).feedDrain

/-- Places an accepted order (R125, R126, R137, R138). -/
def State.place (p : Placement) (o : OrderRecord) (s : State) : State :=
  match p with
  | .queued => { s with order := { s.order with queue := insertOrder o s.order.queue } }
  | .incoming => match s.order.active with
    | some a => s.enterSuspending a o
    | none => s.activate o
  | .active => match s.order.active with
    | some a => (s.suspendAtOnce a).activate o
    | none => s.activate o

/-! ### Tags and cancel (R124, R141) -/

/-- A tag held by the active order, the incoming order, the stack, the waiting queue or the finished list (R124). -/
def State.tagHeld (tag : Nat) (s : State) : Bool :=
  let p := fun (o : OrderRecord) => o.tag == tag
  (s.order.active.any p) || (s.order.incoming.any p) || s.order.stack.any p || s.order.queue.any p
    || s.order.finished.any p

/-- CANCEL of a tag that stands in no collection: the rows of R141's table for the active order, the finished list and
nowhere. -/
def State.cancelActive (tag : Nat) (s : State) : State × Result :=
  let elsewhere : State × Result :=
    if s.order.finished.any (fun q => q.tag == tag) then (s, .badState) else (s, .notFound)
  match s.order.active with
  | some o =>
    if o.tag = tag then
      match o.state with
      | .suspending =>
        if o.endState.isSome then (s, .badState)
        else (s.setActive (some { o with endState := some .cancelled, endReason := some .hostCancel }), .ok)
      | .ending => (s, .badState)
      | _ => (s.decideEnd .cancelled .hostCancel, .ok)
    else elsewhere
  | none => elsewhere

/-- CANCEL (R141): by where the tag stands. -/
def State.cancelOrder (tag : Nat) (s : State) : State × Result :=
  let p := fun (o : OrderRecord) => o.tag == tag
  match s.order.queue.find? p with
  | some o =>
    (State.recordEnd o .cancelled .hostCancel
      { s with order := { s.order with queue := s.order.queue.filter (fun q => q.tag != tag) } }, .ok)
  | none =>
  match s.order.stack.find? p with
  | some o =>
    (State.recordEnd o .cancelled .hostCancel
      { s with order := { s.order with stack := s.order.stack.filter (fun q => q.tag != tag) } }, .ok)
  | none =>
  match s.order.incoming with
  | some i =>
    if i.tag = tag then
      (State.lowerRequest .order 0
        (State.recordEnd i .cancelled .hostCancel { s with order := { s.order with incoming := none } }), .ok)
    else s.cancelActive tag
  | none => s.cancelActive tag

end Sys2Proof.Machine
end

