-- ==== Sys2Proof/Machine/Conflicts.lean ====
section
/-! DEFINITION. Conflicts of the own claim with peers (R113, R114) and yielding (R116). -/

namespace Sys2Proof.Machine

/-- The current own path interval (R113): formed with x, or the last x that was present while it is absent. -/
def State.currentPath (s : State) (c : ClaimBody) : Option (Int × Int) :=
  match s.machine.position with
  | some x => some (ownPath (s.configNat (·.spacing)) x c.toPos)
  | none => match s.machine.announced with
    | some x => some (ownPath (s.configNat (·.spacing)) x c.toPos)
    | none => none

/-- How the own claim conflicts with a peer's entry, if it does (R113). Where both kinds hold for one peer the spec does
not say which CLAIM_YIELDED names: the model names same slot (log 18). -/
def State.conflictWith (c : ClaimBody) (j : StationNo) (s : State) : Option Conflict :=
  if (s.entry j).heard && (s.entry j).claims c.hold c.slot then some .sameSlot
  else match s.currentPath c with
    | some p => if (s.entry j).inPath p then some .path else none
    | none => none

/-- How a conflict was found (R114). -/
inductive Found where
  /-- at the completion of the own CLAIM -/
  | completion
  /-- on taking this peer's CLAIM -/
  | claimOf (j : StationNo)
  /-- any other event -/
  | other
  deriving DecidableEq, Repr

/-- Whether the own station yields to a conflicting peer: the first case of R114 that applies. -/
def State.yieldsTo (f : Found) (j : StationNo) (s : State) : Bool :=
  match (s.entry j).claim with
  | none => true
  | some c =>
    if f = .completion then true
    else if f = .claimOf j then false
    else if s.claimAge = s.peerClaimAge c then decide (j < s.own)
    else decide (s.claimAge < s.peerClaimAge c)

/-- Yielding to a peer (R116), in the order of its steps. -/
def State.yieldClaim (c : ClaimBody) (j : StationNo) (k : Conflict) (s : State) : State :=
  let s1 := s.stopTravel
  let s2 := s1.lowerRequest .claim 0
  let s3 := s2.enterReleasing
  (s3.reportClaimYielded c.hold c.slot j k).orderYield

/-- The first peer in ascending station number that the own claim yields to (log 18). -/
def State.yieldPeer (f : Found) (c : ClaimBody) (s : State) : Option (StationNo × Conflict) :=
  s.peers.findSome? fun j =>
    match s.conflictWith c j with
    | some k => if s.yieldsTo f j then some (j, k) else none
    | none => none

/-- The conflict test (R113): made in SETTLING and SETTLED alone. -/
def State.conflictTest (f : Found) (s : State) : State :=
  if s.claim.phase = .settling ∨ s.claim.phase = .settled then
    match s.claim.own with
    | some c => match s.yieldPeer f c with
      | some (j, k) => s.yieldClaim c j k
      | none => s
    | none => s
  else s

end Sys2Proof.Machine
end

