-- ==== Sys2Proof/Machine/Plans.lean ====
section
/-! DEFINITION. The plan store: clearing (R90), attributions (R97), TALLY (R98, R101), STATUS masses (R99), mismatches
(R100) and RECALL (R102, R103). -/

namespace Sys2Proof.Machine

/-- A mass of a hold number set in a vector by hold; nothing outside 1 to 12. -/
def setMass (v : Vector Nat 12) (h m : Nat) : Vector Nat 12 :=
  if hh : 1 ≤ h ∧ h ≤ 12 then v.set (h - 1) m (by omega) else v

/-- What is cleared on entering LOADING and at PLAN_DROP (R90, R93), the machine interface's part included (R158). -/
def State.clearAccounts (s : State) : State :=
  { s with
    plan := { s.plan with
      cells := Vector.replicate 12 (Vector.replicate 16 0)
      recallBase := Vector.replicate 12 0
      attributed := Vector.replicate 12 0
      unattributed := 0
      marks := Vector.replicate 16 none
      tallyTimer := none }
    machine := { s.machine with carry := [], attrHold := 0, accepted := 0 } }

/-- Adds to the unattributed mass (R97). -/
def State.addUnattributed (m : Nat) (s : State) : State :=
  { s with plan := { s.plan with unattributed := s.plan.unattributed + m } }

/-- One attribution (R97): to a hold of the READY plan, what would pass the ceiling going to the unattributed mass, and
the order unit signalled; or to the unattributed mass. R97 and R130 signal 'the mass' and do not say which where the
ceiling cuts it: the model signals the part added to the hold, which may be 0 (log 33). -/
def State.attribute (hold mass : Nat) (s : State) : State :=
  match s.readyPlan with
  | some p =>
    if 1 ≤ hold ∧ hold ≤ p.count ∧ hold ≤ 12 then
      let room := Config.massMax - massAt s.plan.attributed hold
      let fits := min mass room
      let s1 := { s with plan := { s.plan with
        attributed := setMass s.plan.attributed hold (massAt s.plan.attributed hold + fits)
        unattributed := s.plan.unattributed + (mass - fits) } }
      s1.orderAttributed hold fits
    else s.addUnattributed mass
  | none => s.addUnattributed mass

/-! ### Peer columns -/

/-- Raises a peer's cell to the larger of the cell and a value (R94, R98, R99). -/
def raiseCell (cells : Vector (Vector Nat 16) 12) (h : Nat) (j : StationNo) (m : Nat) : Vector (Vector Nat 16) 12 :=
  if hh : 1 ≤ h ∧ h ≤ 12 then
    let row := cells[h - 1]'(by omega)
    cells.set (h - 1) (row.set j.val (max row[j] (min Config.massMax m)) j.isLt) (by omega)
  else cells

/-- The pairs of a TALLY merged into the sender's column; a pair above N is skipped (R98). -/
def mergePairs (n : Nat) (j : StationNo) : List (Nat × Nat) → Vector (Vector Nat 16) 12 → Vector (Vector Nat 16) 12
  | [], cells => cells
  | (h, m) :: rest, cells => mergePairs n j rest (if h ≤ n then raiseCell cells h j m else cells)

/-- Holds from 1 to 12, ascending, none repeated (R98). -/
def pairsGood : List (Nat × Nat) → Bool
  | [] => true
  | [(h, _)] => decide (1 ≤ h) && decide (h ≤ 12)
  | (h, _) :: (h', m') :: rest => decide (1 ≤ h) && decide (h < h') && pairsGood ((h', m') :: rest)

/-- A plan id that reaches the comparison of R98 and R99: a mismatch is reported once per new id, equality removes the
mark (R100). -/
def State.planMark (j : StationNo) (id own : Nat) (s : State) : State :=
  if id = own then { s with plan := { s.plan with marks := s.plan.marks.set j.val none j.isLt } }
  else if id = 0 ∨ s.plan.marks[j] = some id then s
  else State.reportPlanMismatch j id own { s with plan := { s.plan with marks := s.plan.marks.set j.val (some id) j.isLt } }

/-- A TALLY applied (R98). -/
def State.applyTally (j : StationNo) (b : TallyBody) (s : State) : State :=
  if pairsGood b.pairs then
    match s.readyPlan with
    | none => s
    | some p =>
      let s1 := s.planMark j b.planId p.id
      if b.planId = p.id then { s1 with plan := { s1.plan with cells := mergePairs p.count j b.pairs s1.plan.cells } }
      else s1
  else s.reportBadContent .plan j .tally

/-- The current-hold mass of a STATUS applied (R99). A STATUS whose plan id equals the own READY plan id removes its
sender's mismatch mark whatever its hold field (R100); one with hold field 0 reports nothing. -/
def State.applyStatusMass (j : StationNo) (b : StatusBody) (s : State) : State :=
  match s.readyPlan with
  | none => s
  | some p =>
    if b.hold = 0 ∧ b.planId ≠ p.id then s
    else
      let s1 := s.planMark j b.planId p.id
      if b.planId = p.id ∧ b.planId ≠ 0 ∧ 1 ≤ b.hold ∧ b.hold ≤ p.count then
        { s1 with plan := { s1.plan with cells := raiseCell s1.plan.cells b.hold j b.mass } }
      else s1

/-! ### TALLY and RECALL -/

/-- The own column as pairs, for each hold whose own cell is above 0, in ascending hold order (R101). -/
def State.ownPairs (s : State) : List (Nat × Nat) :=
  (holdNumbers.map (fun h => (h, s.ownCell h))).filter (fun p => 0 < p.2)

/-- Offers a TALLY of the own column, unless every own cell is 0 or the plan is not READY (R101). -/
def State.offerTally (s : State) : State :=
  match s.readyPlan with
  | some p => if s.ownPairs = [] then s else s.offerListed (.tally ⟨p.id, s.ownPairs⟩)
  | none => s

/-- A peer's column as pairs (R102). -/
def State.columnPairs (j : StationNo) (s : State) : List (Nat × Nat) :=
  (holdNumbers.map (fun h => (h, s.cell h j))).filter (fun p => 0 < p.2)

/-- A HELLO handed to the plan store: a RECALL of the sender's column to a peer that was reset (R102). -/
def State.offerRecall (j : StationNo) (c : StartCause) (planId : Nat) (s : State) : State :=
  match s.readyPlan with
  | some p =>
    if c ≠ .rejoin ∧ planId = p.id ∧ s.columnPairs j ≠ [] then s.offerListed (.recall j ⟨p.id, s.columnPairs j⟩) else s
  | none => s

/-- The recall base raised to the larger of the base and each pair's mass; a pair above N is skipped (R103). -/
def raiseBase (n : Nat) : List (Nat × Nat) → Vector Nat 12 → Vector Nat 12
  | [], v => v
  | (h, m) :: rest, v => raiseBase n rest (if h ≤ n then setMass v h (max (massAt v h) m) else v)

/-- A RECALL for this station (R103): applied in JOINING under an equal READY plan, RECALL_LATE otherwise. -/
def State.applyRecall (j : StationNo) (b : TallyBody) (s : State) : State :=
  if pairsGood b.pairs then
    match s.readyPlan with
    | some p =>
      if s.station.state = .joining ∧ b.planId = p.id then
        { s with plan := { s.plan with recallBase := raiseBase p.count b.pairs s.plan.recallBase } }
      else s.reportRecallLate j b.planId
    | none => s.reportRecallLate j b.planId
  else s.reportBadContent .plan j .recall

end Sys2Proof.Machine
end

