-- ==== Sys2Proof/Machine/Peers.lean ====
section
/-! DEFINITION. The station table: presence (R26 to R29), the fields each kind records (R30 to R36), the content checks
(R35), configured-capacity mismatches (R39, R40) and change signals (R25). -/

namespace Sys2Proof.Machine

def State.setEntry (j : StationNo) (e : PeerEntry) (s : State) : State :=
  { s with table := { s.table with entries := s.table.entries.set j.val e j.isLt } }

/-! ### Presence -/

/-- Grant, pending raise and slot claim dropped: entry to LOST or LEFT (R28), a reset peer's HELLO (R31). -/
def PeerEntry.drop (e : PeerEntry) : PeerEntry := { e with grant := 0, raise := none, claim := none }

/-- Presence changed by a good frame at time `t` (R26, R28): a BYE makes the entry LEFT, any other kind PRESENT; the
last status sequence is removed on an entry to PRESENT. -/
def PeerEntry.hear (bye : Bool) (t : Nat) (e : PeerEntry) : PeerEntry :=
  if bye then { e.drop with presence := .left, lastHeard := t }
  else { e with
    presence := .present
    lastSeq := if e.presence = .present then e.lastSeq else none
    lastHeard := t }

/-! ### Fields recorded by kind -/

/-- An entry naming the intake role holds no grant, raise, claim, position or mismatch mark (R29, R31, R39). -/
def PeerEntry.asIntake (e : PeerEntry) : PeerEntry := { e.drop with position := none, mismatch := none }

/-- HELLO (R31). -/
def PeerEntry.recordHello (c : StartCause) (b : HelloBody) (e : PeerEntry) : PeerEntry :=
  let e1 := if c = .rejoin then e else { e.drop with lastStatus := none }
  let e2 := { e1 with
    cause := some c, role := some b.role, belt := some b.belt, capacity := b.capacity, planId := b.planId }
  if b.role = .intake then e2.asIntake else e2

/-- The pending raise after a STATUS at time `t` (R33). -/
def statusRaise (target t : Nat) : Option PendingRaise → Option PendingRaise
  | some r => if target = 0 then none else if r.target = target then some r else some ⟨target, t⟩
  | none => if target = 0 then none else some ⟨target, t⟩

/-- The slot claim after a STATUS at time `t` (R34); `planPos` is the position of the hold and slot in the own READY
plan. -/
def statusClaim (b : StatusBody) (planPos : Option Nat) (t : Nat) (old : Option PeerClaim) : Option PeerClaim :=
  if b.hold = 0 then none
  else
    let target := match old with
      | some c => if c.hold = b.hold ∧ c.slot = b.slot then c.target else planPos
      | none => planPos
    some ⟨b.hold, b.slot, target, b.age, t⟩

/-- The gap of a STATUS sequence, modulo 256 (R36). -/
def seqGap (last seq : BitVec 8) : Nat := if seq = last then 0 else (seq - last - 1#8).toNat

/-- STATUS (R32, R33, R34, R36). -/
def PeerEntry.recordStatus (b : StatusBody) (planPos : Option Nat) (t : Nat) (e : PeerEntry) : PeerEntry :=
  let e1 := { e with
    lastStatus := some b
    role := some b.role
    belt := some b.belt
    missed := match e.lastSeq with
      | some q => holdAt Config.countMax e.missed (seqGap q b.seq)
      | none => e.missed
    lastSeq := some b.seq
    position := b.position
    grant := b.grant
    raise := statusRaise b.raiseTarget t e.raise
    claim := statusClaim b planPos t e.claim
    capacity := b.capacity
    planId := b.planId }
  if b.role = .intake then { e1 with position := none, mismatch := none } else e1

/-- RAISE (R30, R33). -/
def PeerEntry.recordRaise (target current t : Nat) (e : PeerEntry) : PeerEntry :=
  { e with grant := current, raise := some ⟨target, t⟩ }

/-- LOWER (R30). -/
def PeerEntry.recordLower (grant : Nat) (e : PeerEntry) : PeerEntry := { e with grant := grant, raise := none }

/-- CLAIM (R34, R29). -/
def PeerEntry.recordClaim (b : ClaimBody) (t : Nat) (e : PeerEntry) : PeerEntry :=
  { e with claim := some ⟨b.hold, b.slot, some b.toPos, 0, t⟩, position := some b.fromPos }

/-- RELEASE (R34). -/
def PeerEntry.recordRelease (hold slot : Nat) (e : PeerEntry) : PeerEntry :=
  if e.claims hold slot then { e with claim := none } else e

/-! ### Content checks (R35) -/

def grantGood (g : Nat) : Bool := decide (g ≤ Config.grantMax)
def capacityGood (c : Nat) : Bool := decide (100 ≤ c) && decide (c ≤ Config.capacityMax)
def positionGood (x : Nat) : Bool := decide (x ≤ Config.positionMax)

def HelloBody.good (b : HelloBody) : Bool := (StartCause.ofCode b.cause).isSome && capacityGood b.capacity

def StatusBody.good (b : StatusBody) : Bool :=
  decide (3 ≤ b.stateCode) && decide (b.stateCode ≤ 5)
    && (match b.position with | some x => positionGood x | none => true)
    && decide (b.hold ≤ 12) && decide (b.slot ≤ 2) && (decide (b.slot = 0) == decide (b.hold = 0))
    && grantGood b.grant && grantGood b.raiseTarget && capacityGood b.capacity

/-- Hold 1 to 12 with slot 1 or 2: CLAIM and RELEASE. -/
def slotGood (hold slot : Nat) : Bool := decide (1 ≤ hold) && decide (hold ≤ 12) && decide (1 ≤ slot) && decide (slot ≤ 2)

def ClaimBody.good (b : ClaimBody) : Bool := slotGood b.hold b.slot && positionGood b.fromPos && positionGood b.toPos

def haltReasonGood (r : Nat) : Bool := decide (1 ≤ r) && decide (r ≤ 100)
def clearReasonGood (r : Nat) : Bool := decide (1 ≤ r) && decide (r ≤ 99)

/-! ### Change signals and mismatches -/

/-- A change that is signalled: state, announced grant, pending raise, slot claim, rail position, role, belt,
configured capacity or mismatch mark (R25). -/
def PeerEntry.changed (a b : PeerEntry) : Bool :=
  a.presence != b.presence || a.grant != b.grant || a.raise != b.raise || a.claim != b.claim
    || a.position != b.position || a.role != b.role || a.belt != b.belt || a.capacity != b.capacity
    || a.mismatch != b.mismatch

/-- A change signal: the share unit recomputes, the claim unit tests eligibility and conflicts (R25, R43, R109, R113). -/
def State.tableChanged (f : Found) (s : State) : State := s.recompute.claimRetest.conflictTest f

/-- R39 for one entry that holds a role of unloader, a belt and a configured capacity. -/
def State.capCheck (j : StationNo) (s : State) : State :=
  let e := s.entry j
  match s.station.config, e.role, e.belt with
  | some c, some .unloader, some b =>
    if e.capacity = 0 then s
    else if b = s.station.straps.belt then
      if e.capacity = c.capacity then s.setEntry j { e with mismatch := none }
      else if e.mismatch = some e.capacity then s
      else State.reportCapMismatch j e.capacity c.capacity (s.setEntry j { e with mismatch := some e.capacity })
    else s.setEntry j { e with mismatch := none }
  | _, _, _ => s

/-- The entry's changes are signalled where there is one (R25 step 3). -/
def State.signalIfChanged (old : PeerEntry) (j : StationNo) (f : Found) (s : State) : State :=
  if (s.entry j).changed old then s.tableChanged f else s

/-- Steps 1 to 3 of R25 for a frame with its values in range: presence, the fields recorded, the mismatch check for the
kinds that record a capacity (`check`), and the change signal. -/
def State.tableTake (j : StationNo) (bye : Bool) (record : PeerEntry → PeerEntry) (check : Bool) (f : Found)
    (s : State) : State :=
  let old := s.entry j
  let s1 := s.setEntry j (record (old.hear bye s.now))
  let s2 := if check then s1.capCheck j else s1
  s2.signalIfChanged old j f

/-- A frame with a value out of range: presence alone, and BAD_CONTENT (R35). -/
def State.tableReject (j : StationNo) (k : Kind) (s : State) : State :=
  let old := s.entry j
  let s1 := s.setEntry j (old.hear (k == .bye) s.now)
  (s1.reportBadContent .table j k).signalIfChanged old j .other

/-- R40: on leaving CONFIG every entry is checked as though it had just announced its capacity; then the share unit
recomputes C (R44) and the claim unit tests (R25). The order of the entries, and so of several CAP_MISMATCH reports, is the
model's choice: ascending station number (log 18). -/
def State.capCheckAll (s : State) : State := s.peers.foldl (fun t j => t.capCheck j) s

end Sys2Proof.Machine
end

