-- ==== Sys2Proof/Machine/Stations.lean ====
section
/-! DEFINITION. The station controller and the link controller's states: resets (R165), entries to MUTED, OFFLINE,
JOINING and ACTIVE with what every block does at them (R19, R20, R56, R63, R70, R82, R101, R120, R142, R169 to R176),
the own STATUS and HELLO (R170, R173), and the fault counts (R18 to R22). -/

namespace Sys2Proof.Machine

/-! ### Resets (R165, R166) -/

/-- A reset begins: nothing is driven or sent, no command is taken, attention is deasserted, and the state is cleared;
the straps keep their values until the release (R165; log 6). -/
def State.beginReset (c : ResetCause) (s : State) : State :=
  { State.cleared s.pending s.now c s.station.straps with inReset := some c }

/-- A reset is released: every block at its reset values, the straps read, the cause recorded, CONFIG entered and
STARTED reported (R165, R166). -/
def State.releaseReset (c : ResetCause) (straps : Straps) (s : State) : State :=
  State.reportStarted c straps (State.cleared s.pending s.now c straps)

/-! ### The own STATUS (R173) -/

/-- The sequence of new STATUS content (R173). -/
def State.statusSeq (s : State) : BitVec 8 :=
  match s.link.normal.findSome? (fun c => match c with | .status b => some b.seq | _ => none) with
  | some q => q
  | none =>
    match s.link.onLine with
    | some ⟨.status b, _, _⟩ => b.seq + 1#8
    | _ => match s.station.lastSentSeq with
      | some q => q + 1#8
      | none => 0#8

/-- The hold and slot fields: the own claim's in SETTLING and SETTLED, 0 and 0 in any other phase (R107). -/
def State.announcedSlot (s : State) : Nat × Nat :=
  match s.claim.phase, s.claim.own with
  | .settling, some c => (c.hold, c.slot)
  | .settled, some c => (c.hold, c.slot)
  | _, _ => (0, 0)

/-- The raise target: T in SETTLING, 0 in any other phase (R46). -/
def Raise.announced : Raise → Nat
  | .settling t _ => t
  | _ => 0

/-- The content of an own STATUS at the moment of its offer (R173, R105, R107, R147). -/
def State.statusBody (s : State) : StatusBody where
  stateCode := s.station.state.code
  role := s.station.straps.role
  belt := s.station.straps.belt
  seq := s.statusSeq
  position := if s.isIntake then none else s.machine.announced
  hold := s.announcedSlot.1
  slot := s.announcedSlot.2
  age := if s.announcedSlot.1 = 0 then 0 else s.claimAge
  grant := s.share.grant
  raiseTarget := s.share.raise.announced
  feed := s.share.feed.getD 0
  allowed := s.gov.allowed
  capacity := s.configNat (·.capacity)
  planId := s.announcedPlan
  mass := if s.announcedSlot.1 ≠ 0 ∧ s.readyPlan.isSome then s.ownCell s.announcedSlot.1 else 0
  halts := s.share.halts

def State.offerStatus (s : State) : State := s.offerSingle (.status s.statusBody)

/-! ### Leaving the states that transmit (R17, R56, R63, R120) -/

/-- The share unit on entry to MUTED or OFFLINE (R50, R56, R58, R63, R67). -/
def State.shareSilenced (s : State) : State :=
  let s1 := match s.share.raise with
    | .queued _ => s.setRaise .none
    | .settling _ _ => s.abandonSettling .state
    | _ => s
  { s1 with share := { s1.share with
      yieldOwed := false
      lowering := s1.share.lowering.map (fun l => { l with deadline := none, waitStation := false })
      releaseTimer := none, haltTimer := none, capTimer := none } }

/-- The claim unit on entry to MUTED or OFFLINE (R118, R120): a QUEUED CLAIM is gone with the queue, a RELEASE is
owed; the station controller leaves the release waiters (R175). -/
def State.claimSilenced (s : State) : State :=
  match s.claim.phase with
  | .queued => { s with claim := { s.claim with phase := .none, own := none, waitStation := false } }
  | .releasing => { s with claim := { s.claim with releaseOwed := true, waitStation := false } }
  | _ => { s with claim := { s.claim with waitStation := false } }

/-- The self-silence watch stops and SELF_SILENT is cleared (R38); the TALLY, listen and STATUS timers stop and the
leave waits become no (R101, R172, R173, R175). That they become no also where the BYE has completed, of which R175 and R176
say nothing, is the model's choice (log 38). -/
def State.timersSilenced (s : State) : State :=
  { s with
    table := { s.table with watchStart := none, watchDeadline := none, selfSilent := false }
    plan := { s.plan with tallyTimer := none }
    station := { s.station with listen := none, statusTimer := none, leaveDrain := false, leaveRelease := false } }

def State.setStation (st : StationState) (s : State) : State := { s with station := { s.station with state := st } }

/-- What every block does on entry to a state that does not transmit, after the state and the governor. -/
def State.silence (s : State) : State :=
  s.emptyQueues.shareSilenced.claimSilenced.timersSilenced.refreshHeld.claimRetest

/-- Entry to MUTED from a transmitting state (R19, R20). -/
def State.enterMuted (s : State) : State :=
  (((s.setStation .muted).reportMuted s.link.txFaults).holdOffClamp .state).silence

/-- The governor at entry to OFFLINE from an update state (R70): one SETPOINT carrying 0, A and F_t 0, the flag OPEN
with no report, the timer stopped. R70 and R86 open the flag and do not say what becomes of HOLD_LIMIT under a DISCHARGING
order: it is removed with the flag, the model's choice (log 37). -/
def State.governorStop (s : State) : State :=
  if s.isUnloader then
    let s1 := ((s.setFeed 0).handMachine (.setpoint 0)).setLimitHeld false
    { s1 with gov := { s1.gov with
        allowed := 0, target := 0, bindAllowed := .demand, bindTarget := .holdOff .state, limit := none, timer := none } }
  else s

/-- Entry to OFFLINE from an update state, by LEAVE or by the duplicate-number rule (R23, R45, R70, R176). -/
def State.enterOffline (s : State) : State :=
  let s1 := (s.setStation .offline).governorStop.silence
  (State.recompute { s1 with share := { s1.share with intakeCaps := Vector.replicate 16 none } })

/-! ### Fault counts and DEGRADED (R18 to R22) -/

/-- The test of a belt trip at an entry to ACTIVE, in the intake role (R68; log 19). -/
def State.tripAtActive (s : State) : State :=
  if s.isIntake && s.share.beltRunning == some false then s.beltTrip else s

/-- R19, after a change of the transmit-fault count and on entry to ACTIVE. A QUEUED raise is not re-examined at the entry to
DEGRADED, the model's choice (log 36). -/
def State.judgeTxFaults (s : State) : State :=
  if s.transmits && decide (160 ≤ s.link.txFaults) then s.enterMuted
  else if s.station.state = .active ∧ 64 ≤ s.link.txFaults then
    ((s.setStation .degraded).reportDegraded s.link.txFaults).drainTest.claimRetest
  else if s.station.state = .degraded ∧ s.link.txFaults < 32 then
    ((s.setStation .active).reportLinkRecovered).tripAtActive.drainTest.claimRetest
  else s

/-- A receive fault counts 1, held at 255; at 96 RX_POOR is set (R21). A QUEUED raise is not re-examined at it, the model's
choice (log 36). -/
def State.countRxFault (s : State) : State :=
  let n := holdAt 255 s.link.rxFaults 1
  let s1 := { s with link := { s.link with rxFaults := n } }
  if 96 ≤ n ∧ s.link.rxPoor = false then
    (State.reportRxPoor { s1 with link := { s1.link with rxPoor := true } }).claimRetest
  else s1

/-- A good frame takes 1 from the count, not below 0; below 64 RX_POOR is cleared (R21). -/
def State.countRxGood (s : State) : State :=
  let n := s.link.rxFaults - 1
  let s1 := { s with link := { s.link with rxFaults := n } }
  if n < 64 ∧ s.link.rxPoor = true then
    (State.reportLinkRecovered { s1 with link := { s1.link with rxPoor := false } }).claimRetest
  else s1

/-- The duplicate-number rule (R23). -/
def State.dupNumber (k : Kind) (s : State) : State :=
  let s1 := if s.link.dupReported then s
    else State.reportDupNumber k { s with link := { s.link with dupReported := true } }
  if s.station.state = .config ∨ s.station.state = .offline then s1 else s1.enterOffline

/-! ### Joining (R169 to R172) -/

/-- The start cause a JOIN announces (R170). -/
def State.startCause (s : State) : StartCause :=
  if s.station.joined then .rejoin else s.station.resetCause.start

/-- The HELLO offered at JOIN (R170). -/
def State.helloBody (s : State) : HelloBody where
  cause := s.startCause.code
  role := s.station.straps.role
  belt := s.station.straps.belt
  capacity := s.configNat (·.capacity)
  planId := s.announcedPlan

/-- The governor's update timer starts on entry to an update state from OFFLINE, in the unloader role; it keeps its
phase otherwise (R70). -/
def State.governorStart (s : State) : State :=
  if s.isUnloader && s.gov.timer.isNone then
    { s with gov := { s.gov with timer := some (s.now + Config.governorPeriod) } }
  else s

/-- A RELEASE owed is offered again on entry to JOINING (R118). -/
def State.offerOwedRelease (s : State) : State :=
  match s.claim.phase, s.claim.own with
  | .releasing, some c =>
    if s.claim.releaseOwed then
      State.offerSingle (.release c.hold c.slot) { s with claim := { s.claim with releaseOwed := false } }
    else s
  | _, _ => s

/-- The own halt's repeats resume on entry to JOINING: a HALT at once, the timer 1.0 s ahead (R63). -/
def State.resumeHalt (s : State) : State :=
  if s.share.ownHalt.isSome then
    let s1 := s.offerHalt
    { s1 with share := { s1.share with haltTimer := some (s1.now + Config.haltRepeat) } }
  else s

/-- The drain deadline of a kept lowering is set 15 s ahead and the drain test applied on entry to JOINING (R56). -/
def State.resumeDrain (s : State) : State :=
  (s.setLowering (s.share.lowering.map (fun l => { l with deadline := none }))).drainTest.armDrain

/-- JOIN taken in OFFLINE or MUTED (R169, R170). -/
def State.enterJoining (s : State) : State :=
  let hello := s.helloBody
  let cause := s.startCause
  let s1 := { s with
    link := { s.link with txFaults := 0, rxFaults := 0, rxPoor := false, dupReported := false }
    station := { s.station with state := .joining, joined := true, helloCause := some cause } }
  let s2 := (s1.holdOffClamp .state).offerSingle (.hello hello)
  s2.governorStart.resumeDrain.resumeHalt.offerOwedRelease.claimRetest

/-- The CAPACITY of an intake that has a belt capacity to announce, and its timer (R67). -/
def State.offerCapacity (s : State) : State :=
  match s.share.beltCap with
  | some c =>
    let s1 := s.offerSingle (.capacity c)
    { s1 with share := { s1.share with capTimer := some (s1.now + Config.capacityRepeat) } }
  | none => s

/-- The end of the listen: entry to ACTIVE, in the order R172 lists (log 20). -/
def State.enterActive (s : State) : State :=
  let s1 := s.setStation .active
  let s2 := s1.offerStatus
  let s3 := { s2 with station := { s2.station with statusTimer := some (s2.now + Config.statusPeriod), listen := none } }
  let s4 := s3.judgeTxFaults
  let s5 := { s4 with table := { s4.table with
    watchStart := some s4.now, watchDeadline := some (s4.now + Config.selfSilence) } }
  let s6 := if s5.readyPlan.isSome then
    { s5 with plan := { s5.plan with tallyTimer := some (s5.now + Config.tallyPeriod) } } else s5
  let s7 := if s6.isIntake then s6.offerCapacity.tripAtActive else s6
  let s8 := s7.drainTest.refreshHeld.claimRetest
  match s.station.helloCause with
  | some c => s8.reportJoined c
  | none => s8

/-! ### Leaving (R174 to R176) -/

/-- LEAVE accepted (R174). -/
def State.enterLeaving (s : State) : State :=
  let s1 := { s with
    station := { s.station with state := .leaving, leaveDrain := false, leaveRelease := false }
    plan := { s.plan with tallyTimer := none }
    share := { s.share with releaseTimer := none, capTimer := none } }
  let s2 := match s1.share.raise with
    | .queued _ => s1.abandonRaise .state
    | .settling _ _ => s1.abandonRaise .state
    | _ => s1
  ((s2.claimRetest.drainTest).lowerRequest .leave 0).stationRelease

/-- The BYE has completed (R175, R176). -/
def State.leftQuay (s : State) : State :=
  let s1 := s.enterOffline
  State.reportLeftQuay { s1 with claim := { s1.claim with request := none } }

end Sys2Proof.Machine
end

