-- ==== Sys2Proof/Machine/Governor.lean ====
section
/-! DEFINITION. The flow governor's update (R70 to R87): remaining masses, the six terms of the allowed rate, the feed
target and its hold-off conditions, the ramp, and the hold limit. Nothing here overflows or is clamped but where the
rules say so (R73), so the computations are in exact `Nat` and `Int`. -/

namespace Sys2Proof.Machine

/-! ### Remaining mass (R74) -/

/-- The own column is counted always, a peer's when its entry carries the own READY plan id (R74). -/
def State.countsColumn (p : PlanRecord) (j : StationNo) (s : State) : Bool :=
  j == s.own || (s.entry j).planId == p.id

/-- Discharged mass X of a hold (R74). -/
def State.dischargedMass (p : PlanRecord) (h : Nat) (s : State) : Nat :=
  (stations.map (fun j => if s.countsColumn p j then s.cell h j else 0)).sum

/-- Planned mass P of a hold (R72). -/
def PlanRecord.mass (p : PlanRecord) (h : Nat) : Nat :=
  match p.hold h with
  | some e => e.mass
  | none => 0

/-- Lever of a hold in dm (R72). -/
def PlanRecord.lever (p : PlanRecord) (h : Nat) : Int :=
  match p.hold h with
  | some e => e.lever
  | none => 0

/-- Remaining mass R of a hold (R74): P less X, not below 0. -/
def State.remainingMass (p : PlanRecord) (h : Nat) (s : State) : Nat := p.mass h - s.dischargedMass p h

/-! ### The terms -/

/-- Taper (R75) from demand D, order remaining M and taper mass K. -/
def taperTerm (d m k : Nat) : Nat :=
  if d = 0 then 0
  else if k = 0 ∨ k ≤ m then d
  else max (min d 50) (d * m / k)

/-- A mass spread over the horizon, as a rate in t/h, at most 1 500 (R76, R78). -/
def rateOver (mass horizon : Nat) : Nat := min Config.grantMax (36 * mass / (10 * horizon))

/-- The holds next to `h` among `n` (R76). -/
def neighbours (h n : Nat) : List Nat := (if 1 < h then [h - 1] else []) ++ (if h < n then [h + 1] else [])

/-- The room B left under the adjacent limit (R76), where there is a neighbour. -/
def State.balanceRoom (p : PlanRecord) (h : Nat) (s : State) : Option Int :=
  match (neighbours h p.count).map (fun n => (p.dadj : Int) - ((s.remainingMass p n : Int) - s.remainingMass p h)) with
  | [] => none
  | b :: bs => some (bs.foldl min b)

/-- Balance (R76) of a worked hold. -/
def State.balanceTerm (p : PlanRecord) (h : Nat) (s : State) : Nat :=
  if p.dadj = 0 ∨ p.count = 1 then Config.grantMax
  else match s.balanceRoom p h with
    | none => Config.grantMax
    | some b => if b ≤ 0 then 0 else rateOver b.toNat (s.configNat (·.horizon))

/-- The discharged moment Q in kg·dm (R77). -/
def State.dischargedMoment (p : PlanRecord) (s : State) : Int :=
  ((holdNumbers.filter (fun j => decide (j ≤ p.count))).map
    (fun j => (s.dischargedMass p j : Int) * p.lever j)).sum

/-- The trim room W in kg·dm (R78): formed when Tmax and the worked hold's lever are not 0. -/
def trimRoom (tmax : Nat) (lever q : Int) : Option Int :=
  if tmax = 0 ∨ lever = 0 then none
  else if 0 < lever then some ((tmax : Int) * 10000 - q)
  else some ((tmax : Int) * 10000 + q)

/-- Trim (R78) from the room and the lever. -/
def trimTerm (room : Option Int) (lever : Int) (horizon : Nat) : Nat :=
  match room with
  | none => Config.grantMax
  | some w => if w ≤ 0 then 0 else rateOver (w.toNat / lever.natAbs) horizon

/-- What one update computes before A (R71 steps 1 and 2, R72). -/
structure GovTerms where
  demand : Nat
  taper : Nat
  balance : Nat
  trim : Nat
  cap : Nat
  moment : Option Int
  room : Option Int
  deriving DecidableEq, Repr

/-- The terms of an update as its inputs stand (R72): with no worked hold or no READY plan, balance and trim are 1 500
and the taper equals D. -/
def State.govTerms (s : State) : GovTerms :=
  match s.discharging with
  | none => ⟨0, 0, Config.grantMax, Config.grantMax, s.machineCap, none, none⟩
  | some o =>
    match s.readyPlan with
    | none => ⟨o.demand, o.demand, Config.grantMax, Config.grantMax, s.machineCap, none, none⟩
    | some p =>
      let q := s.dischargedMoment p
      let room := trimRoom p.tmax (p.lever o.hold) q
      { demand := o.demand
        taper := taperTerm o.demand (o.target - o.done) (s.configNat (·.taperMass))
        balance := s.balanceTerm p o.hold
        trim := trimTerm room (p.lever o.hold) (s.configNat (·.horizon))
        cap := s.machineCap
        moment := some q
        room := room }

/-- The allowed rate A (R79). -/
def GovTerms.allowed (g : GovTerms) : Nat :=
  min (min (min (min (min g.demand g.taper) g.balance) g.trim) g.cap) Config.grantMax

/-- The binding term of A: the first of the table of R79 whose value equals A. -/
def GovTerms.bind (g : GovTerms) : BindAllowed :=
  if g.demand = g.allowed then .demand
  else if g.taper = g.allowed then .taper
  else if g.balance = g.allowed then .balance
  else if g.trim = g.allowed then .trim
  else if g.cap = g.allowed then .machine
  else .ceiling

/-! ### Feed target and ramp -/

/-- The first hold-off condition of R80, in table order. -/
def State.holdOff (balance trim : Nat) (s : State) : Option HoldOff :=
  if s.halted then some .halt
  else if !s.onQuay then some .state
  else if s.table.selfSilent then some .selfSilent
  else if s.machine.silent then some .machineSilent
  else if s.machine.choke then some .choke
  else if !s.running then some .order
  else if balance = 0 ∨ trim = 0 then some .limit
  else none

/-- The feed target F_t and its binding term (R80). -/
def feedTarget (off : Option HoldOff) (allowed grant : Nat) (lowering : Option Nat) : Nat × BindTarget :=
  match off with
  | some c => (0, .holdOff c)
  | none =>
    let f := match lowering with
      | some l => min (min allowed grant) l
      | none => min allowed grant
    (f, if allowed = f then .allowed else if grant = f then .grant else .lowering)

/-- The ramp (R81): up by at most 20 t/h, down at once. -/
def ramp (target feed : Nat) : Nat := if feed < target then min target (feed + 20) else target

/-! ### The hold limit (R84 to R86) -/

/-- Which limit is closed, if one is (R84). -/
def closedLimit (balance trim : Nat) : Option ClosedLimit :=
  if balance = 0 then (if trim = 0 then some .both else some .balance)
  else if trim = 0 then some .trim else none

def State.setLimit (l : Option ClosedLimit) (s : State) : State := { s with gov := { s.gov with limit := l } }

/-- R84, R85, R86 at an update. -/
def State.judgeLimit (balance trim : Nat) (s : State) : State :=
  match s.discharging, s.readyPlan with
  | some o, some _ =>
    match closedLimit balance trim with
    | some l =>
      match s.gov.limit with
      | none => State.reportHoldLimit o.hold l ((s.setLimit (some l)).setLimitHeld true)
      | some _ => s.setLimit (some l)
    | none =>
      match s.gov.limit with
      | none => s
      | some _ => (s.setLimit none).setLimitHeld false
  | _, _ => s.setLimit none

/-! ### The update (R71) -/

/-- A, F_t, F, the limit record and the binding terms are recorded (R71); Q and W stay as last formed where this update
forms none (R69). F becoming 0 stops the choke entry timer (R159). -/
def State.recordUpdate (g : GovTerms) (s : State) : State :=
  let t := feedTarget (s.holdOff g.balance g.trim) g.allowed s.share.grant (s.share.lowering.map (·.target))
  State.setFeed (ramp t.1 s.gov.feed)
    { s with gov := { s.gov with
        allowed := g.allowed
        target := t.1
        taper := g.taper
        balance := g.balance
        trim := g.trim
        machineCap := g.cap
        moment := if g.moment.isSome then g.moment else s.gov.moment
        room := if g.room.isSome then g.room else s.gov.room
        bindAllowed := g.bind
        bindTarget := t.2
        timer := some (s.now + Config.governorPeriod) } }

/-- The share unit's actions at a governor update (R47, R48, R58, R59, R61). -/
def State.shareUpdate (s : State) : State := (((s.startRaise.reviewRaise true).reviewRelease).shed).haltLower

/-- A governor update (R71): the values recorded, F handed to the machine interface, A to the share unit, the limit
state to the order unit, and the exhaustion test (R131). -/
def State.governorUpdate (s : State) : State :=
  let g := s.govTerms
  let s1 := s.recordUpdate g
  let s2 := s1.handMachine (.setpoint s1.gov.feed)
  ((s2.shareUpdate).judgeLimit g.balance g.trim).exhaustionTest

end Sys2Proof.Machine
end

