-- ==== Sys2Proof/Machine/Weighing.lean ====
section
/-! DEFINITION. A MEASURE taken from the machine link (R145 to R150, R153 to R163): the content check, the seven steps
of R147, the carry queue, and the choke detector's timers. -/

namespace Sys2Proof.Machine

/-! ### Counts and checks (R145, R146) -/

/-- The machine-link error count rises by 1, held at 65 535 (R144, R145). -/
def State.machineError (s : State) : State :=
  { s with machine := { s.machine with errors := holdAt Config.countMax s.machine.errors 1 } }

/-- The content check of R146. -/
def Measure.good (m : Measure) : Bool :=
  decide (m.hold ≤ 12) && decide (m.slot ≤ 2) && (decide (m.hold = 0) == decide (m.slot = 0))
    && decide (m.position ≤ Config.positionMax)

/-- A MEASURE whose sequence equals the last one (R146). -/
def State.measureRepeat (m : Measure) (s : State) : Bool := s.machine.lastSeq == some m.seq

/-- A good MEASURE's sequence: its gap counted, and recorded as the last machine sequence (R146). -/
def State.measureSeq (m : Measure) (s : State) : State :=
  { s with machine := { s.machine with
      missed := match s.machine.lastSeq with
        | some q => holdAt Config.countMax s.machine.missed (m.seq - q - 1#8).toNat
        | none => s.machine.missed
      lastSeq := some m.seq } }

/-! ### Step 1: silence (R147, R149) -/

/-- The silence timer restarts; MACHINE_SILENT is cleared and reported (R147 step 1, R149). -/
def State.measureHeard (m : Measure) (s : State) : State :=
  let s1 := { s with machine := { s.machine with
    silenceTimer := some (s.now + Config.machineSilence), silent := false } }
  if s.machine.silent then s1.reportMachineHeard m.seq else s1

/-! ### Step 2: weighing (R153, R157) -/

/-- An increment spent through the carry queue, oldest first (R157): the attributions in the order they are delivered,
the queue left, and what remains for the attribution hold. -/
def spendCarry : List (Nat × Nat) → Nat → List (Nat × Nat) × List (Nat × Nat) × Nat
  | [], d => ([], [], d)
  | (h, m) :: rest, d =>
    if d = 0 then ([], (h, m) :: rest, 0)
    else if d < m then ([(h, d)], (h, m - d) :: rest, 0)
    else
      let r := spendCarry rest (d - m)
      ((h, m) :: r.1, r.2.1, r.2.2)

/-- Every attribution of an increment, in order (R157): a part of 0 is not delivered. -/
def attributions (attrHold : Nat) (carry : List (Nat × Nat)) (d : Nat) : List (Nat × Nat) :=
  (spendCarry carry d).1 ++ (if (spendCarry carry d).2.2 = 0 then [] else [(attrHold, (spendCarry carry d).2.2)])

/-- Attributions delivered to the plan store in order (R97, R157). -/
def State.deliver (parts : List (Nat × Nat)) (s : State) : State :=
  parts.foldl (fun t p => t.attribute p.1 p.2) s

/-- The increment Δ = (count − baseline) modulo 2^32 (R153). -/
def weighIncrement (count baseline : BitVec 32) : Nat := (count - baseline).toNat

/-- The largest increment accepted (R153). -/
def jumpLimit : Nat := 1000

/-- An accepted increment is added to the accepted mass and attributed (R153, R157). -/
def State.acceptIncrement (d : Nat) (s : State) : State :=
  State.deliver (attributions s.machine.attrHold s.machine.carry d)
    { s with machine := { s.machine with
        accepted := s.machine.accepted + d
        carry := (spendCarry s.machine.carry d).2.1 } }

/-- The weigher count judged against the baseline (R153). -/
def State.weigh (m : Measure) (s : State) : State :=
  let s1 := { s with machine := { s.machine with baseline := some m.count } }
  match s.machine.baseline with
  | none => s1
  | some b =>
    let d := weighIncrement m.count b
    if jumpLimit < d then s1.reportWeighJump d m.count.toNat else s1.acceptIncrement d

/-! ### Step 3: nozzle (R154 to R156) -/

/-- The mass added to the newest record (R156). -/
def mergeTail (k : Nat) : List (Nat × Nat) → List (Nat × Nat)
  | [] => []
  | [(h, m)] => [(h, m + k)]
  | a :: b :: rest => a :: mergeTail k (b :: rest)

/-- The hold of the newest record. -/
def newestHold : List (Nat × Nat) → Nat
  | [] => 0
  | [(h, _)] => h
  | _ :: b :: rest => newestHold (b :: rest)

/-- The sum of the masses queued (R155). -/
def carryMass (carry : List (Nat × Nat)) : Nat := (carry.map (fun r => r.2)).sum

/-- The carry record due at a change of hold (R155, R156). -/
def State.carryRecord (mass : Nat) (s : State) : State :=
  if mass = 0 then s
  else if s.machine.carry.length < 4 then
    { s with machine := { s.machine with carry := s.machine.carry ++ [(s.machine.attrHold, mass)] } }
  else
    State.reportCarryMerged (newestHold s.machine.carry) s.machine.attrHold mass
      { s with machine := { s.machine with carry := mergeTail mass s.machine.carry } }

/-- A nozzle hold other than 0 that differs from the attribution hold makes a carry record and becomes the attribution
hold (R147 step 3, R155). -/
def State.nozzleStep (m : Measure) (s : State) : State :=
  if m.hold = 0 ∨ m.hold = s.machine.attrHold then s
  else
    let s1 := s.carryRecord (m.receiver - carryMass s.machine.carry)
    { s1 with machine := { s1.machine with attrHold := m.hold } }

/-! ### Steps 4 and 5: record and delivery (R147) -/

/-- The MEASURE replaces the last MEASURE (R147 step 4). -/
def State.recordMeasure (m : Measure) (s : State) : State :=
  { s with machine := { s.machine with last := some m } }

/-- The own position becomes the rail position, and the announced position with it but in the intake role, where it stays
absent (R147 step 4, R163; log 21). -/
def State.recordPosition (m : Measure) (s : State) : State :=
  { s with machine := { s.machine with
      position := some m.position
      announced := if s.isUnloader then some m.position else s.machine.announced } }

/-- The measured feed delivered: drain test, yield, exhaustion test and feed drain (R53, R57, R131, R138). -/
def State.deliverFeed (feed : Nat) (s : State) : State :=
  ({ s with share := { s.share with feed := some feed } } : State).drainTest.yieldTest.exhaustionTest.feedDrain

/-- The rail position delivered to the claim unit: a change of x is an event of R109 and R113. -/
def State.deliverPosition (old : Option Nat) (s : State) : State :=
  if s.machine.position = old then s else s.claimRetest.conflictTest .other

/-- FAULT and the end of silence delivered to the order unit (R129): an order that leaves RUNNING takes the hold-off
clamp (R82). -/
def State.deliverFault (s : State) : State :=
  let s1 := s.refreshHeld
  s1.clampIfRan (s.running && !s1.running)

/-! ### Step 6: flags (R150, R68) -/

/-- The fault mark (R150). -/
def State.faultMark (m : Measure) (s : State) : State :=
  if m.fault then
    if s.machine.fault then s
    else State.reportMachineFault m.feed { s with machine := { s.machine with fault := true } }
  else { s with machine := { s.machine with fault := false } }

/-- BELT_RUNNING handed to the share unit (R68): recorded, and a trip where it was running, is stopped, and the station
transmits. -/
def State.beltFlag (running : Bool) (s : State) : State :=
  let s1 := { s with share := { s.share with beltRunning := some running } }
  if s.share.beltRunning == some true && !running && s.transmits then s1.beltTrip else s1

/-! ### Step 7: air (R159, R161) -/

/-- The choke entry timer at a good MEASURE while the choke is clear (R159). -/
def State.entryTiming (m : Measure) (s : State) : State :=
  if 0 < s.gov.feed ∧ m.velocity < s.configNat (·.vmin) then
    match s.machine.chokeEntry with
    | none => { s with machine := { s.machine with chokeEntry := some (s.now + Config.chokeEntry) } }
    | some _ => s
  else { s with machine := { s.machine with chokeEntry := none } }

/-- The choke recovery timer at a good MEASURE while the choke is in force (R161). -/
def State.recoveryTiming (m : Measure) (s : State) : State :=
  if s.configNat (·.vmin) + 20 ≤ m.velocity then
    match s.machine.chokeRecovery with
    | none => { s with machine := { s.machine with chokeRecovery := some (s.now + Config.chokeRecovery) } }
    | some _ => s
  else { s with machine := { s.machine with chokeRecovery := none } }

/-- The choke detector observes the air velocity (R147 step 7). -/
def State.observeAir (m : Measure) (s : State) : State :=
  if s.machine.choke then s.recoveryTiming m else s.entryTiming m

/-! ### The good MEASURE -/

/-- Steps 4 and 5 of R147, in both roles: the MEASURE recorded, its fields delivered. -/
def State.recordAndDeliver (m : Measure) (s : State) : State :=
  let s1 := (s.recordMeasure m).recordPosition m
  (((s1.deliverFeed m.feed).deliverPosition s.machine.position).orderNozzle m.hold m.slot).deliverFault

/-- A good MEASURE in the unloader role, after its sequence (R147). -/
def State.measureUnloader (m : Measure) (s : State) : State :=
  let s1 := (((s.measureHeard m).weigh m).nozzleStep m).recordAndDeliver m
  (s1.faultMark m).observeAir m

/-- A good MEASURE in the intake role, after its sequence (R147, R163): neither weighed nor observed for a choke, its
BELT_RUNNING flag handed to the share unit. -/
def State.measureIntake (m : Measure) (s : State) : State :=
  (((s.measureHeard m).recordAndDeliver m).faultMark m).beltFlag m.running

/-- A received MEASURE (R146, R147). -/
def State.takeMeasure (m : Measure) (s : State) : State :=
  if m.good = false ∨ s.measureRepeat m = true then s.machineError
  else if s.isUnloader then (s.measureSeq m).measureUnloader m
  else (s.measureSeq m).measureIntake m

end Sys2Proof.Machine
end

