-- ==== Sys2Proof/Machine/Line.lean ====
section
/-! DEFINITION. How a command reaches the state: the clock and the hold of a reset (R165, log 1, 2, 6), the judging of
an occupancy as a receiver (R3, R5, R11, R21, R23), and the start, the failure and the completion of the own attempt
(R6, R7, R12, R16 to R19, R49, R54, R112, R118, R173). -/

namespace Sys2Proof.Machine

/-! ### Clock and reset -/

/-- A command taken at time `t`: from the beginning of a reset until its release nothing is taken and the clock alone
moves (R165). -/
def State.live (t : Nat) (k : State → State) (s : State) : State :=
  if s.inReset.isSome then s.advance t else k (s.advance t)

/-- The expiry of a timer with this deadline: a stopped timer does not expire (log 2). -/
def State.expire (deadline : Option Nat) (k : State → State) (s : State) : State :=
  match deadline with
  | some d => s.live d k
  | none => s

/-! ### The receiver -/

/-- The occupancy is still to be judged by this station as a receiver: it is synchronised, has no own frame on the line,
and has not judged, sent or aborted anything in this occupancy yet (R3, R18). -/
def State.listens (s : State) : Bool :=
  s.link.synced && s.link.onLine.isNone && s.link.occupancy == .unjudged

/-- The acknowledge slot is driven or left, and what the occupancy held is marked (R9, R11). -/
def State.markOccupancy (ack : Bool) (o : Occupancy) (s : State) : State :=
  { s with link := { s.link with ackDriven := ack && s.transmits, occupancy := o } }

/-- A receive fault: counted once for the occupancy; the slot is driven only where the CRC check succeeded, that is for a
destination not permitted (R3, R11, R21). -/
def State.lineFault (crcGood : Bool) (s : State) : State := (s.markOccupancy crcGood .faulty).countRxFault

/-- A good frame: acknowledged by a station that transmits (R11), counted (R21), and handed to the duplicate-number rule
where it bears the own number (R23) or to the station table otherwise (R5). That the count comes first, so that
LINK_RECOVERED stands before a DUP_NUMBER or a BAD_CONTENT of the same frame, is the model's choice (log 20). -/
def State.takeGood (sender : StationNo) (k : Kind) (apply : State → State) (s : State) : State :=
  let s1 := (s.markOccupancy true (if k = .hello then .hello else .taken)).countRxGood
  if sender = s1.own then s1.dupNumber k else apply s1

/-- A frame of a kind received from the line: dropped with a receive fault where its destination or its length is not
permitted (R3, R4; log 12), taken otherwise. -/
def State.receive (sender : StationNo) (k : Kind) (dest : Nat) (payload : Option α) (apply : α → State → State)
    (s : State) : State :=
  if s.listens then
    if k.permits dest then
      match payload with
      | some b => s.takeGood sender k (apply b)
      | none => s.lineFault false
    else s.lineFault payload.isSome
  else s

/-! ### What the station table does with each kind (R25, R30, R35) -/

/-- HELLO (R31, R102). -/
def State.applyHello (j : StationNo) (b : HelloBody) (s : State) : State :=
  match StartCause.ofCode b.cause with
  | some c =>
    if b.good then (s.tableTake j false (·.recordHello c b) true .other).offerRecall j c b.planId
    else s.tableReject j .hello
  | none => s.tableReject j .hello

/-- BYE (R26, R28): it writes no field but the state. -/
def State.applyBye (j : StationNo) (reason : Nat) (s : State) : State :=
  if reason = 1 then s.tableTake j true id false .other else s.tableReject j .bye

/-- STATUS (R32): then handed to the claim unit (R113) and the plan store (R99). -/
def State.applyStatus (j : StationNo) (b : StatusBody) (s : State) : State :=
  if b.good then
    ((s.tableTake j false (·.recordStatus b (s.planPos b.hold b.slot) s.now) true .other).conflictTest .other).applyStatusMass j b
  else s.tableReject j .status

/-- RAISE (R33): target and current grant. -/
def State.applyRaise (j : StationNo) (b : Nat × Nat) (s : State) : State :=
  if grantGood b.1 && grantGood b.2 then s.tableTake j false (·.recordRaise b.1 b.2 s.now) false .other
  else s.tableReject j .raise

/-- LOWER (R30, R33). -/
def State.applyLower (j : StationNo) (g : Nat) (s : State) : State :=
  if grantGood g then s.tableTake j false (·.recordLower g) false .other else s.tableReject j .lower

/-- CLAIM (R34): then handed to the claim unit (R109, R113, R114). -/
def State.applyClaim (j : StationNo) (b : ClaimBody) (s : State) : State :=
  if b.good then
    (s.tableTake j false (·.recordClaim b s.now) false (.claimOf j)).claimRetest.conflictTest (.claimOf j)
  else s.tableReject j .claim

/-- RELEASE (R34): handed to the claim unit whether or not it named the entry's claim (R109). -/
def State.applyRelease (j : StationNo) (b : Nat × Nat) (s : State) : State :=
  if slotGood b.1 b.2 then (s.tableTake j false (·.recordRelease b.1 b.2) false .other).claimRetest
  else s.tableReject j .release

/-- TALLY: the plan id recorded (R30), the pairs applied by the plan store (R98). -/
def State.applyTallyFrame (j : StationNo) (b : TallyBody) (s : State) : State :=
  (s.tableTake j false (fun e => { e with planId := b.planId }) false .other).applyTally j b

/-- A kind that writes no field: presence alone, and the content handed on where the frame is for this station
(R30). -/
def State.applyPlain (j : StationNo) (dest : Nat) (hand : State → State) (s : State) : State :=
  let s1 := s.tableTake j false id false .other
  if destFor s1.station.straps dest then hand s1 else s1

/-- RECALL (R103). -/
def State.applyRecallFrame (j : StationNo) (dest : Nat) (b : TallyBody) (s : State) : State :=
  s.applyPlain j dest (·.applyRecall j b)

/-- The intake capacity list takes a CAPACITY, at most 6 000; C is recomputed (R44, R45). -/
def State.recordCapacity (j : StationNo) (c : Nat) (s : State) : State :=
  State.recompute
    { s with share := { s.share with intakeCaps := s.share.intakeCaps.set j.val (some (min c Config.capacityMax)) j.isLt } }

/-- CAPACITY (R45). -/
def State.applyCapacity (j : StationNo) (dest c : Nat) (s : State) : State :=
  s.applyPlain j dest (·.recordCapacity j c)

/-- A HALT for this station adds its sender to the halt set (R60). -/
def State.haltIn (j : StationNo) (reason : Nat) (s : State) : State :=
  if haltMember s.share.halts j then s
  else
    let s1 := { s with share := { s.share with halts := haltInsert s.share.halts j } }
    (s1.reportHaltIn j reason).haltGained (!s.halted)

/-- HALT (R60); its reason is checked where it is handed on (R35, log 14). -/
def State.applyHalt (j : StationNo) (dest reason : Nat) (s : State) : State :=
  if destFor s.station.straps dest && !haltReasonGood reason then s.tableReject j .halt
  else s.applyPlain j dest (·.haltIn j reason)

/-- A station number leaves the halt set (R60, R64). -/
def State.haltRemove (j : StationNo) (s : State) : State :=
  if haltMember s.share.halts j then
    let s1 := { s with share := { s.share with halts := haltErase s.share.halts j } }
    (s1.reportHaltCleared j).haltLost
  else s

/-- CLEAR (R60); its reason is checked where it is handed on (R35, log 14). -/
def State.applyClear (j : StationNo) (dest reason : Nat) (s : State) : State :=
  if destFor s.station.straps dest && !clearReasonGood reason then s.tableReject j .clear
  else s.applyPlain j dest (·.haltRemove j)

/-- The acknowledge slot of the frame that brought a REMOTE reset passed before the reset began (R167): what was driven in
it stays to be seen (log 11). -/
def State.keepAck (ack : Bool) (s : State) : State := { s with link := { s.link with ackDriven := ack } }

/-- RESET (R167): for the own number it begins and releases a REMOTE reset where remote reset is enabled (log 6), and is
refused otherwise. The frame has been acknowledged before the reset begins (R11, R167). -/
def State.applyReset (j : StationNo) (dest : Nat) (straps : Straps) (s : State) : State :=
  let s1 := s.tableTake j false id false .other
  if dest = s1.own.val then
    if s1.station.remoteEnable then (s1.releaseReset .remote straps).keepAck s1.link.ackDriven else s1.reportRemoteRefused j
  else s1

/-! ### The own attempt -/

/-- What the originating block notes when its frame goes on the line: a RAISE and a CLAIM pass to SENDING (R46,
R112). -/
def State.markSending (c : Content) (s : State) : State :=
  match c with
  | .raise t _ => s.setRaise (.sending t none)
  | .claim _ => { s with claim := { s.claim with phase := .sending, withdrawn := false } }
  | _ => s

/-- An attempt starts (R6): the chosen frame leaves its queue, with its arbitration word. The line is idle, so the
station is synchronised (R3, log 8). -/
def State.startAttempt (s : State) : State :=
  if s.transmits && s.link.onLine.isNone then
    match s.link.choose with
    | some (c, l) =>
      State.markSending c
        { s with link := { l with
            synced := true
            occupancy := .unjudged
            onLine := some ⟨c, arbitrationWord c.kind.urgent s.link.rank s.own, false⟩ } }
    | none => s
  else s

/-- An own RAISE whose attempt failed: withdrawn where that was recorded, QUEUED again and re-examined otherwise (R46,
R48). -/
def State.raiseFailed (target : Nat) (withdrawn : Bool) (s : State) : State :=
  if withdrawn then s.setRaise .none else (s.setRaise (.queued target)).reviewRaise false

/-- An own CLAIM whose attempt failed (R112, R117). -/
def State.claimFailed (withdrawn : Bool) (s : State) : State :=
  if withdrawn then
    State.claimRetest (State.signalReleased
      { s with claim := { s.claim with phase := .none, own := none, withdrawn := false } })
  else State.claimRetest { s with claim := { s.claim with phase := .queued } }

/-- The attempt on the line lost arbitration or was aborted (R7, R14, R16, R18). -/
def State.attemptFailed (s : State) : State :=
  match s.link.onLine with
  | none => s
  | some a =>
    let s1 := { s with link := s.link.returnFrame }
    match a.content with
    | .raise t _ => s1.raiseFailed t a.withdrawn
    | .claim _ => s1.claimFailed a.withdrawn
    | _ => s1

/-- A transmit fault (R18): the attempt aborted, the count raised by 4 and judged by R19 (log 20). -/
def State.abortAttempt (s : State) : State :=
  match s.link.onLine with
  | none => s
  | some _ =>
    let s1 := s.attemptFailed
    State.judgeTxFaults { s1 with link := { s1.link with
      occupancy := .aborted, txFaults := holdAt 255 s1.link.txFaults 4 } }

/-- The consecutive-unheard count at a completion (R12). -/
def State.countUnheard (acked : Bool) (s : State) : State :=
  if acked then { s with link := { s.link with unheard := 0, aloneReported := false } }
  else
    let n := holdAt 255 s.link.unheard 1
    let s1 := { s with link := { s.link with unheard := n } }
    if 4 ≤ n ∧ s.link.aloneReported = false then
      State.reportAlone n { s1 with link := { s1.link with aloneReported := true } }
    else s1

/-- What every completion does: held content appended, the slot left recessive, the unheard count, and the
transmit-fault count less 1 (R11, R12, R14, R18, R19). That ALONE is reported before what R19 reports of the same
completion is the model's choice (log 20). -/
def State.completed (hello acked : Bool) (s : State) : State :=
  let l := s.link.finishFrame
  let s1 := { s with link := { l with
    ackDriven := false
    occupancy := if hello then .hello else .ownSent
    txFaults := l.txFaults - 1 } }
  (s1.countUnheard acked).judgeTxFaults

/-- An own frame of the kinds `p` completes on the line; its originating block is then signalled (R17). Where no such
frame is on the line nothing happens (log 4). -/
def State.complete (p : Kind → Bool) (acked : Bool) (signal : Content → State → State) (s : State) : State :=
  match s.link.onLine with
  | some a =>
    if p a.content.kind then signal a.content (s.completed (a.content.kind == .hello) acked) else s
  | none => s

/-! ### Completion signals -/

/-- The own HELLO has completed: the listen timer starts (R171). The rank is not set here but at the end of the occupancy (R9,
R12), though R171 says that the completion has already set it: the model's choice (log 40). -/
def State.helloDone (s : State) : State :=
  if s.station.state = .joining then
    { s with station := { s.station with listen := some (s.now + Config.listenTimer) } }
  else s

/-- The own STATUS has completed (R37, R38, R173). -/
def State.statusDone (seq : BitVec 8) (s : State) : State :=
  let s1 := { s with
    station := { s.station with lastSentSeq := some seq }
    table := { s.table with lastStatusDone := some s.now } }
  if s1.onQuay then
    State.refreshHeld { s1 with table := { s1.table with
      watchDeadline := some (s1.now + Config.selfSilence), selfSilent := false } }
  else s1

/-- The own RAISE has completed (R49, R50). An abandoned one reports the cause it is marked with; that a halt in force is named
before a conflict where both abandon the raise here is the model's choice (log 39). -/
def State.raiseDone (target : Nat) (s : State) : State :=
  match s.share.raise with
  | .sending _ (some c) =>
    State.yieldTest (State.reportRaiseYielded target c
      { s with share := { s.share with raise := .none, yieldOwed := true } })
  | .sending _ none =>
    let s1 := s.setRaise (.settling target (s.now + Config.raiseSettle))
    if s1.halted then s1.abandonSettling .halt else s1.settleConflict
  | _ => s

/-- The own CLAIM has completed (R112). -/
def State.claimDone (s : State) : State :=
  let s1 := { s with claim := { s.claim with time := some s.now, request := none, withdrawn := false } }
  if s.claim.withdrawn then s1.enterReleasing
  else
    State.conflictTest .completion
      { s1 with claim := { s1.claim with phase := .settling, settle := some (s1.now + Config.claimSettle) } }

/-- The TALLY on release (R101). -/
def State.tallyOnRelease (s : State) : State := if s.onQuay then s.offerTally else s

/-- The own RELEASE has completed (R118): the TALLY is offered before the waiters are signalled, so that it precedes a
BYE (R101; log 30). -/
def State.releaseDone (s : State) : State :=
  let s1 := { s with claim := { s.claim with phase := .none, own := none, time := none, releaseOwed := false } }
  (s1.tallyOnRelease).signalReleased.claimRetest

/-! ### The end of an occupancy (R8, R9) -/

/-- The rank after an occupancy. -/
def nextRank (o : Occupancy) (number : StationNo) (rank : Nat) : Nat :=
  match o with
  | .hello => number.val
  | .ownSent => 0
  | _ => holdAt 15 rank 1

/-- The line becomes idle: a station that is not synchronised becomes so (R3); any other re-ranks itself (R8, R9). That the own
number becomes the rank here, and not at HELLO_COMPLETES as R171 may mean, is the model's choice (log 40). -/
def State.endOccupancy (s : State) : State :=
  if s.link.onLine.isSome then s
  else if s.link.synced then
    { s with link := { s.link with rank := nextRank s.link.occupancy s.own s.link.rank, occupancy := .unjudged } }
  else { s with link := { s.link with synced := true, occupancy := .unjudged } }

end Sys2Proof.Machine
end

