-- ==== Sys2Proof/Machine/ResetFamily.lean ====
section
/-! DEFINITION. The meanings of POWER_RESET, PIN_RESET and RESET_RELEASE (R165, R166). -/

namespace Sys2Proof.Machine

/-- POWER_RESET: the supply comes up; a reset of cause POWER begins (R165). -/
def execPowerReset (t : Nat) (s : State) : Host.Outcome State Fault Refusal :=
  .next ((s.advance t).beginReset .power)

/-- PIN_RESET: the reset line is asserted. While the device is held in reset it does not change the cause; a reset of
cause PIN begins otherwise (R165). -/
def execPinReset (t : Nat) (s : State) : Host.Outcome State Fault Refusal :=
  .next (s.live t (·.beginReset .pin))

/-- RESET_RELEASE: the reset in progress is released and the straps are read (R165, R166). With none in progress nothing
happens (log 4). -/
def execResetRelease (t : Nat) (straps : Straps) (s : State) : Host.Outcome State Fault Refusal :=
  .next (match s.inReset with
    | some c => (s.advance t).releaseReset c straps
    | none => s.advance t)

end Sys2Proof.Machine
end

