-- ==== Sys2Proof/Machine/LineFamily.lean ====
section
/-! DEFINITION. The meanings of the events of the quay line: LINE_IDLE, OCCUPANCY_END, ATTEMPT_START, LOST_ARBITRATION,
TRANSMIT_FAULT and RECEIVE_FAULT (R3, R6 to R9, R18, R21). -/

namespace Sys2Proof.Machine

/-- LINE_IDLE: the line is first seen idle after a reset (R3). -/
def execLineIdle (t : Nat) (s : State) : Host.Outcome State Fault Refusal :=
  .next (s.live t fun s => { s with link := { s.link with synced := true } })

/-- OCCUPANCY_END (R8, R9). -/
def execOccupancyEnd (t : Nat) (s : State) : Host.Outcome State Fault Refusal :=
  .next (s.live t fun s => s.endOccupancy)

/-- ATTEMPT_START (R6). -/
def execAttemptStart (t : Nat) (s : State) : Host.Outcome State Fault Refusal :=
  .next (s.live t fun s => s.startAttempt)

/-- LOST_ARBITRATION (R7). -/
def execLostArbitration (t : Nat) (s : State) : Host.Outcome State Fault Refusal :=
  .next (s.live t fun s => s.attemptFailed)

/-- TRANSMIT_FAULT (R18). -/
def execTransmitFault (t : Nat) (s : State) : Host.Outcome State Fault Refusal :=
  .next (s.live t fun s => s.abortAttempt)

/-- Whether the CRC check of a faulty occupancy succeeded (R3, R11): only a destination fault is read on to the slot. -/
def RxFault.crcGood : RxFault → Bool
  | .destination ok => ok
  | _ => false

/-- RECEIVE_FAULT (R3): one receive fault, from an occupancy this station judges. -/
def execReceiveFault (t : Nat) (cause : RxFault) (s : State) : Host.Outcome State Fault Refusal :=
  .next (s.live t fun s => if s.listens then s.lineFault (RxFault.crcGood cause) else s)

end Sys2Proof.Machine
end

