-- ==== Sys2Proof/Machine/TakenFamily.lean ====
section
/-! DEFINITION. The meanings of the thirteen good frames taken from the quay line (R3 to R5, R11, R21, R23, R25 to R36,
R60, R98, R103, R167). The payload bytes are read by the layouts of R192. -/

namespace Sys2Proof.Machine

/-- HELLO_TAKEN (R31). -/
def execHelloTaken (t : Nat) (sender : StationNo) (payload : Bytes) (s : State) : Host.Outcome State Fault Refusal :=
  .next (s.live t fun s => s.receive sender .hello 31 (readHello payload) (fun b => State.applyHello sender b))

/-- BYE_TAKEN (R26, R28). -/
def execByeTaken (t : Nat) (sender : StationNo) (payload : Bytes) (s : State) : Host.Outcome State Fault Refusal :=
  .next (s.live t fun s => s.receive sender .bye 31 (readBye payload) (fun b => State.applyBye sender b))

/-- STATUS_TAKEN (R32). -/
def execStatusTaken (t : Nat) (sender : StationNo) (payload : Bytes) (s : State) : Host.Outcome State Fault Refusal :=
  .next (s.live t fun s => s.receive sender .status 31 (readStatus payload) (fun b => State.applyStatus sender b))

/-- RAISE_TAKEN (R33). -/
def execRaiseTaken (t : Nat) (sender : StationNo) (payload : Bytes) (s : State) : Host.Outcome State Fault Refusal :=
  .next (s.live t fun s => s.receive sender .raise 31 (readRaise payload) (fun b => State.applyRaise sender b))

/-- LOWER_TAKEN (R30, R33). -/
def execLowerTaken (t : Nat) (sender : StationNo) (payload : Bytes) (s : State) : Host.Outcome State Fault Refusal :=
  .next (s.live t fun s => s.receive sender .lower 31 (readWord payload) (fun g => State.applyLower sender g))

/-- CLAIM_TAKEN (R34). -/
def execClaimTaken (t : Nat) (sender : StationNo) (payload : Bytes) (s : State) : Host.Outcome State Fault Refusal :=
  .next (s.live t fun s => s.receive sender .claim 31 (readClaim payload) (fun b => State.applyClaim sender b))

/-- RELEASE_TAKEN (R34). -/
def execReleaseTaken (t : Nat) (sender : StationNo) (payload : Bytes) (s : State) : Host.Outcome State Fault Refusal :=
  .next (s.live t fun s => s.receive sender .release 31 (readRelease payload) (fun b => State.applyRelease sender b))

/-- TALLY_TAKEN (R98). -/
def execTallyTaken (t : Nat) (sender : StationNo) (payload : Bytes) (s : State) : Host.Outcome State Fault Refusal :=
  .next (s.live t fun s => s.receive sender .tally 31 (readTally payload) (fun b => State.applyTallyFrame sender b))

/-- RECALL_TAKEN (R103). -/
def execRecallTaken (t : Nat) (sender : StationNo) (dest : BitVec 5) (payload : Bytes) (s : State) :
    Host.Outcome State Fault Refusal :=
  .next (s.live t fun s => s.receive sender .recall dest.toNat (readTally payload)
    (fun b => State.applyRecallFrame sender dest.toNat b))

/-- CAPACITY_TAKEN (R45). -/
def execCapacityTaken (t : Nat) (sender : StationNo) (dest : BitVec 5) (payload : Bytes) (s : State) :
    Host.Outcome State Fault Refusal :=
  .next (s.live t fun s => s.receive sender .capacity dest.toNat (readWord payload)
    (fun c => State.applyCapacity sender dest.toNat c))

/-- HALT_TAKEN (R60). -/
def execHaltTaken (t : Nat) (sender : StationNo) (dest : BitVec 5) (payload : Bytes) (s : State) :
    Host.Outcome State Fault Refusal :=
  .next (s.live t fun s => s.receive sender .halt dest.toNat (readReason payload)
    (fun r => State.applyHalt sender dest.toNat r))

/-- CLEAR_TAKEN (R60). -/
def execClearTaken (t : Nat) (sender : StationNo) (dest : BitVec 5) (payload : Bytes) (s : State) :
    Host.Outcome State Fault Refusal :=
  .next (s.live t fun s => s.receive sender .clear dest.toNat (readReason payload)
    (fun r => State.applyClear sender dest.toNat r))

/-- RESET_TAKEN (R167): a RESET carries no payload; `straps` are the levels read if the reset is taken (R166). -/
def execResetTaken (t : Nat) (sender : StationNo) (dest : BitVec 5) (straps : Straps) (s : State) :
    Host.Outcome State Fault Refusal :=
  .next (s.live t fun s => s.receive sender .reset dest.toNat (some ())
    (fun _ => State.applyReset sender dest.toNat straps))

end Sys2Proof.Machine
end

