-- ==== Sys2Proof/Machine/CompletesFamily.lean ====
section
/-! DEFINITION. The meanings of the own frames that complete on the line (R12, R17). -/

namespace Sys2Proof.Machine

/-- HELLO_COMPLETES (R171). -/
def execHelloCompletes (t : Nat) (acked : Bool) (s : State) : Host.Outcome State Fault Refusal :=
  .next (s.live t fun s => s.complete (· == .hello) acked (fun _ => State.helloDone))

/-- BYE_COMPLETES (R175, R176). -/
def execByeCompletes (t : Nat) (acked : Bool) (s : State) : Host.Outcome State Fault Refusal :=
  .next (s.live t fun s => s.complete (· == .bye) acked (fun _ => State.leftQuay))

/-- STATUS_COMPLETES (R37, R38, R173). -/
def execStatusCompletes (t : Nat) (acked : Bool) (s : State) : Host.Outcome State Fault Refusal :=
  .next (s.live t fun s => s.complete (· == .status) acked fun c s =>
    match c with
    | .status b => s.statusDone b.seq
    | _ => s)

/-- RAISE_COMPLETES (R49). -/
def execRaiseCompletes (t : Nat) (acked : Bool) (s : State) : Host.Outcome State Fault Refusal :=
  .next (s.live t fun s => s.complete (· == .raise) acked fun c s =>
    match c with
    | .raise target _ => s.raiseDone target
    | _ => s)

/-- LOWER_COMPLETES (R54, R57). -/
def execLowerCompletes (t : Nat) (acked : Bool) (s : State) : Host.Outcome State Fault Refusal :=
  .next (s.live t fun s => s.complete (· == .lower) acked fun c s =>
    match c with
    | .lower g => s.lowerDone g
    | _ => s)

/-- CLAIM_COMPLETES (R112). -/
def execClaimCompletes (t : Nat) (acked : Bool) (s : State) : Host.Outcome State Fault Refusal :=
  .next (s.live t fun s => s.complete (· == .claim) acked (fun _ => State.claimDone))

/-- RELEASE_COMPLETES (R118). -/
def execReleaseCompletes (t : Nat) (acked : Bool) (s : State) : Host.Outcome State Fault Refusal :=
  .next (s.live t fun s => s.complete (· == .release) acked (fun _ => State.releaseDone))

/-- The kinds FRAME_COMPLETES is for: TALLY, RECALL, CAPACITY, HALT, CLEAR and RESET, whose originating blocks do nothing
at the completion. -/
def Kind.plainDone : Kind → Bool
  | .tally => true | .recall => true | .capacity => true | .halt => true | .clear => true | .reset => true
  | _ => false

/-- FRAME_COMPLETES (R12, R17). -/
def execFrameCompletes (t : Nat) (acked : Bool) (s : State) : Host.Outcome State Fault Refusal :=
  .next (s.live t fun s => s.complete Kind.plainDone acked (fun _ s => s))

end Sys2Proof.Machine
end

