-- ==== Sys2Proof/Machine/TimerFamily.lean ====
section
/-! DEFINITION. The meanings of the timer and deadline expiries (R27, R33, R37, R51, R55, R58, R63, R67, R70, R101,
R115, R128, R131, R148, R160, R161, R172, R173). -/

namespace Sys2Proof.Machine

/-! ### Station table -/

/-- The silence timer of a PRESENT entry (R27). -/
def State.silentDue (j : StationNo) (s : State) : Option Nat :=
  if (s.entry j).presence = .present then some ((s.entry j).lastHeard + Config.silentAfter) else none

/-- The silence timer of a SILENT entry (R27). -/
def State.lostDue (j : StationNo) (s : State) : Option Nat :=
  if (s.entry j).presence = .silent then some ((s.entry j).lastHeard + Config.lostAfter) else none

/-- The lifetime of a pending raise (R33). -/
def State.raiseDue (j : StationNo) (s : State) : Option Nat :=
  match (s.entry j).raise with
  | some r => some (r.heard + Config.pendingRaiseLife)
  | none => none

/-- A peer becomes SILENT, everything it held kept (R27). -/
def State.becomeSilent (j : StationNo) (s : State) : State :=
  State.tableChanged .other (s.setEntry j { s.entry j with presence := .silent })

/-- A peer becomes LOST (R28). -/
def State.becomeLost (j : StationNo) (s : State) : State :=
  State.tableChanged .other ((s.setEntry j { (s.entry j).drop with presence := .lost }).reportPeerLost j)

/-- A pending raise ends with its lifetime (R33). -/
def State.dropPendingRaise (j : StationNo) (s : State) : State :=
  State.tableChanged .other (s.setEntry j { s.entry j with raise := none })

/-- The milliseconds a SELF_SILENT report carries (R37). -/
def State.selfSilentMs (s : State) : Nat :=
  s.now - max (s.table.watchStart.getD 0) (s.table.lastStatusDone.getD 0)

/-- SELF_SILENT is set (R37), with the hold-off clamp (R82) and held reason LINK (R129). -/
def State.becomeSelfSilent (s : State) : State :=
  let s1 := { s with table := { s.table with selfSilent := true, watchDeadline := none } }
  ((s1.reportSelfSilent s1.selfSilentMs).holdOffClamp .selfSilent).refreshHeld

/-- PEER_SILENT (R27). -/
def execPeerSilent (peer : StationNo) (s : State) : Host.Outcome State Fault Refusal :=
  .next (s.expire (s.silentDue peer) (·.becomeSilent peer))

/-- PEER_LOST (R27, R28). -/
def execPeerLost (peer : StationNo) (s : State) : Host.Outcome State Fault Refusal :=
  .next (s.expire (s.lostDue peer) (·.becomeLost peer))

/-- PENDING_RAISE_EXPIRY (R33). -/
def execPendingRaiseExpiry (peer : StationNo) (s : State) : Host.Outcome State Fault Refusal :=
  .next (s.expire (s.raiseDue peer) (·.dropPendingRaise peer))

/-- SELF_SILENT (R37). -/
def execSelfSilent (s : State) : Host.Outcome State Fault Refusal :=
  .next (s.expire s.table.watchDeadline State.becomeSelfSilent)

/-! ### Share unit -/

/-- The settle deadline of the own raise (R49). -/
def Raise.deadline : Raise → Option Nat
  | .settling _ d => Option.some d
  | _ => Option.none

/-- G becomes T and the phase NONE (R51). -/
def State.settleRaise (s : State) : State :=
  match s.share.raise with
  | .settling t _ => { s with share := { s.share with grant := t, raise := .none } }
  | _ => s

/-- The drain has stalled: reported, and the deadline set 15 s ahead again (R55). -/
def State.stallDrain (s : State) : State :=
  match s.share.lowering with
  | some l =>
    State.reportDrainStall l.target s.share.grant s.share.feed
      (s.setLowering (some { l with deadline := some (s.now + Config.drainDeadline) }))
  | none => s

/-- A lower request of cause release with target A; the timer stops (R58). -/
def State.releaseGrant (s : State) : State :=
  State.lowerRequest .release s.gov.allowed { s with share := { s.share with releaseTimer := none } }

/-- A HALT repeat (R63). -/
def State.repeatHalt (s : State) : State :=
  { s.offerHalt with share := { s.offerHalt.share with haltTimer := some (s.now + Config.haltRepeat) } }

/-- RAISE_SETTLE_DEADLINE (R51). -/
def execRaiseSettleDeadline (s : State) : Host.Outcome State Fault Refusal :=
  .next (s.expire s.share.raise.deadline State.settleRaise)

/-- DRAIN_STALL (R55). -/
def execDrainStall (s : State) : Host.Outcome State Fault Refusal :=
  .next (s.expire (s.share.lowering.bind (·.deadline)) State.stallDrain)

/-- RELEASE_TIMER_EXPIRY (R58). -/
def execReleaseTimerExpiry (s : State) : Host.Outcome State Fault Refusal :=
  .next (s.expire s.share.releaseTimer State.releaseGrant)

/-- HALT_REPEAT (R63). -/
def execHaltRepeat (s : State) : Host.Outcome State Fault Refusal :=
  .next (s.expire s.share.haltTimer State.repeatHalt)

/-- CAPACITY_REPEAT (R67). -/
def execCapacityRepeat (s : State) : Host.Outcome State Fault Refusal :=
  .next (s.expire s.share.capTimer State.offerCapacity)

/-! ### Governor, plan store, claim unit, order unit, station controller -/

/-- GOVERNOR_UPDATE (R71). -/
def execGovernorUpdate (s : State) : Host.Outcome State Fault Refusal :=
  .next (s.expire s.gov.timer State.governorUpdate)

/-- A TALLY offered, and the next expiry 5.0 s ahead (R101). -/
def State.periodicTally (s : State) : State :=
  State.offerTally { s with plan := { s.plan with tallyTimer := some (s.now + Config.tallyPeriod) } }

/-- TALLY_TIMER_EXPIRY (R101). -/
def execTallyTimerExpiry (s : State) : Host.Outcome State Fault Refusal :=
  .next (s.expire s.plan.tallyTimer State.periodicTally)

/-- The claim settles (R115). -/
def State.settleClaim (s : State) : State :=
  match s.claim.phase with
  | .settling => State.orderSettled { s with claim := { s.claim with phase := .settled, settle := none } }
  | _ => { s with claim := { s.claim with settle := none } }

/-- CLAIM_SETTLE_DEADLINE (R115). -/
def execClaimSettleDeadline (s : State) : Host.Outcome State Fault Refusal :=
  .next (s.expire s.claim.settle State.settleClaim)

/-- A TRAVELLING order times out (R128). -/
def State.timeoutTravel (s : State) : State :=
  State.decideEnd .failed .travelTimeout { s with order := { s.order with travelTimer := none } }

/-- TRAVEL_TIMEOUT (R128). -/
def execTravelTimeout (s : State) : Host.Outcome State Fault Refusal :=
  .next (s.expire s.order.travelTimer State.timeoutTravel)

/-- The hold has run out of reachable grain (R131). -/
def State.exhaustOrder (s : State) : State :=
  State.decideEnd .exhausted .feedLow { s with order := { s.order with exhaustTimer := none } }

/-- EXHAUSTION_TIMER_EXPIRY (R131). -/
def execExhaustionTimerExpiry (s : State) : Host.Outcome State Fault Refusal :=
  .next (s.expire s.order.exhaustTimer State.exhaustOrder)

/-- LISTEN_TIMER_EXPIRY (R172). -/
def execListenTimerExpiry (s : State) : Host.Outcome State Fault Refusal :=
  .next (s.expire s.station.listen State.enterActive)

/-- An own STATUS offered, and the next 500 ms later (R173). -/
def State.periodicStatus (s : State) : State :=
  State.offerStatus { s with station := { s.station with statusTimer := some (s.now + Config.statusPeriod) } }

/-- STATUS_TIMER_EXPIRY (R173). -/
def execStatusTimerExpiry (s : State) : Host.Outcome State Fault Refusal :=
  .next (s.expire s.station.statusTimer State.periodicStatus)

/-! ### Machine interface -/

/-- The machine is silent (R148). -/
def State.becomeMachineSilent (s : State) : State :=
  let s1 := s.reportMachineSilent s.machine.lastSeq
  let s2 := { s1 with
    machine := { s1.machine with
      silent := true, silenceTimer := none, position := none, baseline := none, lastSeq := none
      chokeEntry := none, chokeRecovery := none }
    share := { s1.share with feed := none } }
  (s2.holdOffClamp .machineSilent).refreshHeld.claimRetest

/-- MACHINE_SILENT (R148). -/
def execMachineSilent (s : State) : Host.Outcome State Fault Refusal :=
  .next (s.expire s.machine.silenceTimer State.becomeMachineSilent)

/-- A choke time appended to the history, the oldest of three dropped first (R160). -/
def appendChoke (t : Nat) (history : List Nat) : List Nat :=
  (if history.length < 3 then history else history.tail) ++ [t]

/-- Three choke times, the newest no more than 600 s after the oldest (R160). -/
def chokedRepeatedly : List Nat → Bool
  | [a, _, c] => decide (c - a ≤ Config.chokeWindow)
  | _ => false

/-- The air velocity of the last MEASURE (R160, R161). -/
def State.lastVelocity (s : State) : Nat :=
  match s.machine.last with
  | some m => m.velocity
  | none => 0

/-- The choke is set (R160), in the order of its steps. -/
def State.setChoke (s : State) : State :=
  let s1 := { s with machine := { s.machine with
    choke := true, chokeEntry := none, chokeRecovery := none, history := appendChoke s.now s.machine.history } }
  let s2 := s1.reportChoke s1.lastVelocity s1.machine.history.length
  let s3 := (s2.holdOffClamp .choke).refreshHeld
  if chokedRepeatedly s1.machine.history then s3.chokeRepeated else s3

/-- CHOKE (R159, R160). -/
def execChoke (s : State) : Host.Outcome State Fault Refusal :=
  .next (s.expire s.machine.chokeEntry State.setChoke)

/-- The choke is cleared (R161). -/
def State.clearChoke (s : State) : State :=
  let s1 := { s with machine := { s.machine with choke := false, chokeRecovery := none } }
  (s1.reportChokeCleared s1.lastVelocity).refreshHeld

/-- CHOKE_CLEARED (R161). -/
def execChokeCleared (s : State) : Host.Outcome State Fault Refusal :=
  .next (s.expire s.machine.chokeRecovery State.clearChoke)

end Sys2Proof.Machine
end

