-- ==== Sys2Proof/Machine/SerialFamily.lean ====
section
/-! DEFINITION. The meanings of the events of the machine link (R145 to R147, R151) and of the console line (R178,
R179). -/

namespace Sys2Proof.Machine

/-- MACHINE_BYTE_TIMEOUT: more than 5 ms between two bytes of a frame (R145). -/
def execMachineByteTimeout (t : Nat) (s : State) : Host.Outcome State Fault Refusal :=
  .next (s.live t fun s => s.machineError)

/-- MACHINE_FRAME_ERROR: a frame dropped for its kind, its length or its CRC (R145); each counts 1. -/
def execMachineFrameError (t : Nat) (cause : MachineFrameFault) (s : State) : Host.Outcome State Fault Refusal :=
  .next (s.live t fun s => match cause with
    | .kind => s.machineError
    | .length => s.machineError
    | .crc => s.machineError)

/-- MEASURE (R146, R147). A payload that is not 18 bytes is the length failure of R145 (log 12). -/
def execMeasure (t : Nat) (payload : Bytes) (s : State) : Host.Outcome State Fault Refusal :=
  .next (s.live t fun s => match readMeasure payload with
    | some m => s.takeMeasure m
    | none => s.machineError)

/-- The next waiting frame starts when the frame being sent is through (R151). -/
def MachineIf.sendNext (m : MachineIf) : MachineIf :=
  match m.waiting with
  | [] => { m with sending := none }
  | f :: rest => { m with sending := some f, waiting := rest }

/-- MACHINE_FRAME_SENT (R151). -/
def execMachineFrameSent (t : Nat) (s : State) : Host.Outcome State Fault Refusal :=
  .next (s.live t fun s => { s with machine := s.machine.sendNext })

/-- The console error count rises by 1, held at 65 535 (R177). -/
def State.consoleError (s : State) : State :=
  { s with console := { s.console with errors := holdAt Config.countMax s.console.errors 1 } }

/-- A command frame failed: counted and reported (R178). -/
def State.consoleFrameFault (s : State) : State :=
  s.consoleError.reportConsoleFrameError s.consoleError.console.errors

/-- CONSOLE_BYTE_TIMEOUT (R178). -/
def execConsoleByteTimeout (t : Nat) (s : State) : Host.Outcome State Fault Refusal :=
  .next (s.live t fun s => s.consoleFrameFault)

/-- CONSOLE_FRAME_ERROR: a length byte out of range or a CRC that differs (R178, R194); each counts 1. -/
def execConsoleFrameError (t : Nat) (cause : ConsoleFrameFault) (s : State) : Host.Outcome State Fault Refusal :=
  .next (s.live t fun s => match cause with
    | .length => s.consoleFrameFault
    | .crc => s.consoleFrameFault)

/-- The next waiting response starts when the one being sent is through (R179). -/
def Console.sendNext (c : Console) : Console :=
  match c.waiting with
  | [] => { c with sending := none }
  | r :: rest => { c with sending := some r, waiting := rest }

/-- RESPONSE_SENT (R179). -/
def execResponseSent (t : Nat) (s : State) : Host.Outcome State Fault Refusal :=
  .next (s.live t fun s => { s with console := s.console.sendNext })

end Sys2Proof.Machine
end

