-- ==== Sys2Proof/Machine/ConsoleFamily.lean ====
section
/-! DEFINITION. The meanings of the console commands that may change the device (R168, R169, R174, R90 to R93, R124,
R141, R62, R64, R65, R67, R181) and of a command whose code is none of the twenty (R180). Each answers one response,
formed at the moment the command is taken (R179); every refusal leaves the rest of the device as it was (R180). -/

namespace Sys2Proof.Machine

/-! ### Handling a command (R179, R180) -/

/-- What a command's owning block answers: the state with its changes, the result and the result data. -/
abbrev Handled := State × Result × Bytes

/-- Refused: nothing changes and there are no result data (R180, R194). -/
def refuse (r : Result) (s : State) : Handled := (s, r, [])

/-- A command taken while 4 responses wait: counted and reported, not handled (R179). -/
def State.overrun (tag : BitVec 16) (s : State) : State := s.consoleError.reportConsoleOverrun tag

/-- A command is handled whole and its response formed (R179). -/
def State.command (tag : BitVec 16) (handle : State → Handled) (s : State) : State :=
  if 4 ≤ s.console.waiting.length then s.overrun tag
  else
    let r := handle s
    { r.1 with console := r.1.console.respond ⟨tag, r.2.1, r.2.2⟩ }

/-- The argument length is checked before the owning block sees the command (R180). -/
def withArgs (args : Option α) (k : α → State → Handled) (s : State) : Handled :=
  match args with
  | some a => k a s
  | none => refuse .badArg s

/-- UNKNOWN: a command code that is none of the twenty (R180). -/
def execUnknown (t : Nat) (tag : BitVec 16) (_code : Byte) (s : State) : Host.Outcome State Fault Refusal :=
  .next (s.live t (·.command tag (refuse .unknown)))

/-! ### CONFIGURE (R168) -/

/-- A field outside its range (R168). -/
def outside (lo hi n : Nat) : Bool := decide (n < lo) || decide (hi < n)

/-- The configuration record of the arguments, each field clamped to its range (R168). -/
def ConfigureArgs.record (a : ConfigureArgs) : ConfigRecord where
  capacity := clamp 100 6000 a.capacity
  spacing := clamp 100 400 a.spacing
  vmin := clamp 150 300 a.vmin
  horizon := clamp 60 1800 a.horizon
  taperMass := clamp 0 50000 a.taperMass
  reportLevel := clamp 0 3 a.reportLevel
  remoteEnable := a.remoteEnable == 1

/-- Bit k is set where argument field k was clamped (R194). -/
def ConfigureArgs.clampMask (a : ConfigureArgs) : Nat :=
  flagBit (outside 100 6000 a.capacity) 1 + flagBit (outside 100 400 a.spacing) 2
    + flagBit (outside 150 300 a.vmin) 4 + flagBit (outside 60 1800 a.horizon) 8
    + flagBit (outside 0 50000 a.taperMass) 16 + flagBit (outside 0 3 a.reportLevel) 32

/-- CONFIGURE is taken: the record set, OFFLINE entered, the mismatch check made on every entry, C recomputed (R168,
R40, R44). -/
def State.takeConfigure (c : ConfigRecord) (s : State) : State :=
  let s1 := { s with station := { s.station with
    config := some c, reportLevel := c.reportLevel, remoteEnable := c.remoteEnable, state := .offline } }
  (s1.holdOffClamp .state).capCheckAll.tableChanged .other

def handleConfigure (a : ConfigureArgs) (s : State) : Handled :=
  if s.station.state ≠ .config then refuse .badState s
  else if a.remoteEnable ≠ 0 ∧ a.remoteEnable ≠ 1 then refuse .badArg s
  else if a.clampMask = 0 then (s.takeConfigure a.record, .ok, [])
  else (s.takeConfigure a.record, .clamped, [byteOf a.clampMask])

/-- CONFIGURE (R168). -/
def execConfigure (t : Nat) (tag : BitVec 16) (args : Bytes) (s : State) : Host.Outcome State Fault Refusal :=
  .next (s.live t (·.command tag (withArgs (readConfigure args) handleConfigure)))

/-! ### JOIN and LEAVE (R169, R174) -/

def handleJoin (s : State) : Handled :=
  match s.station.state with
  | .offline => (s.enterJoining, .ok, [])
  | .muted => (s.enterJoining, .ok, [])
  | _ => refuse .badState s

/-- JOIN (R169). -/
def execJoin (t : Nat) (tag : BitVec 16) (args : Bytes) (s : State) : Host.Outcome State Fault Refusal :=
  .next (s.live t (·.command tag (withArgs (readNoArg args) (fun _ => handleJoin))))

def handleLeave (s : State) : Handled :=
  if s.working then
    if s.orderHeld then refuse .busy s else (s.enterLeaving, .ok, [])
  else refuse .badState s

/-- LEAVE (R174). -/
def execLeave (t : Nat) (tag : BitVec 16) (args : Bytes) (s : State) : Host.Outcome State Fault Refusal :=
  .next (s.live t (·.command tag (withArgs (readNoArg args) (fun _ => handleLeave))))

/-! ### The plan commands (R90 to R93) -/

/-- A PLAN_BEGIN header in range (R90). -/
def PlanBeginArgs.good (a : PlanBeginArgs) : Bool :=
  a.id != 0 && decide (1 ≤ a.count) && decide (a.count ≤ 12) && decide (a.dadj ≤ 40000000)
    && decide (a.tmax ≤ 2000000)

/-- LOADING is entered with a new record, and the accounts are cleared (R90). -/
def State.beginPlan (a : PlanBeginArgs) (s : State) : State :=
  State.clearAccounts { s with plan := { s.plan with
    phase := .loading
    record := some ⟨a.id, a.count, a.dadj, a.tmax, Vector.replicate 12 none⟩ } }

def handlePlanBegin (a : PlanBeginArgs) (s : State) : Handled :=
  if s.isIntake then refuse .role s
  else if s.anyOrder then refuse .badState s
  else if a.good then (s.beginPlan a, .ok, [])
  else refuse .badArg s

/-- PLAN_BEGIN (R90). -/
def execPlanBegin (t : Nat) (tag : BitVec 16) (args : Bytes) (s : State) : Host.Outcome State Fault Refusal :=
  .next (s.live t (·.command tag (withArgs (readPlanBegin args) handlePlanBegin)))

/-- A PLAN_HOLD in range under a hold count (R91): with slot count 1 the second position is not examined. -/
def PlanHoldArgs.good (count : Nat) (a : PlanHoldArgs) : Bool :=
  decide (1 ≤ a.hold) && decide (a.hold ≤ count) && decide (1 ≤ a.mass) && decide (a.mass ≤ 40000000)
    && decide (-1500 ≤ a.lever) && decide (a.lever ≤ 1500) && (a.slots == 1 || a.slots == 2)
    && positionGood a.pos1 && (a.slots == 1 || positionGood a.pos2)

/-- The hold entry of the arguments (R91). -/
def PlanHoldArgs.entry (a : PlanHoldArgs) : HoldEntry :=
  ⟨a.mass, a.lever, a.pos1, if a.slots = 2 then some a.pos2 else none⟩

/-- The hold's entry is given or replaced whole (R91). -/
def PlanRecord.give (h : Nat) (e : HoldEntry) (p : PlanRecord) : PlanRecord :=
  if hh : 1 ≤ h ∧ h ≤ 12 then { p with holds := p.holds.set (h - 1) (some e) (by omega) } else p

def handlePlanHold (a : PlanHoldArgs) (s : State) : Handled :=
  if s.isIntake then refuse .role s
  else match s.plan.phase, s.plan.record with
    | .loading, some p =>
      if a.good p.count then
        ({ s with plan := { s.plan with record := some (p.give a.hold a.entry) } }, .ok, [])
      else refuse .badArg s
    | _, _ => refuse .badState s

/-- PLAN_HOLD (R91). -/
def execPlanHold (t : Nat) (tag : BitVec 16) (args : Bytes) (s : State) : Host.Outcome State Fault Refusal :=
  .next (s.live t (·.command tag (withArgs (readPlanHold args) handlePlanHold)))

/-- The holds 1 to N of a plan record. -/
def PlanRecord.numbers (p : PlanRecord) : List Nat := holdNumbers.filter (fun h => decide (h ≤ p.count))

/-- The lowest hold not given (R92). -/
def PlanRecord.notGiven (p : PlanRecord) : Option Nat := p.numbers.find? (fun h => (p.hold h).isNone)

/-- Every slot of the plan in (hold, slot) order, with its position (R92). -/
def PlanRecord.slotList (p : PlanRecord) : List ((Nat × Nat) × Nat) :=
  p.numbers.flatMap fun h =>
    match p.hold h with
    | some e => ((h, 1), e.pos1) :: (match e.pos2 with | some x => [((h, 2), x)] | none => [])
    | none => []

/-- The first slot whose position a later slot shares, and the first such later slot (R92). -/
def samePosition : List ((Nat × Nat) × Nat) → Option ((Nat × Nat) × (Nat × Nat))
  | [] => none
  | a :: rest =>
    match rest.find? (fun b => b.2 == a.2) with
    | some b => some (a.1, b.1)
    | none => samePosition rest

/-- READY: the TALLY timer starts where the station is ACTIVE or DEGRADED (R92, R101). -/
def State.readyThePlan (s : State) : State :=
  { s with plan := { s.plan with
      phase := .ready
      tallyTimer := if s.working then some (s.now + Config.tallyPeriod) else s.plan.tallyTimer } }

def handlePlanEnd (s : State) : Handled :=
  if s.isIntake then refuse .role s
  else match s.plan.phase, s.plan.record with
    | .loading, some p =>
      match p.notGiven with
      | some h => (s, .badArg, [byteOf h])
      | none =>
        match samePosition p.slotList with
        | some (a, b) => (s, .badArg, [byteOf a.1, byteOf a.2, byteOf b.1, byteOf b.2])
        | none => (s.readyThePlan, .ok, [])
    | _, _ => refuse .badState s

/-- PLAN_END (R92). -/
def execPlanEnd (t : Nat) (tag : BitVec 16) (args : Bytes) (s : State) : Host.Outcome State Fault Refusal :=
  .next (s.live t (·.command tag (withArgs (readNoArg args) (fun _ => handlePlanEnd))))

/-- The record is discarded, the plan state becomes NONE and the accounts are cleared (R93). -/
def State.dropPlan (s : State) : State :=
  State.clearAccounts { s with plan := { s.plan with phase := .none, record := none } }

def handlePlanDrop (s : State) : Handled :=
  if s.isIntake then refuse .role s
  else if s.anyOrder then refuse .badState s
  else (s.dropPlan, .ok, [])

/-- PLAN_DROP (R93). -/
def execPlanDrop (t : Nat) (tag : BitVec 16) (args : Bytes) (s : State) : Host.Outcome State Fault Refusal :=
  .next (s.live t (·.command tag (withArgs (readNoArg args) (fun _ => handlePlanDrop))))

/-! ### ORDER and CANCEL (R124, R125, R141) -/

/-- Tag, hold, slot, target and priority in range under the READY plan (R124). -/
def OrderArgs.good (p : PlanRecord) (a : OrderArgs) : Bool :=
  a.tag != 0 && decide (1 ≤ a.hold) && decide (a.hold ≤ p.count) && decide (1 ≤ a.slot)
    && decide (a.slot ≤ (match p.hold a.hold with | some e => e.slots | none => 0))
    && decide (1 ≤ a.target) && decide (a.target ≤ 40000000) && decide (a.priority ≤ 7)

/-- Demand below 10 or above 1 500 (R124). -/
def OrderArgs.demandClamped (a : OrderArgs) : Bool := outside 10 1500 a.demand

/-- The record of an accepted order (R124). -/
def OrderArgs.record (arrival : Nat) (a : OrderArgs) : OrderRecord where
  tag := a.tag
  hold := a.hold
  slot := a.slot
  target := a.target
  done := 0
  demand := clamp 10 1500 a.demand
  priority := a.priority
  state := .waiting
  held := Held.none
  blocked := none
  endState := none
  endReason := none
  arrival := arrival

/-- The order is accepted: it takes the arrival number and is placed (R124, R125). -/
def State.acceptOrder (a : OrderArgs) (p : Placement) (s : State) : State :=
  State.place p (a.record s.order.arrival)
    { s with order := { s.order with arrival := holdAt Config.massMax s.order.arrival 1 } }

def handleOrder (a : OrderArgs) (s : State) : Handled :=
  if s.isIntake then refuse .role s
  else if s.station.state = .leaving then refuse .badState s
  else match s.readyPlan with
    | none => refuse .badState s
    | some p =>
      if a.good p then
        if s.tagHeld a.tag then refuse .tagInUse s
        else match s.placement a.priority with
          | none => refuse .full s
          | some pl => (s.acceptOrder a pl, if a.demandClamped then .clamped else .ok, [byteOf pl.code])
      else refuse .badArg s

/-- ORDER (R124). -/
def execOrder (t : Nat) (tag : BitVec 16) (args : Bytes) (s : State) : Host.Outcome State Fault Refusal :=
  .next (s.live t (·.command tag (withArgs (readOrder args) handleOrder)))

def handleCancel (orderTag : Nat) (s : State) : Handled :=
  let r := s.cancelOrder orderTag
  (r.1, r.2, [])

/-- CANCEL (R141). -/
def execCancel (t : Nat) (tag : BitVec 16) (args : Bytes) (s : State) : Host.Outcome State Fault Refusal :=
  .next (s.live t (·.command tag (withArgs (readWord args) handleCancel)))

/-! ### HALT, CLEAR, OVERRIDE_CLEAR, BELTCAP (R62, R64, R65, R67) -/

/-- The scope a byte names (R62, R194). -/
def haltScopeOf : Nat → Option HaltScope
  | 1 => some .belt
  | 2 => some .quay
  | _ => none

def handleHalt (a : Nat × Nat) (s : State) : Handled :=
  match haltScopeOf a.1 with
  | none => refuse .badArg s
  | some scope =>
    if clearReasonGood a.2 then
      if s.transmits then
        if s.urgentFull then refuse .busy s else (s.originateHalt ⟨scope, a.2⟩, .ok, [])
      else refuse .badState s
    else refuse .badArg s

/-- HALT (R62). -/
def execHalt (t : Nat) (tag : BitVec 16) (args : Bytes) (s : State) : Host.Outcome State Fault Refusal :=
  .next (s.live t (·.command tag (withArgs (readHaltArgs args) handleHalt)))

/-- CLEAR is taken: a CLEAR offered, the own halt removed with its repeats, and the own number's membership ended
(R64). -/
def State.clearHalt (reason : Nat) (s : State) : State :=
  let s1 := s.offerUrgent (.clear reason)
  State.haltRemove s.own { s1 with share := { s1.share with ownHalt := none, haltTimer := none } }

def handleClear (reason : Nat) (s : State) : Handled :=
  if clearReasonGood reason then
    if s.transmits then
      if s.urgentFull then refuse .busy s else (s.clearHalt reason, .ok, [])
    else refuse .badState s
  else refuse .badArg s

/-- CLEAR (R64). -/
def execClear (t : Nat) (tag : BitVec 16) (args : Bytes) (s : State) : Host.Outcome State Fault Refusal :=
  .next (s.live t (·.command tag (withArgs (readByteArg args) handleClear)))

/-- Every member leaves the own halt set; the own halt and its repeats end where the own number was a member (R65). -/
def State.overrideClear (s : State) : State :=
  let member := haltMember s.share.halts s.own
  let s1 := { s with share := { s.share with
    halts := 0#16
    ownHalt := if member then none else s.share.ownHalt
    haltTimer := if member then none else s.share.haltTimer } }
  (s1.reportOverride (haltCount s.share.halts)).haltLost

/-- OVERRIDE_CLEAR (R65). -/
def execOverrideClear (t : Nat) (tag : BitVec 16) (args : Bytes) (s : State) : Host.Outcome State Fault Refusal :=
  .next (s.live t (·.command tag (withArgs (readNoArg args) (fun _ s => (s.overrideClear, .ok, [])))))

/-- The announced belt capacity is set, and offered at once in ACTIVE and DEGRADED (R67). -/
def State.takeBeltcap (c : Nat) (s : State) : State :=
  let s1 := { s with share := { s.share with beltCap := some c } }
  if s1.working then s1.offerCapacity else s1

def handleBeltcap (c : Nat) (s : State) : Handled :=
  if s.isUnloader then refuse .role s
  else (s.takeBeltcap (min c Config.capacityMax), if Config.capacityMax < c then .clamped else .ok, [])

/-- BELTCAP (R67). -/
def execBeltcap (t : Nat) (tag : BitVec 16) (args : Bytes) (s : State) : Host.Outcome State Fault Refusal :=
  .next (s.live t (·.command tag (withArgs (readWord args) handleBeltcap)))

/-! ### REMOTE_RESET (R181) -/

def handleRemoteReset (target : Nat) (s : State) : Handled :=
  if hh : target < 16 then
    if target = s.own.val then refuse .badArg s
    else if s.transmits then
      if s.urgentFull then refuse .busy s else (s.offerUrgent (.reset ⟨target, hh⟩), .ok, [])
    else refuse .badState s
  else refuse .badArg s

/-- REMOTE_RESET (R181). -/
def execRemoteReset (t : Nat) (tag : BitVec 16) (args : Bytes) (s : State) : Host.Outcome State Fault Refusal :=
  .next (s.live t (·.command tag (withArgs (readByteArg args) handleRemoteReset)))

end Sys2Proof.Machine
end

