-- ==== Sys2Proof/Machine/QueryFamily.lean ====
section
/-! DEFINITION. The meanings of the queries (R182 to R185) and of READ_REPORT (R188), with the coding of their result
data (R190, R195; where the spec gives an item no width or code, log 22). A query changes nothing but the response
queue. -/

namespace Sys2Proof.Machine

/-! ### Coding of items (R195) -/

/-- A flag that is not a field of a frame takes 4 bytes. R195 gives it 'its code below' and R196 lists none: 1 for set, yes or
CLOSED and 0 for clear, no or OPEN is the model's choice (log 22). -/
def flag4 (b : Bool) : Bytes := bytes4 (flagBit b 1)

/-- An optional value of two bytes. -/
def opt2 : Option Nat → Bytes
  | some n => bytes2 n
  | none => absent 2

/-- An optional value of four bytes. -/
def opt4 : Option Nat → Bytes
  | some n => bytes4 n
  | none => absent 4

/-- An optional value of one byte. -/
def opt1 : Option Nat → Bytes
  | some n => [byteOf n]
  | none => absent 1

/-- An optional signed value of eight bytes: Q and W. -/
def optSigned8 : Option Int → Bytes
  | some z => bytes8 (twos 64 z)
  | none => absent 8

/-- A timer: its remaining milliseconds, or all ones when stopped. -/
def State.timerBytes (d : Option Nat) (s : State) : Bytes := opt4 (d.map (fun t => t - s.now))

/-- A recorded time: the milliseconds from it to the query (R195). Past 2^32 - 1 ms, which R195 leaves open, the low 32 bits
are given, the model's choice (log 22). -/
def State.sinceBytes (t : Nat) (s : State) : Bytes := bytes4 (s.now - t)

/-- A list: one count byte, then its members. -/
def listBytes (members : List Bytes) : Bytes := byteOf members.length :: members.flatten

/-! ### QUERY_STATION (R182) -/

def ConfigRecord.bytes (c : ConfigRecord) : Bytes :=
  bytes2 c.capacity ++ bytes2 c.spacing ++ bytes2 c.vmin ++ bytes2 c.horizon ++ bytes2 c.taperMass
    ++ [byteOf c.reportLevel, byteOf (flagBit c.remoteEnable 1)]

/-- The station controller's items in the order of R182. The reset cause takes 1 byte, as a HELLO's start cause does, and not
the 4 of a value that stands in no frame; the station state, the role and the belt, bits of a byte in a frame, take 4: the
model's choice (log 22). R182 lists neither the listen timer nor the STATUS timer, which R164 says QUERY_STATION shows; they
stand last in the data, the model's choice (log 31). -/
def State.stationItems (s : State) : Bytes :=
  bytes4 s.station.state.code ++ [byteOf s.station.resetCause.code] ++ [byteOf s.own.val]
    ++ bytes4 (Role.code s.station.straps.role) ++ bytes4 (Belt.code s.station.straps.belt)
    ++ (match s.station.config with | some c => c.bytes | none => absent 12)
    ++ [byteOf s.station.reportLevel, byteOf (flagBit s.station.remoteEnable 1)] ++ flag4 s.station.joined
    ++ opt1 (s.station.lastSentSeq.map (·.toNat)) ++ flag4 s.station.leaveDrain ++ flag4 s.station.leaveRelease

/-- The link controller's items in the order of R182. The rank stands in a frame only as 4 bits of the arbitration word
(R191): that it takes 4 bytes here is the model's choice (log 22). -/
def State.linkItems (s : State) : Bytes :=
  bytes4 s.link.rank ++ bytes4 s.link.txFaults ++ bytes4 s.link.rxFaults ++ flag4 s.link.rxPoor
    ++ bytes4 s.link.unheard ++ bytes4 s.link.urgentCount
    ++ listBytes (s.link.normal.map (fun c => [byteOf c.kind.code])) ++ bytes4 s.link.listCount

def State.tableItems (s : State) : Bytes :=
  flag4 s.table.selfSilent
    ++ (match s.table.lastStatusDone with | some t => s.sinceBytes t | none => absent 4)

/-- The target T as a RAISE carries it; 0 with no raise, as in STATUS (R192), and not the all ones of an absent value, the
model's choice (log 22). -/
def Raise.target : Raise → Nat
  | .none => 0
  | .queued t => t
  | .sending t _ => t
  | .settling t _ => t

/-- The share unit's items in the order of R182; the intake capacity list is a list of R195, a count byte of 16 before its
16 members. What R41 lists and R182 does not is left out, the model's choice (log 31). -/
def State.shareItems (s : State) : Bytes :=
  bytes2 s.share.grant ++ bytes4 s.share.raise.code ++ bytes2 s.share.raise.target ++ flag4 s.share.yieldOwed
    ++ opt2 (s.share.lowering.map (·.target)) ++ s.timerBytes (s.share.lowering.bind (·.deadline))
    ++ s.timerBytes s.share.releaseTimer ++ bytes4 s.share.capacity ++ bytes4 s.share.resv
    ++ bytes4 (twos 32 s.headroom) ++ listBytes (stations.map (fun j => opt2 s.share.intakeCaps[j]))
    ++ flag4 s.share.overcommit ++ bytes2 s.share.halts.toNat
    ++ (match s.share.ownHalt with | some h => [byteOf h.scope.code, byteOf h.reason] | none => absent 2)
    ++ opt2 s.share.beltCap ++ opt4 (s.share.beltRunning.map (fun b => flagBit b 1))

/-- The binding term of F_t: its code, then the condition of HOLD_OFF (R69). -/
def BindTarget.bytes : BindTarget → Bytes
  | .holdOff c => bytes4 (BindTarget.code (.holdOff c)) ++ bytes4 c.code
  | b => bytes4 b.code ++ absent 4

/-- Q and W of the last update with a worked hold, 8 bytes each, signed (R195). -/
def Governor.roomBytes (g : Governor) : Bytes := optSigned8 g.moment ++ optSigned8 g.room

/-- The limit record, an item made of several values: r_taper, r_bal, r_trim, Cm, Q and W, as R69 lists them. -/
def Governor.limitRecord (g : Governor) : Bytes :=
  bytes4 g.taper ++ bytes4 g.balance ++ bytes4 g.trim ++ bytes2 g.machineCap ++ g.roomBytes

/-- The governor's items in the order of R182. Q and W stand twice: R69 makes them part of the limit record, and R182 lists
them again at the end of the group (log 22). The update timer of R69, which R87 may mean and R182 does not list, is left out,
the model's choice (log 31). -/
def State.govItems (s : State) : Bytes :=
  bytes2 s.gov.feed ++ bytes2 s.gov.allowed ++ bytes4 s.gov.target ++ s.gov.limitRecord ++ bytes4 s.gov.bindAllowed.code
    ++ s.gov.bindTarget.bytes ++ flag4 s.gov.limit.isSome ++ opt4 (s.gov.limit.map (·.code)) ++ s.gov.roomBytes

/-- The plan store's items in the order of R182. With no plan record its four items are all ones, by R195's last sentence, though
the plan id of a HELLO and a STATUS is then 0; and 'TALLY timer running' is a flag, and not the timer's remaining time: both the
model's choice (log 22). -/
def State.planItems (s : State) : Bytes :=
  bytes4 s.plan.phase.code
    ++ (match s.plan.record with
      | some p => bytes4 p.id ++ [byteOf p.count] ++ bytes4 p.dadj ++ bytes4 p.tmax
      | none => absent 13)
    ++ bytes8 s.plan.unattributed ++ flag4 s.plan.tallyTimer.isSome

/-- A blocked reason as an order record codes it, 0 where there is none (R195); of a claim request too, the model's choice
(log 22). -/
def blockedByte : Option BlockedReason → Byte
  | some b => byteOf b.code
  | none => 0#8

/-- The claim unit's items in the order of R182. An absent own claim or claim request is all ones in every value, by
R195's last sentence, though STATUS codes no claim as hold and slot 0. The blocked reason of an absent request is then 0xFF too;
that of a request which is held and not blocked is the 0 of an order record. All this is the model's choice (log 22). -/
def State.claimItems (s : State) : Bytes :=
  bytes4 s.claim.phase.code ++ (match s.claim.own with | some c => c.bytes | none => absent 6)
    ++ (match s.claim.time with | some _ => bytes2 s.claimAge | none => absent 2)
    ++ (match s.claim.request with
      | some r => [byteOf r.hold, byteOf r.slot] ++ bytes2 r.pos ++ [blockedByte r.blocked]
      | none => absent 5)
    ++ flag4 s.claim.releaseOwed

def State.machineItems (s : State) : Bytes :=
  (match s.machine.last with | some m => m.bytes | none => absent 18)
    ++ opt1 (s.machine.lastSeq.map (·.toNat)) ++ bytes4 s.machine.missed ++ bytes4 s.machine.errors
    ++ flag4 s.machine.silent ++ s.timerBytes s.machine.silenceTimer ++ flag4 s.machine.fault
    ++ opt2 s.machine.position ++ opt2 s.machine.announced ++ opt4 (s.machine.baseline.map (·.toNat))
    ++ bytes8 s.machine.accepted ++ [byteOf s.machine.attrHold]
    ++ listBytes (s.machine.carry.map (fun r => byteOf r.1 :: bytes4 r.2)) ++ flag4 s.machine.choke
    ++ s.timerBytes s.machine.chokeEntry ++ s.timerBytes s.machine.chokeRecovery
    ++ listBytes (s.machine.history.map (fun t => s.sinceBytes t))

def State.consoleItems (s : State) : Bytes :=
  bytes4 s.console.reports.length ++ bytes2 s.console.lost ++ bytes4 s.console.errors

/-- The listen timer and the STATUS timer of R164's table (log 31). -/
def State.stationTimers (s : State) : Bytes := s.timerBytes s.station.listen ++ s.timerBytes s.station.statusTimer

/-- The result data of QUERY_STATION, group by group (R182), and the two timers R164 adds (log 31). -/
def State.stationData (s : State) : Bytes :=
  s.stationItems ++ s.linkItems ++ s.tableItems ++ s.shareItems ++ s.govItems ++ s.planItems ++ s.claimItems
    ++ s.machineItems ++ s.consoleItems ++ s.stationTimers

/-- QUERY_STATION (R182). -/
def execQueryStation (t : Nat) (tag : BitVec 16) (args : Bytes) (s : State) : Host.Outcome State Fault Refusal :=
  .next (s.live t (·.command tag (withArgs (readNoArg args) (fun _ s => (s, .ok, s.stationData)))))

/-! ### QUERY_PEER (R183) -/

/-- Every field of an entry (R24). An Unknown role or belt, which R24 does not call optional and R196 gives no code, is given
as all ones in 4 bytes, as an absent value is, the model's choice (log 22). The last-heard time of an ABSENT entry, of which R24
says only that it is not used, is given as absent, the model's choice (log 32). An absent pending raise or slot claim is all
ones in every value, by R195's last sentence, though STATUS codes no raise and no claim as 0: the model's choice (log 22). -/
def State.entryItems (e : PeerEntry) (s : State) : Bytes :=
  bytes4 e.presence.code ++ opt4 (e.role.map (Role.code ·)) ++ opt4 (e.belt.map (Belt.code ·))
    ++ opt1 (e.cause.map (·.code))
    ++ (match e.lastStatus with | some b => b.bytes | none => absent 28)
    ++ bytes2 e.grant
    ++ (match e.raise with | some r => bytes2 r.target ++ s.sinceBytes r.heard | none => absent 6)
    ++ (match e.claim with
      | some c => [byteOf c.hold, byteOf c.slot] ++ opt2 c.target ++ bytes2 c.age ++ s.sinceBytes c.receipt
      | none => absent 10)
    ++ opt2 e.position ++ bytes4 e.planId ++ bytes2 e.capacity ++ opt2 e.mismatch
    ++ (if e.presence = .absent then absent 4 else s.sinceBytes e.lastHeard)
    ++ opt1 (e.lastSeq.map (·.toNat)) ++ bytes4 e.missed

/-- Whether a peer's plan id equals the own READY plan id (R74, R183). -/
def State.columnCounted (j : StationNo) (s : State) : Bool :=
  match s.readyPlan with
  | some p => (s.entry j).planId == p.id
  | none => false

/-- The result data of QUERY_PEER (R183). -/
def State.peerData (j : StationNo) (s : State) : Bytes :=
  let e := s.entry j
  s.entryItems e ++ opt2 (e.claim.map s.peerClaimAge) ++ flag4 (e.counted s.station.straps.belt)
    ++ opt4 (if e.counted s.station.straps.belt then some e.reservation else none)
    ++ opt2 s.share.intakeCaps[j] ++ flag4 (haltMember s.share.halts j) ++ flag4 (s.columnCounted j)
    ++ opt4 s.plan.marks[j]

def handleQueryPeer (n : Nat) (s : State) : Handled :=
  if hh : n < 16 then
    if n = s.own.val then refuse .badArg s else (s, .ok, s.peerData ⟨n, hh⟩)
  else refuse .badArg s

/-- QUERY_PEER (R183). -/
def execQueryPeer (t : Nat) (tag : BitVec 16) (args : Bytes) (s : State) : Host.Outcome State Fault Refusal :=
  .next (s.live t (·.command tag (withArgs (readByteArg args) handleQueryPeer)))

/-! ### QUERY_HOLD (R184) -/

/-- A given hold entry: mass, lever, slot count and slot positions. -/
def HoldEntry.bytes (e : HoldEntry) : Bytes :=
  bytes4 e.mass ++ bytes2 (twos 16 e.lever) ++ [byteOf e.slots] ++ bytes2 e.pos1 ++ opt2 e.pos2

/-- The hold entry of h where it is given in the plan record (R184). -/
def State.givenHold (h : Nat) (s : State) : Option HoldEntry :=
  match s.plan.record with
  | some p => if h ≤ p.count then p.hold h else none
  | none => none

/-- X and R of a hold where the plan is READY and the hold is at most N (R184). -/
def State.holdMasses (h : Nat) (s : State) : Option (Nat × Nat) :=
  match s.readyPlan with
  | some p => if h ≤ p.count then some (s.dischargedMass p h, s.remainingMass p h) else none
  | none => none

/-- The result data of QUERY_HOLD (R184). -/
def State.holdData (h : Nat) (s : State) : Bytes :=
  bytes4 s.plan.phase.code ++ (match s.givenHold h with | some e => e.bytes | none => absent 11)
    ++ (stations.flatMap (fun j => bytes4 (s.cell h j)))
    ++ bytes4 (massAt s.plan.recallBase h) ++ bytes4 (massAt s.plan.attributed h)
    ++ opt4 ((s.holdMasses h).map (·.1)) ++ opt4 ((s.holdMasses h).map (·.2))

def handleQueryHold (h : Nat) (s : State) : Handled :=
  if 1 ≤ h ∧ h ≤ 12 then (s, .ok, s.holdData h) else refuse .badArg s

/-- QUERY_HOLD (R184). -/
def execQueryHold (t : Nat) (tag : BitVec 16) (args : Bytes) (s : State) : Host.Outcome State Fault Refusal :=
  .next (s.live t (·.command tag (withArgs (readByteArg args) handleQueryHold)))

/-! ### QUERY_ORDERS and QUERY_FINISHED (R185) -/

/-- Bit 0 HALT, bit 1 CHOKE, bit 2 HOLD_LIMIT, bit 3 MACHINE, bit 4 LINK (R195). -/
def Held.byte (h : Held) : Byte :=
  byteOf (flagBit h.halt 1 + flagBit h.choke 2 + flagBit h.limit 4 + flagBit h.machine 8 + flagBit h.link 16)

/-- An order record, 24 bytes (R195). -/
def OrderRecord.bytes (o : OrderRecord) : Bytes :=
  bytes2 o.tag ++ [byteOf o.hold, byteOf o.slot] ++ bytes4 o.target ++ bytes4 o.done ++ bytes2 o.demand
    ++ [byteOf o.priority, byteOf o.state.code, o.held.byte, blockedByte o.blocked]
    ++ [match o.endState with | some e => byteOf e.code | none => 0#8,
        match o.endReason with | some r => byteOf r.code | none => 0#8]
    ++ bytes4 o.arrival

/-- The result data of QUERY_ORDERS (R185, R195). -/
def State.ordersData (s : State) : Bytes :=
  let u := s.order
  [byteOf u.active.toList.length, byteOf u.incoming.toList.length, byteOf u.stack.length, byteOf u.queue.length]
    ++ (u.active.toList ++ u.incoming.toList ++ u.stack ++ u.queue).flatMap OrderRecord.bytes

/-- QUERY_ORDERS (R185). -/
def execQueryOrders (t : Nat) (tag : BitVec 16) (args : Bytes) (s : State) : Host.Outcome State Fault Refusal :=
  .next (s.live t (·.command tag (withArgs (readNoArg args) (fun _ s => (s, .ok, s.ordersData)))))

/-- QUERY_FINISHED (R185). -/
def execQueryFinished (t : Nat) (tag : BitVec 16) (args : Bytes) (s : State) : Host.Outcome State Fault Refusal :=
  .next (s.live t (·.command tag (withArgs (readNoArg args)
    (fun _ s => (s, .ok, listBytes (s.order.finished.map OrderRecord.bytes))))))

/-! ### READ_REPORT (R188, R195) -/

/-- A report record: level, source, code, argument count, arguments. -/
def Report.bytes (r : Report) : Bytes :=
  [byteOf r.level.code, byteOf r.source.code, byteOf r.code, byteOf r.args.length]
    ++ r.args.flatMap (fun w => bytes4 w.toNat)

def handleReadReport (s : State) : Handled :=
  match s.console.reports with
  | [] => (s, .ok, 0#8 :: bytes2 0)
  | r :: rest =>
    ({ s with console := { s.console with reports := rest, lost := 0, attention := !rest.isEmpty } }, .ok,
      1#8 :: bytes2 s.console.lost ++ r.bytes)

/-- READ_REPORT (R188): the oldest report with the lost-report count, which becomes 0; the attention line follows the
queue (R189). -/
def execReadReport (t : Nat) (tag : BitVec 16) (args : Bytes) (s : State) : Host.Outcome State Fault Refusal :=
  .next (s.live t (·.command tag (withArgs (readNoArg args) (fun _ => handleReadReport))))

end Sys2Proof.Machine
end

