-- ==== Sys2Proof/Machine/Dispatch.lean ====
section
/-! DEFINITION. One arm per command: each is one direct call of its meaning. -/

namespace Sys2Proof.Machine

/-- The effect of a command on everything but the queue of commands waiting. -/
def exec (i : Instr) (s : State) : Host.Outcome State Fault Refusal :=
  match i with
  | .powerReset t => Sys2Proof.Machine.execPowerReset t s
  | .pinReset t => Sys2Proof.Machine.execPinReset t s
  | .resetRelease t straps => Sys2Proof.Machine.execResetRelease t straps s
  | .occupancyEnd t => Sys2Proof.Machine.execOccupancyEnd t s
  | .attemptStart t => Sys2Proof.Machine.execAttemptStart t s
  | .lostArbitration t => Sys2Proof.Machine.execLostArbitration t s
  | .transmitFault t => Sys2Proof.Machine.execTransmitFault t s
  | .receiveFault t cause => Sys2Proof.Machine.execReceiveFault t cause s
  | .helloTaken t sender payload => Sys2Proof.Machine.execHelloTaken t sender payload s
  | .byeTaken t sender payload => Sys2Proof.Machine.execByeTaken t sender payload s
  | .statusTaken t sender payload => Sys2Proof.Machine.execStatusTaken t sender payload s
  | .raiseTaken t sender payload => Sys2Proof.Machine.execRaiseTaken t sender payload s
  | .lowerTaken t sender payload => Sys2Proof.Machine.execLowerTaken t sender payload s
  | .claimTaken t sender payload => Sys2Proof.Machine.execClaimTaken t sender payload s
  | .releaseTaken t sender payload => Sys2Proof.Machine.execReleaseTaken t sender payload s
  | .tallyTaken t sender payload => Sys2Proof.Machine.execTallyTaken t sender payload s
  | .recallTaken t sender dest payload => Sys2Proof.Machine.execRecallTaken t sender dest payload s
  | .capacityTaken t sender dest payload => Sys2Proof.Machine.execCapacityTaken t sender dest payload s
  | .haltTaken t sender dest payload => Sys2Proof.Machine.execHaltTaken t sender dest payload s
  | .clearTaken t sender dest payload => Sys2Proof.Machine.execClearTaken t sender dest payload s
  | .resetTaken t sender dest straps => Sys2Proof.Machine.execResetTaken t sender dest straps s
  | .helloCompletes t acked => Sys2Proof.Machine.execHelloCompletes t acked s
  | .byeCompletes t acked => Sys2Proof.Machine.execByeCompletes t acked s
  | .statusCompletes t acked => Sys2Proof.Machine.execStatusCompletes t acked s
  | .raiseCompletes t acked => Sys2Proof.Machine.execRaiseCompletes t acked s
  | .lowerCompletes t acked => Sys2Proof.Machine.execLowerCompletes t acked s
  | .claimCompletes t acked => Sys2Proof.Machine.execClaimCompletes t acked s
  | .releaseCompletes t acked => Sys2Proof.Machine.execReleaseCompletes t acked s
  | .frameCompletes t acked => Sys2Proof.Machine.execFrameCompletes t acked s
  | .peerSilent peer => Sys2Proof.Machine.execPeerSilent peer s
  | .peerLost peer => Sys2Proof.Machine.execPeerLost peer s
  | .pendingRaiseExpiry peer => Sys2Proof.Machine.execPendingRaiseExpiry peer s
  | .selfSilent => Sys2Proof.Machine.execSelfSilent s
  | .raiseSettleDeadline => Sys2Proof.Machine.execRaiseSettleDeadline s
  | .drainStall => Sys2Proof.Machine.execDrainStall s
  | .releaseTimerExpiry => Sys2Proof.Machine.execReleaseTimerExpiry s
  | .haltRepeat => Sys2Proof.Machine.execHaltRepeat s
  | .capacityRepeat => Sys2Proof.Machine.execCapacityRepeat s
  | .governorUpdate => Sys2Proof.Machine.execGovernorUpdate s
  | .tallyTimerExpiry => Sys2Proof.Machine.execTallyTimerExpiry s
  | .claimSettleDeadline => Sys2Proof.Machine.execClaimSettleDeadline s
  | .travelTimeout => Sys2Proof.Machine.execTravelTimeout s
  | .exhaustionTimerExpiry => Sys2Proof.Machine.execExhaustionTimerExpiry s
  | .listenTimerExpiry => Sys2Proof.Machine.execListenTimerExpiry s
  | .statusTimerExpiry => Sys2Proof.Machine.execStatusTimerExpiry s
  | .machineSilent => Sys2Proof.Machine.execMachineSilent s
  | .choke => Sys2Proof.Machine.execChoke s
  | .chokeCleared => Sys2Proof.Machine.execChokeCleared s
  | .machineByteTimeout t => Sys2Proof.Machine.execMachineByteTimeout t s
  | .machineFrameError t cause => Sys2Proof.Machine.execMachineFrameError t cause s
  | .measure t payload => Sys2Proof.Machine.execMeasure t payload s
  | .machineFrameSent t => Sys2Proof.Machine.execMachineFrameSent t s
  | .consoleByteTimeout t => Sys2Proof.Machine.execConsoleByteTimeout t s
  | .consoleFrameError t cause => Sys2Proof.Machine.execConsoleFrameError t cause s
  | .responseSent t => Sys2Proof.Machine.execResponseSent t s
  | .unknown t tag code => Sys2Proof.Machine.execUnknown t tag code s
  | .configure t tag args => Sys2Proof.Machine.execConfigure t tag args s
  | .join t tag args => Sys2Proof.Machine.execJoin t tag args s
  | .leave t tag args => Sys2Proof.Machine.execLeave t tag args s
  | .planBegin t tag args => Sys2Proof.Machine.execPlanBegin t tag args s
  | .planHold t tag args => Sys2Proof.Machine.execPlanHold t tag args s
  | .planEnd t tag args => Sys2Proof.Machine.execPlanEnd t tag args s
  | .planDrop t tag args => Sys2Proof.Machine.execPlanDrop t tag args s
  | .order t tag args => Sys2Proof.Machine.execOrder t tag args s
  | .cancel t tag args => Sys2Proof.Machine.execCancel t tag args s
  | .halt t tag args => Sys2Proof.Machine.execHalt t tag args s
  | .clear t tag args => Sys2Proof.Machine.execClear t tag args s
  | .overrideClear t tag args => Sys2Proof.Machine.execOverrideClear t tag args s
  | .beltcap t tag args => Sys2Proof.Machine.execBeltcap t tag args s
  | .remoteReset t tag args => Sys2Proof.Machine.execRemoteReset t tag args s
  | .queryStation t tag args => Sys2Proof.Machine.execQueryStation t tag args s
  | .queryPeer t tag args => Sys2Proof.Machine.execQueryPeer t tag args s
  | .queryHold t tag args => Sys2Proof.Machine.execQueryHold t tag args s
  | .queryOrders t tag args => Sys2Proof.Machine.execQueryOrders t tag args s
  | .queryFinished t tag args => Sys2Proof.Machine.execQueryFinished t tag args s
  | .readReport t tag args => Sys2Proof.Machine.execReadReport t tag args s
  | .lineIdle t => Sys2Proof.Machine.execLineIdle t s

end Sys2Proof.Machine
end

