-- ==== Sys2Proof/Machine/Wire.lean ====
section
/-! DEFINITION. What stands on the three lines: the levels of the quay line, idle and the occupancies between (R1), the
bitwise contention of an attempt (R7, R18), the CRC (R2, R145, R178), the bit sequence of a quay frame with its
sync bits (R1, R2, R191), the bytes of machine-link, command and response frames (R193, R194), and how a receiver
judges what it reads, as the command that comes of it (R3, R145, R178, R180). The steps take whole frames; these
definitions say which bits and bytes each command stands for (log 27). -/

namespace Sys2Proof.Machine

/-! ### The CRC -/

/-- One bit into the 16-bit remainder of x^16 + x^12 + x^5 + 1 (R2). -/
def crcStep (crc : BitVec 16) (b : Bool) : BitVec 16 :=
  if crc.msb == b then crc <<< 1 else (crc <<< 1) ^^^ 0x1021#16

/-- The CRC of a run of bits, started at all ones, with no final inversion (R2). -/
def crcBits (bits : List Bool) : BitVec 16 := bits.foldl crcStep 0xFFFF#16

/-- The `w` low bits of a number, most significant first (R190). -/
def bitsOf : Nat → Nat → List Bool
  | 0, _ => []
  | w + 1, n => n.testBit w :: bitsOf w n

/-- The number a run of bits spells, most significant first (R190). -/
def numberOf (bits : List Bool) : Nat := bits.foldl (fun n b => 2 * n + flagBit b 1) 0

/-- The bits of bytes in order, each most significant bit first (R190). -/
def byteBits (bytes : Bytes) : List Bool := bytes.flatMap (fun b => bitsOf 8 b.toNat)

/-- The CRC of bytes (R145, R178). -/
def crcBytes (bytes : Bytes) : BitVec 16 := crcBits (byteBits bytes)

/-! ### The levels of the quay line (R1) -/

/-- The level every station reads in a bit time, dominant as true, of what each station drives: dominant where any does,
recessive where none does (R1). -/
def lineLevel (driven : List Bool) : Bool := driven.any id

/-- For how many bit times the line has been recessive, after one more. -/
def recessiveRun (run : Nat) (level : Bool) : Nat := if level then 0 else run + 1

/-- What a receiver sees of the line, bit time by bit time (R1, R3). -/
inductive LineView where
  /-- after a reset, not yet synchronised: how long the line has been recessive -/
  | unsynced (run : Nat)
  /-- the line is idle -/
  | idle
  /-- an occupancy: how long the line has been recessive, and the bits read after its start bit -/
  | occupied (run : Nat) (bits : List Bool)
  deriving DecidableEq, Repr

/-- What a bit time brings a receiver to know (R1, R3). -/
inductive LineEvent where
  /-- the line is first seen idle after a reset -/
  | synced
  /-- the line is idle again, after an occupancy of these bits, those after its start bit -/
  | ended (bits : List Bool)
  deriving DecidableEq, Repr

/-- One bit time: a line recessive for 12 consecutive bit times is idle, and stays so until a dominant bit, the start bit
of the next occupancy (R1). -/
def LineView.read (level : Bool) : LineView → LineView × Option LineEvent
  | .unsynced run =>
    if Config.idleBits ≤ recessiveRun run level then (.idle, some .synced)
    else (.unsynced (recessiveRun run level), none)
  | .idle => if level then (.occupied 0 [], none) else (.idle, none)
  | .occupied run bits =>
    if Config.idleBits ≤ recessiveRun run level then (.idle, some (.ended (bits ++ [level])))
    else (.occupied (recessiveRun run level) (bits ++ [level]), none)

/-- What a stretch of line brings a receiver to know, in order. -/
def LineView.events : LineView → List Bool → List LineEvent
  | _, [] => []
  | v, level :: rest => (v.read level).2.toList ++ LineView.events (v.read level).1 rest

/-! ### The quay link (R2, R191) -/

/-- What a quay frame carries: arbitration word, kind code, destination code, payload. -/
structure QuayFrame where
  word : Nat
  kind : Nat
  dest : Nat
  payload : Bytes
  deriving DecidableEq, Repr

/-- The bits the CRC covers: kind, destination, length, payload (R2). -/
def QuayFrame.covered (f : QuayFrame) : List Bool :=
  bitsOf 4 f.kind ++ bitsOf 5 f.dest ++ bitsOf 7 f.payload.length ++ byteBits f.payload

/-- From the first bit of the arbitration word to the last bit of the CRC, sync bits apart (R2). -/
def QuayFrame.body (f : QuayFrame) : List Bool :=
  bitsOf 9 f.word ++ f.covered ++ bitsOf 16 (crcBits f.covered).toNat

/-- One dominant sync bit after every 8 bits (R2); `k` bits have been sent since the last. -/
def insertSync : Nat → List Bool → List Bool
  | _, [] => []
  | k, b :: rest => if k = 7 then b :: true :: insertSync 0 rest else b :: insertSync (k + 1) rest

/-- The bits on the line from the start bit to the end delimiter, dominant as true; `slot` is the level of the
acknowledge slot (R1, R2, R11). -/
def QuayFrame.lineBits (slot : Bool) (f : QuayFrame) : List Bool :=
  true :: insertSync 0 f.body ++ [slot] ++ List.replicate 8 false

/-- An own frame as a quay frame (R4, R6, R192). -/
def Content.frame (belt : Belt) (word : BitVec 9) (c : Content) : QuayFrame :=
  ⟨word.toNat, c.kind.code, c.dest belt, c.payload⟩

/-! ### The own attempt, bit by bit (R7, R18) -/

/-- How the arbitration word ends for a station that sends it. -/
inductive Contention where
  | won
  | lost
  | fault
  deriving DecidableEq, Repr

/-- The word bit by bit, each bit as driven and as read: recessive driven and dominant read has lost; dominant driven and
recessive read is a transmit fault; through to the end has won (R7). -/
def contend : List (Bool × Bool) → Contention
  | [] => .won
  | (own, seen) :: rest => if own = seen then contend rest else if own then .fault else .lost

/-- The stations still contending after bit `i` of the word: those that drove what every station reads (R1, R7). -/
def survivors (i : Nat) (words : List Nat) : List Nat :=
  words.filter (fun w => w.testBit i == lineLevel (words.map (fun v => v.testBit i)))

/-- The level every station reads in each of the `n` low bits of the word, most significant first: at each bit that of the
stations still contending (R1, R7). -/
def lineLevels : Nat → List Nat → List Bool
  | 0, _ => []
  | n + 1, words => lineLevel (words.map (fun w => w.testBit n)) :: lineLevels n (survivors n words)

/-- The command an own frame that completes is (R12, R17). -/
def Content.completion (t : Nat) (acked : Bool) (c : Content) : Instr :=
  match c.kind with
  | .hello => .helloCompletes t acked
  | .bye => .byeCompletes t acked
  | .status => .statusCompletes t acked
  | .raise => .raiseCompletes t acked
  | .lower => .lowerCompletes t acked
  | .claim => .claimCompletes t acked
  | .release => .releaseCompletes t acked
  | .tally => .frameCompletes t acked
  | .recall => .frameCompletes t acked
  | .capacity => .frameCompletes t acked
  | .halt => .frameCompletes t acked
  | .clear => .frameCompletes t acked
  | .reset => .frameCompletes t acked

/-- The command an attempt of this station ends in: `bits` are what it drove and read from the first bit of the word to
the last bit of the CRC, sync bits included (the word and its one sync bit are the first ten), `slot` the level it
read in the acknowledge slot. After the word is won a bit read other than it was driven is a transmit fault (R7, R11,
R18). -/
def attemptCommand (t : Nat) (c : Content) (bits : List (Bool × Bool)) (slot : Bool) : Instr :=
  match contend (bits.take 10) with
  | .lost => .lostArbitration t
  | .fault => .transmitFault t
  | .won => if (bits.drop 10).all (fun b => b.1 == b.2) then c.completion t slot else .transmitFault t

/-! ### The receiver of the quay link (R3) -/

/-- Reading `n` bits: the bits read, how many stand since the last sync bit, and what is left; a recessive sync bit
stops the reading, and the line idle cuts it short (R3). -/
def readBits : Nat → Nat → List Bool → Except RxFault (List Bool × Nat × List Bool)
  | 0, k, line => .ok ([], k, line)
  | _ + 1, _, [] => .error .cutShort
  | n + 1, k, b :: rest =>
    if k = 8 then
      if b then
        match rest with
        | [] => .error .cutShort
        | c :: rest' =>
          match readBits n 1 rest' with
          | .ok (bs, k', l) => .ok (c :: bs, k', l)
          | .error e => .error e
      else .error .sync
    else
      match readBits n (k + 1) rest with
      | .ok (bs, k', l) => .ok (b :: bs, k', l)
      | .error e => .error e

/-- The payload lengths permitted for a kind (R4, R191). -/
def Kind.permitsLength (k : Kind) (n : Nat) : Bool :=
  match k with
  | .hello => n == 8
  | .bye => n == 1
  | .status => n == 28
  | .raise => n == 4
  | .lower => n == 2
  | .claim => n == 6
  | .release => n == 2
  | .tally => decide (9 ≤ n) && decide (n ≤ 64) && n % 5 == 4
  | .recall => decide (9 ≤ n) && decide (n ≤ 64) && n % 5 == 4
  | .capacity => n == 2
  | .halt => n == 1
  | .clear => n == 1
  | .reset => n == 0

/-- The bytes a run of bits spells, eight bits each. -/
def bytesOfBits : Nat → List Bool → Bytes
  | 0, _ => []
  | n + 1, bits => byteOf (numberOf (bits.take 8)) :: bytesOfBits n (bits.drop 8)

/-- The last part of a frame, from its length field: the payload and the CRC, then the acknowledge slot before the line
is idle (R3). -/
def judgeTail (k : Kind) (kindDest : List Bool) (pos : Nat) (line : List Bool) : Except RxFault Bytes :=
  match readBits 7 pos line with
  | .error e => .error e
  | .ok (len, p1, l1) =>
    if k.permitsLength (numberOf len) then
      match readBits (8 * numberOf len) p1 l1 with
      | .error e => .error e
      | .ok (pay, p2, l2) =>
        match readBits 16 p2 l2 with
        | .error e => .error e
        | .ok (crc, _, l3) =>
          if numberOf crc = (crcBits (kindDest ++ len ++ pay)).toNat then
            if l3 = [] then .error .cutShort else .ok (bytesOfBits (numberOf len) pay)
          else .error .crc
    else .error .length

/-- A frame that passed every test: sender, kind, destination code, payload. -/
structure GoodFrame where
  sender : Nat
  kind : Kind
  dest : Nat
  payload : Bytes
  deriving DecidableEq, Repr

/-- A receiver judges an occupancy: the bits after the start bit until the line is idle (R1, R3). A destination not permitted
is read on to the acknowledge slot, and is the fault whatever follows; it is acknowledged where the CRC check
succeeded (R11). -/
def judgeQuay (line : List Bool) : Except RxFault GoodFrame :=
  match readBits 9 0 line with
  | .error e => .error e
  | .ok (word, p1, l1) =>
    match readBits 4 p1 l1 with
    | .error e => .error e
    | .ok (kind, p2, l2) =>
      match Kind.ofCode (numberOf kind) with
      | none => .error .kind
      | some k =>
        if k.urgent = decide (256 ≤ numberOf word) then
          match readBits 5 p2 l2 with
          | .error e => .error e
          | .ok (dest, p3, l3) =>
            match judgeTail k (kind ++ dest) p3 l3 with
            | .ok pay =>
              if k.permits (numberOf dest) then .ok ⟨numberOf word % 16, k, numberOf dest, pay⟩
              else .error (.destination true)
            | .error e => if k.permits (numberOf dest) then .error e else .error (.destination false)
        else .error .urgency

/-- The command a good frame is (R5): `straps` are the levels a RESET that is taken reads. -/
def GoodFrame.command (t : Nat) (straps : Straps) (f : GoodFrame) : Instr :=
  let j : StationNo := Fin.ofNat 16 f.sender
  let d : BitVec 5 := BitVec.ofNat 5 f.dest
  match f.kind with
  | .hello => .helloTaken t j f.payload
  | .bye => .byeTaken t j f.payload
  | .status => .statusTaken t j f.payload
  | .raise => .raiseTaken t j f.payload
  | .lower => .lowerTaken t j f.payload
  | .claim => .claimTaken t j f.payload
  | .release => .releaseTaken t j f.payload
  | .tally => .tallyTaken t j f.payload
  | .recall => .recallTaken t j d f.payload
  | .capacity => .capacityTaken t j d f.payload
  | .halt => .haltTaken t j d f.payload
  | .clear => .clearTaken t j d f.payload
  | .reset => .resetTaken t j d straps

/-- The command an occupancy of another station is: the frame taken, or one receive fault (R3). -/
def quayCommand (t : Nat) (straps : Straps) (line : List Bool) : Instr :=
  match judgeQuay line with
  | .ok f => f.command t straps
  | .error e => .receiveFault t e

/-- The commands a line event is for a station that sends nothing: LINE_IDLE at the first idle after a reset, and for an
occupancy the frame taken or the receive fault, and then its end (R3, R8). -/
def LineEvent.commands (t : Nat) (straps : Straps) : LineEvent → List Instr
  | .synced => [.lineIdle t]
  | .ended bits => [quayCommand t straps bits, .occupancyEnd t]

/-! ### The machine link (R145, R193) -/

/-- Two CRC bytes. -/
def crcTail (bytes : Bytes) : Bytes := bytes2 (crcBytes bytes).toNat

/-- The kind byte of a frame for the machine. -/
def MachineFrame.kindByte : MachineFrame → Byte
  | .setpoint _ => 0x11#8
  | .move _ _ _ => 0x12#8

/-- The bytes of a frame of the machine link from its start byte (R193). -/
def machineBytes (kind : Byte) (payload : Bytes) : Bytes :=
  0xA5#8 :: (kind :: byteOf payload.length :: payload) ++ crcTail (kind :: byteOf payload.length :: payload)

def MachineFrame.bytes (f : MachineFrame) : Bytes := machineBytes f.kindByte f.payload

/-- The interface judges the bytes after a start byte (R145): what command they are, where they hold a whole frame. -/
def judgeMachine (t : Nat) : Bytes → Option Instr
  | kind :: len :: rest =>
    if kind = 0x01#8 then
      if len = 18#8 then
        if rest.length < 20 then none
        else if (rest.drop 18).take 2 = crcTail (kind :: len :: rest.take 18) then some (.measure t (rest.take 18))
        else some (.machineFrameError t .crc)
      else some (.machineFrameError t .length)
    else if rest.length < len.toNat + 2 then none
    else some (.machineFrameError t .kind)
  | _ => none

/-! ### The console line (R178, R180, R194) -/

/-- The bytes of a command frame from its start byte (R194). -/
def commandBytes (code : Byte) (tag : BitVec 16) (args : Bytes) : Bytes :=
  let body : Bytes := byteOf (args.length + 3) :: code :: bytes2 tag.toNat ++ args
  0x5A#8 :: body ++ crcTail body

/-- The bytes of a response frame from its start byte (R194). -/
def Response.bytes (r : Response) : Bytes :=
  let body : Bytes := bytes2 (r.data.length + 3) ++ bytes2 r.tag.toNat ++ byteOf r.result.code :: r.data
  0x5B#8 :: body ++ crcTail body

/-- The command a code names (R194); UNKNOWN for any other (R180). -/
def commandOf (t : Nat) (code : Byte) (tag : BitVec 16) (args : Bytes) : Instr :=
  match code.toNat with
  | 1 => .configure t tag args
  | 2 => .join t tag args
  | 3 => .leave t tag args
  | 4 => .planBegin t tag args
  | 5 => .planHold t tag args
  | 6 => .planEnd t tag args
  | 7 => .planDrop t tag args
  | 8 => .order t tag args
  | 9 => .cancel t tag args
  | 10 => .halt t tag args
  | 11 => .clear t tag args
  | 12 => .overrideClear t tag args
  | 13 => .beltcap t tag args
  | 14 => .remoteReset t tag args
  | 15 => .queryStation t tag args
  | 16 => .queryPeer t tag args
  | 17 => .queryHold t tag args
  | 18 => .queryOrders t tag args
  | 19 => .queryFinished t tag args
  | 20 => .readReport t tag args
  | _ => .unknown t tag code

/-- The console interface judges the bytes after a start byte (R178, R194): what command they are, where they hold a
whole frame. -/
def judgeConsole (t : Nat) : Bytes → Option Instr
  | len :: rest =>
    if 16 < len.toNat ∨ len.toNat < 3 then some (.consoleFrameError t .length)
    else if rest.length < len.toNat + 2 then none
    else
      let body := rest.take len.toNat
      if (rest.drop len.toNat).take 2 = crcTail (len :: body) then
        match body with
        | code :: t1 :: t0 :: args => some (commandOf t code (BitVec.ofNat 16 (read2 t1 t0)) args)
        | _ => none
      else some (.consoleFrameError t .crc)
  | _ => none

end Sys2Proof.Machine
end

