-- ==== Sys2Proof/Safety.lean ====
section
/-! DEFINITION. What a safe state of the block is, in the terms claims use: invariants that the rules state of one
station, each a property of State alone. -/

namespace Sys2Proof.Machine

/-! ### Console (R179, R187, R188, R189) -/

/-- At most 16 reports, at most 4 responses waiting and none waiting while none is sent, counts held at 65 535, reports
counted lost only while the queue is not empty, and the attention line asserted exactly while it holds a report. -/
abbrev Console.ok (c : Console) : Prop :=
  c.reports.length ≤ 16 ∧ c.lost ≤ Config.countMax ∧ c.errors ≤ Config.countMax ∧ c.waiting.length ≤ 4
    ∧ (c.sending = none → c.waiting = []) ∧ (c.reports = [] → c.lost = 0) ∧ c.attention = !c.reports.isEmpty

/-! ### Hold accounts (R97, R153) -/

/-- The accepted mass equals the sum over all holds of the attributed mass, plus the unattributed mass. -/
abbrev State.massesBalance (s : State) : Prop :=
  s.machine.accepted = s.plan.attributed.toList.sum + s.plan.unattributed

/-! ### Quay link (R13, R14, R15, R17, R19) -/

/-- A kind of the normal transmit set that stands there at most once (R14). -/
def Kind.single (k : Kind) : Bool := !k.urgent && !k.listed

/-- The single kinds queued in the normal transmit set, in order. -/
def Link.singles (l : Link) : List Kind := (l.normal.map (fun c => c.kind)).filter Kind.single

/-- The urgent queue holds urgent kinds, at most 2; the normal set holds none, at most 4 TALLY and RECALL, each single
kind at most once and none of the kind on the line; content is held only behind its own single kind. -/
abbrev Link.ok (l : Link) : Prop :=
  (∀ c ∈ l.urgent, c.kind.urgent = true) ∧ (∀ c ∈ l.normal, c.kind.urgent = false)
    ∧ l.urgentCount ≤ 2 ∧ l.listCount ≤ 4 ∧ l.singles.Nodup
    ∧ (∀ k ∈ l.lineKind, k ∉ l.singles)
    ∧ (∀ c ∈ l.held, c.kind.single = true ∧ l.lineKind = some c.kind)

/-- A station that does not transmit has nothing queued and nothing on the line (R17); one that transmits has a
transmit-fault count below 160 (R19). -/
abbrev State.lineOk (s : State) : Prop :=
  s.link.ok
    ∧ (s.transmits = false → s.link.urgent = [] ∧ s.link.normal = [] ∧ s.link.held = none ∧ s.link.onLine = none)
    ∧ (s.transmits = true → s.link.txFaults < 160)

/-! ### Feed (R70, R82, R129) -/

/-- The held reasons of a DISCHARGING order are the conditions as they stand, HOLD_LIMIT apart (R129). -/
abbrev State.heldOk (s : State) : Prop :=
  ∀ o ∈ s.discharging, o.held = { s.heldNow with limit := o.held.limit }

/-- A feed setpoint above 0 is sent only by an unloader that is ACTIVE, DEGRADED or LEAVING, with an empty halt set,
SELF_SILENT and MACHINE_SILENT clear, no choke in force, and the active order DISCHARGING-RUNNING (R82). -/
abbrev State.feedOk (s : State) : Prop :=
  0 < s.gov.feed → s.isUnloader = true ∧ s.onQuay = true ∧ s.halted = false ∧ s.table.selfSilent = false
    ∧ s.machine.silent = false ∧ s.machine.choke = false ∧ s.running = true

/-- The invariant behind R82: with it, the held reasons follow their conditions, and the update timer of an intake never
runs (R70). -/
abbrev State.feedSafe (s : State) : Prop :=
  s.feedOk ∧ (s.isUnloader = true → s.heldOk) ∧ (s.isIntake = true → s.gov.timer = none)

/-! ### Grants (R16, R42, R48 to R54, R57) -/

/-- The new grant a LOWER carries. -/
def Content.newGrant : Content → Option Nat
  | .lower g => some g
  | _ => none

/-- The new grants of the own LOWER frames on the line, held behind it, and queued. -/
def Link.lowers (l : Link) : List Nat :=
  ((l.onLine.map (fun a => a.content)).toList ++ l.held.toList ++ l.normal).filterMap Content.newGrant

/-- What the grant falls to when the lowering in progress is through, and the grant itself where there is none. -/
def Share.floor (u : Share) : Nat :=
  match u.lowering with
  | some l => l.target
  | none => u.grant

/-- The own raise is on its way to a new grant: QUEUED, SENDING and not abandoned, or SETTLING. -/
def Raise.alive : Raise → Bool
  | .queued _ => true
  | .sending _ Option.none => true
  | .settling _ _ => true
  | _ => false

/-- The own raise's RAISE is past withdrawal: SENDING and not abandoned, or SETTLING. -/
def Raise.announcing : Raise → Bool
  | .sending _ Option.none => true
  | .settling _ _ => true
  | _ => false

/-- The own raise is QUEUED. -/
def Raise.isQueued : Raise → Bool
  | .queued _ => true
  | _ => false

/-- The own raise is SENDING, and abandoned exactly where its frame is `withdrawn`. -/
def Raise.isSending (withdrawn : Bool) : Raise → Bool
  | .sending _ b => withdrawn == b.isSome
  | _ => false

/-- Every LOWER carries a grant from the lowering's target to the own grant, and one held no more than the one on the
line; a raise that is SENDING or SETTLING has no LOWER beside it, one alive neither a lowering nor a yield owed; a RAISE
stands queued or on the line as its phase says, is never held, and in the normal set no LOWER follows it. It is the
invariant behind R42: no LOWER raises the grant. -/
abbrev State.lowersOk (s : State) : Prop :=
  s.share.floor ≤ s.share.grant
    ∧ (∀ n ∈ s.link.lowers, s.share.floor ≤ n ∧ n ≤ s.share.grant)
    ∧ (∀ a ∈ s.link.onLine, ∀ n ∈ a.content.newGrant, ∀ c ∈ s.link.held, ∀ m ∈ c.newGrant, m ≤ n)
    ∧ (s.share.raise.alive = true → s.share.lowering = none ∧ s.share.yieldOwed = false)
    ∧ (s.share.yieldOwed = true → s.share.raise = .none)
    ∧ (∀ c ∈ s.link.held, c.kind = .lower →
      (s.share.yieldOwed = true ∨ s.share.lowering.isSome = true) ∧ ∀ d ∈ s.link.normal, d.kind ≠ .raise)
    ∧ (∀ c ∈ s.link.held, c.kind ≠ .raise)
    ∧ (s.share.raise.announcing = true → s.link.lowers = [])
    ∧ (∀ a ∈ s.link.onLine, a.content.kind = .raise → s.share.raise.isSending a.withdrawn = true)
    ∧ (∀ c ∈ s.link.normal, c.kind = .raise → s.share.raise.isQueued = true)
    ∧ s.link.normal.Pairwise (fun c d => ¬ (c.kind = .raise ∧ d.kind = .lower))

/-! ### Orders (R122, R125, R136, R139) -/

/-- The tags held by the active order, the incoming order, the stack and the waiting queue. -/
def OrderUnit.tags (u : OrderUnit) : List Nat :=
  (u.active.toList ++ u.incoming.toList ++ u.stack ++ u.queue).map (fun o => o.tag)

/-- The active order is SUSPENDING. -/
def OrderUnit.suspending (u : OrderUnit) : Bool :=
  match u.active with
  | some o => o.state == .suspending
  | none => false

/-- With no active order every place is empty (R136); an incoming order stands only beside a SUSPENDING one; the stack
holds at most 4, and leaves room for a SUSPENDING order; the queue and the finished list hold at most 8; no tag stands
twice. -/
abbrev OrderUnit.ok (u : OrderUnit) : Prop :=
  (u.active = none → u.incoming = none ∧ u.stack = [] ∧ u.queue = [])
    ∧ (u.incoming.isSome = true → u.suspending = true)
    ∧ u.stack.length ≤ 4 ∧ (u.suspending = true → u.stack.length ≤ 3)
    ∧ u.queue.length ≤ 8 ∧ u.finished.length ≤ 8 ∧ u.tags.Nodup

/-! ### Machine interface (R144, R151, R155, R160) -/

/-- At most 4 carry records, each with a mass above 0 (R155); at most 3 choke times; at most one SETPOINT and one MOVE
wait, and none while no frame is being sent (R151); counts held at 65 535. -/
abbrev MachineIf.ok (m : MachineIf) : Prop :=
  m.carry.length ≤ 4 ∧ (∀ r ∈ m.carry, 0 < r.2) ∧ m.history.length ≤ 3
    ∧ m.waiting.Pairwise (fun a b => a.sameKind b = false) ∧ (m.sending = none → m.waiting = [])
    ∧ m.missed ≤ Config.countMax ∧ m.errors ≤ Config.countMax

/-! ### What one command can change -/

/-- The state with every field blanked that a signal of the share unit, the claim unit or the order unit to another block
may write: the raise, the yield, the lowering, the release timer, S and C; the claim; the orders; the leave waits; F and
F_t; the machine output, the choke entry timer and the choke history; the normal transmit set; the reports. Two states
with one mask agree on everything else. -/
def State.mask (s : State) : State :=
  { s with
    station := { s.station with leaveDrain := false, leaveRelease := false }
    link := { s.link with
      normal := [], held := none, onLine := s.link.onLine.map (fun a => { a with withdrawn := false }) }
    share := { s.share with
      raise := .none, yieldOwed := false, lowering := none, releaseTimer := none, resv := 0, capacity := 0 }
    gov := { s.gov with feed := 0, target := 0, bindTarget := .allowed }
    claim := ClaimUnit.afterReset
    order := OrderUnit.afterReset
    machine := { s.machine with sending := none, waiting := [], chokeEntry := none, history := [] }
    console := { s.console with reports := [], lost := 0, attention := false } }

/-- What the link controller does with a good frame of a peer (R11, R21): the acknowledge slot, the receive-fault count,
RX_POOR, and what the occupancy held. -/
def State.heard (t : Nat) (k : Kind) (s : State) : State :=
  { s with
    now := max s.now t
    link := { s.link with
      ackDriven := s.transmits
      occupancy := if k = .hello then .hello else .taken
      rxFaults := s.link.rxFaults - 1
      rxPoor := s.link.rxPoor && decide (64 ≤ s.link.rxFaults - 1) } }

/-! ### The own raise and lowering between two states -/

/-- A lower request with target 0 has started a lowering between `s` and `s'` (R52, R53, R55, R57): the raise is at an end or
abandoned, no yield is owed, the release timer is stopped; the LOWER with grant 0 stands in the transmit set where the
feed is at most 10 t/h, and the drain deadline is 15 s ahead where it is not. -/
abbrev State.startsLoweringToZero (s s' : State) : Prop :=
  let drained := ∃ f, s.share.feed = some f ∧ f ≤ 10
  s'.share.raise.alive = false ∧ s'.share.yieldOwed = false ∧ s'.share.releaseTimer = none
    ∧ ∃ x, s'.share.lowering = some ⟨0, x, false, false, false⟩
      ∧ (s.transmits = false → x = none)
      ∧ (s.transmits = true → drained → x = none ∧ s'.link.lowerPending 0 = true)
      ∧ (s.transmits = true → ¬ drained → s.link.lowerPending 0 = false →
        x = some (s'.now + 15000) ∧ s'.link.lowerPending 0 = false)

/-- The own raise after a halt has reached it (R48, R50): one SENDING is abandoned and waits for its attempt, any other is at
an end. One abandoned before keeps the cause that reached it first, the model's choice (log 39). -/
def Raise.underHalt : Raise → Raise
  | .sending t b => .sending t (some (b.getD .halt))
  | _ => .none

/-- The own raise is SETTLING. -/
def Raise.isSettling : Raise → Bool
  | .settling _ _ => true
  | _ => false

/-- In the unloader role the halt set has become non-empty between `s` and `s'` (R61): the raise is withdrawn or abandoned
with the cause halt (R16, R48, R50), and a lower request with target 0 is made (R52): it starts a lowering, takes the one in
progress to 0 with its waiting requesters kept, or, at a grant of 0, changes nothing more. A yield owed beside a lowering in
progress stays owed (log 16). -/
abbrev State.haltEndsRaiseAndLowers (s s' : State) : Prop :=
  let owed := s.share.yieldOwed || (s.share.raise.isSettling && s.transmits)
  s'.share.raise = s.share.raise.underHalt
    ∧ (∀ t, s.share.raise = .queued t → ∀ c ∈ s'.link.normal, c.kind ≠ .raise)
    ∧ (∀ t a, s.share.raise = .sending t none → s.link.onLine = some a → a.content.kind = .raise →
      s'.link.onLine = some { a with withdrawn := true })
    ∧ (∀ t d, s.share.raise = .settling t d → 3 ≤ s.station.reportLevel → s.console.reports.length ≤ 10 →
      ⟨.info, .share, 12, [BitVec.ofNat 32 t, 2#32]⟩ ∈ s'.console.reports)
    ∧ (s.share.lowering = none → 0 < s.share.grant → s.startsLoweringToZero s')
    ∧ (s.share.lowering = none → s.share.grant = 0 → s'.share.lowering = none ∧ s'.share.yieldOwed = owed
      ∧ s'.share.releaseTimer = s.share.releaseTimer)
    ∧ (∀ l, s.share.lowering = some l → s'.share.yieldOwed = owed ∧ s'.share.releaseTimer = s.share.releaseTimer
      ∧ (l.target = 0 → s'.share.lowering = some l)
      ∧ (0 < l.target → (∃ x, s'.share.lowering = some { l with target := 0, deadline := x })
        ∧ (s.transmits = true → (∃ f, s.share.feed = some f ∧ f ≤ 10) → s'.link.lowerPending 0 = true)))

/-- What a change of S or C between `s` and `s'` does to the own raise (R43, R48, R50), where it is no governor update and no
halt: a SETTLING one is abandoned with the cause conflict exactly where C - S - T is below 0, a yield then owed where its
LOWER can be sent; a QUEUED one ends, its RAISE withdrawn, where a condition of R48 holds, and has target G + I otherwise;
without a change of S or C, and in the other phases, the raise stays. An own claim that yields at the change makes a lower
request (R116), so that no raise lives on beside it. -/
abbrev State.raiseFollowsView (s s' : State) : Prop :=
  let moved := s'.share.resv ≠ s.share.resv ∨ s'.share.capacity ≠ s.share.capacity
  let yields := s.claim.phase ≠ .releasing ∧ s'.claim.phase = .releasing
  let i : Int := min (min ((s.gov.allowed : Int) - s.share.grant) 200)
    ((s'.share.capacity : Int) - s'.share.resv - s.share.grant)
  let stands := s.halted = false ∧ s.share.lowering = none ∧ s.station.state = .active ∧ s'.link.rxPoor = false ∧ 10 ≤ i
  (yields → s'.share.raise.alive = false)
    ∧ (¬ yields → ¬ moved ∨ s.share.raise = .none ∨ (∃ b, s.share.raise.isSending b = true) →
      s'.share.raise = s.share.raise ∧ s'.share.yieldOwed = s.share.yieldOwed)
    ∧ (¬ yields → moved → ∀ t d, s.share.raise = .settling t d →
      (s'.share.resv + t ≤ s'.share.capacity →
          s'.share.raise = .settling t d ∧ s'.share.yieldOwed = s.share.yieldOwed)
        ∧ (s'.share.capacity < s'.share.resv + t → s'.share.raise = .none
          ∧ s'.share.yieldOwed = (s.share.yieldOwed || s.transmits)
          ∧ (3 ≤ s.station.reportLevel → s.console.reports.length ≤ 10 →
            ⟨.info, .share, 12, [BitVec.ofNat 32 t, 1#32]⟩ ∈ s'.console.reports)
          ∧ (s.transmits = true → s.share.lowering = none →
            (∃ f, s.share.feed = some f ∧ f ≤ s.share.grant + 10) → s'.link.lowerPending s.share.grant = true)))
    ∧ (¬ yields → moved → ∀ old, s.share.raise = .queued old →
      (stands → ∃ target : Nat, (target : Int) = s.share.grant + i ∧ s'.share.raise = .queued target
          ∧ (target ≠ old → .raise target s.share.grant ∈ s'.link.normal
            ∨ s'.link.held = some (.raise target s.share.grant)))
        ∧ (¬ stands → s'.share.raise = .none ∧ ∀ c ∈ s'.link.normal, c.kind ≠ .raise))

/-- S and C are what the station table, the configuration record and the intake capacity list give (R43, R44). -/
abbrev State.viewCurrent (s : State) : Prop :=
  s.share.resv = s.sumReserved ∧ s.share.capacity = s.effectiveCapacity

/-- An entry that is neither PRESENT nor SILENT holds no grant, no pending raise and no slot claim (R24, R28). -/
abbrev State.unheardHoldNothing (s : State) : Prop :=
  ∀ j : StationNo, (s.entry j).heard = false →
    (s.entry j).grant = 0 ∧ (s.entry j).raise = none ∧ (s.entry j).claim = none

end Sys2Proof.Machine

namespace Sys2Proof

open Machine

/-- The time, the sender and the kind of a frame taken from the quay line. -/
def Instr.frameTaken : Instr → Option (Nat × StationNo × Kind)
  | .helloTaken t j _ => some (t, j, .hello)
  | .byeTaken t j _ => some (t, j, .bye)
  | .statusTaken t j _ => some (t, j, .status)
  | .raiseTaken t j _ => some (t, j, .raise)
  | .lowerTaken t j _ => some (t, j, .lower)
  | .claimTaken t j _ => some (t, j, .claim)
  | .releaseTaken t j _ => some (t, j, .release)
  | .tallyTaken t j _ => some (t, j, .tally)
  | .recallTaken t j _ _ => some (t, j, .recall)
  | .capacityTaken t j _ _ => some (t, j, .capacity)
  | .haltTaken t j _ _ => some (t, j, .halt)
  | .clearTaken t j _ _ => some (t, j, .clear)
  | .resetTaken t j _ _ => some (t, j, .reset)
  | _ => none

/-- The time, whether it was acknowledged, and the kinds of an own frame that completes. -/
def Instr.frameDone : Instr → Option (Nat × Bool × List Kind)
  | .helloCompletes t a => some (t, a, [.hello])
  | .byeCompletes t a => some (t, a, [.bye])
  | .statusCompletes t a => some (t, a, [.status])
  | .raiseCompletes t a => some (t, a, [.raise])
  | .lowerCompletes t a => some (t, a, [.lower])
  | .claimCompletes t a => some (t, a, [.claim])
  | .releaseCompletes t a => some (t, a, [.release])
  | .frameCompletes t a => some (t, a, [.tally, .recall, .capacity, .halt, .clear, .reset])
  | _ => none

/-- The time, the tag, the argument bytes and the argument length of R194 of each of the twenty console commands. -/
def Instr.consoleCommand : Instr → Option (Nat × BitVec 16 × Bytes × Nat)
  | .configure t tag a => some (t, tag, a, 12)
  | .join t tag a => some (t, tag, a, 0)
  | .leave t tag a => some (t, tag, a, 0)
  | .planBegin t tag a => some (t, tag, a, 13)
  | .planHold t tag a => some (t, tag, a, 12)
  | .planEnd t tag a => some (t, tag, a, 0)
  | .planDrop t tag a => some (t, tag, a, 0)
  | .order t tag a => some (t, tag, a, 11)
  | .cancel t tag a => some (t, tag, a, 2)
  | .halt t tag a => some (t, tag, a, 2)
  | .clear t tag a => some (t, tag, a, 1)
  | .overrideClear t tag a => some (t, tag, a, 0)
  | .beltcap t tag a => some (t, tag, a, 2)
  | .remoteReset t tag a => some (t, tag, a, 1)
  | .queryStation t tag a => some (t, tag, a, 0)
  | .queryPeer t tag a => some (t, tag, a, 1)
  | .queryHold t tag a => some (t, tag, a, 1)
  | .queryOrders t tag a => some (t, tag, a, 0)
  | .queryFinished t tag a => some (t, tag, a, 0)
  | .readReport t tag a => some (t, tag, a, 0)
  | _ => none

/-- The commands that clear the device: the three resets, and a RESET taken (R165, R167). -/
def Instr.resets : Instr → Bool
  | .powerReset _ => true
  | .pinReset _ => true
  | .resetRelease _ _ => true
  | .resetTaken _ _ _ _ => true
  | _ => false

end Sys2Proof
end

