-- ==== Sys2Proof/WellFormed.lean ====
section
/-! DEFINITION. Which commands are well formed: the payload of a frame taken has a length permitted for its kind
and its destination is one permitted for it (R3, R4, R191), a MEASURE has 18 payload bytes (R193), the UNKNOWN
row's code is not one of the twenty commands (R180), and a command frame's arguments are at most 13 bytes (R194:
the largest length byte is 16, of which 3 count code and tag). An ill-formed command has no good frame behind it:
the machine treats such a frame as the failed test it would be on the line (R3, R145; log 12). -/

namespace Sys2Proof

/-- TALLY and RECALL payloads: 4 + 5 n bytes, n from 1 to 12 (R4). -/
def tallyLength (n : Nat) : Bool :=
  decide (9 ≤ n) && decide (n ≤ 64) && decide ((n - 4) % 5 = 0)

/-- A destination code naming one station (R4). -/
def destStation (d : BitVec 5) : Bool := decide (d.toNat ≤ 15)

/-- A destination code permitted for CAPACITY (R4). -/
def destBelt (d : BitVec 5) : Bool := d == 16#5 || d == 17#5

/-- A destination code permitted for HALT and CLEAR (R4). -/
def destUrgent (d : BitVec 5) : Bool := destBelt d || d == 31#5

/-- The twenty command codes of R194. -/
def commandCode (c : Byte) : Bool := decide (1 ≤ c.toNat) && decide (c.toNat ≤ 20)

/-- The largest argument length of a command frame (R194). -/
def argsFit (args : Bytes) : Bool := decide (args.length ≤ 13)

/-- Well-formedness of a command. -/
def Instr.wellFormed : Instr → Bool
  | .powerReset _ => true
  | .pinReset _ => true
  | .resetRelease _ _ => true
  | .occupancyEnd _ => true
  | .attemptStart _ => true
  | .lostArbitration _ => true
  | .transmitFault _ => true
  | .receiveFault _ _ => true
  | .helloTaken _ _ p => p.length == 8
  | .byeTaken _ _ p => p.length == 1
  | .statusTaken _ _ p => p.length == 28
  | .raiseTaken _ _ p => p.length == 4
  | .lowerTaken _ _ p => p.length == 2
  | .claimTaken _ _ p => p.length == 6
  | .releaseTaken _ _ p => p.length == 2
  | .tallyTaken _ _ p => tallyLength p.length
  | .recallTaken _ _ d p => destStation d && tallyLength p.length
  | .capacityTaken _ _ d p => destBelt d && p.length == 2
  | .haltTaken _ _ d p => destUrgent d && p.length == 1
  | .clearTaken _ _ d p => destUrgent d && p.length == 1
  | .resetTaken _ _ d _ => destStation d
  | .helloCompletes _ _ => true
  | .byeCompletes _ _ => true
  | .statusCompletes _ _ => true
  | .raiseCompletes _ _ => true
  | .lowerCompletes _ _ => true
  | .claimCompletes _ _ => true
  | .releaseCompletes _ _ => true
  | .frameCompletes _ _ => true
  | .peerSilent _ => true
  | .peerLost _ => true
  | .pendingRaiseExpiry _ => true
  | .selfSilent => true
  | .raiseSettleDeadline => true
  | .drainStall => true
  | .releaseTimerExpiry => true
  | .haltRepeat => true
  | .capacityRepeat => true
  | .governorUpdate => true
  | .tallyTimerExpiry => true
  | .claimSettleDeadline => true
  | .travelTimeout => true
  | .exhaustionTimerExpiry => true
  | .listenTimerExpiry => true
  | .statusTimerExpiry => true
  | .machineSilent => true
  | .choke => true
  | .chokeCleared => true
  | .machineByteTimeout _ => true
  | .machineFrameError _ _ => true
  | .measure _ p => p.length == 18
  | .machineFrameSent _ => true
  | .consoleByteTimeout _ => true
  | .consoleFrameError _ _ => true
  | .responseSent _ => true
  | .unknown _ _ c => !commandCode c
  | .configure _ _ a => argsFit a
  | .join _ _ a => argsFit a
  | .leave _ _ a => argsFit a
  | .planBegin _ _ a => argsFit a
  | .planHold _ _ a => argsFit a
  | .planEnd _ _ a => argsFit a
  | .planDrop _ _ a => argsFit a
  | .order _ _ a => argsFit a
  | .cancel _ _ a => argsFit a
  | .halt _ _ a => argsFit a
  | .clear _ _ a => argsFit a
  | .overrideClear _ _ a => argsFit a
  | .beltcap _ _ a => argsFit a
  | .remoteReset _ _ a => argsFit a
  | .queryStation _ _ a => argsFit a
  | .queryPeer _ _ a => argsFit a
  | .queryHold _ _ a => argsFit a
  | .queryOrders _ _ a => argsFit a
  | .queryFinished _ _ a => argsFit a
  | .readReport _ _ a => argsFit a
  | .lineIdle _ => true

end Sys2Proof
end

