-- ==== Sys2Proof/Certificates/Slice0/Obligations.lean ====
section
/-! DEFINITION. The statements for the provers: what each command does by the rules of spec/, with its frame, and the
invariants that every step keeps. The numbered rules each statement rests on are named in its docstring. A statement
of several commands names each. Times and the queue of commands are the model's own (log 1, 3). -/

open Sys2Proof Sys2Proof.Machine

/-! ### The step and resets -/

/-- The steps are each whole (spec/95) and taken from the queue of commands, first in, first out; with none waiting the
block idles (the model's choice, log 3). -/
def Obligations.StepTakesFrontCommand : Prop :=
  ∀ s : State,
    (∀ c rest, s.pending = c :: rest → step s = exec c { s with pending := rest })
      ∧ (s.pending = [] → step s = .next s)

/-- R165, R166: a POWER reset begins in any state, a PIN reset outside a reset; nothing is then driven or sent and
attention is deasserted; at the release every block holds its reset values, the straps are read, and STARTED is the
one report. A reset line asserted within a reset does not change its cause. From the beginning of a reset until its
release no command but a POWER reset or the release does anything.
(The clock and the queue of commands are the model's own, log 1 and 3. That nothing but the release or a POWER reset is taken
within a reset is log 6, DEDUCED: R165 says so of console commands and of what is driven and sent. That a RESET_RELEASE with
no reset in progress changes nothing but the clock is the model's choice, log 4, unsafe for a claim about it: R165 and R166
give no such case.) -/
def Obligations.ResetReleasesIntoResetValues : Prop :=
  ∀ (t t' : Nat) (straps : Straps) (s : State),
    let released (c : ResetCause) : State :=
      { pending := s.pending, now := max (max s.now t) t', inReset := none
        station := Station.afterReset c straps, link := Link.afterReset straps.number
        table := Table.afterReset, share := Share.afterReset, gov := Governor.afterReset
        plan := PlanStore.afterReset, claim := ClaimUnit.afterReset, order := OrderUnit.afterReset
        machine := MachineIf.afterReset
        console := { Console.afterReset with
          attention := true
          reports := [⟨.info, .station, 31,
            [BitVec.ofNat 32 c.code, BitVec.ofNat 32 straps.number.val, BitVec.ofNat 32 (Role.code straps.role),
              BitVec.ofNat 32 (Belt.code straps.belt)]⟩] } }
    let silentIn (c : ResetCause) (a : State) : Prop :=
      a.inReset = some c ∧ a.link.onLine = none ∧ a.link.ackDriven = false ∧ a.machine.sending = none
        ∧ a.console.sending = none ∧ a.console.attention = false
    (∃ a, exec (.powerReset t) s = .next a ∧ silentIn .power a
        ∧ exec (.resetRelease t' straps) a = .next (released .power))
      ∧ (s.inReset = none → ∃ a, exec (.pinReset t) s = .next a ∧ silentIn .pin a
        ∧ exec (.resetRelease t' straps) a = .next (released .pin))
      ∧ (∀ c, s.inReset = some c → exec (.pinReset t) s = .next { s with now := max s.now t })
      ∧ (s.inReset = none → exec (.resetRelease t straps) s = .next { s with now := max s.now t })
      ∧ (∀ c : Instr, s.inReset.isSome = true → (∀ u, c ≠ .powerReset u) → (∀ u st, c ≠ .resetRelease u st) →
        ∃ n, s.now ≤ n ∧ exec c s = .next { s with now := n })

/-- R24, R41, R69, R88, R106, R122, R144, R164, R165, R177: the values after a reset, those of the quay link's table among
them, meet every invariant below.
(State.reset's straps and reset cause are log 5 and its clock is log 1: the model's choices, unsafe for a claim that rests
on them.) -/
def Obligations.ResetStateMeetsTheInvariants : Prop :=
  State.reset.console.ok ∧ State.reset.massesBalance ∧ State.reset.lineOk ∧ State.reset.feedSafe
    ∧ State.reset.viewCurrent ∧ State.reset.unheardHoldNothing ∧ State.reset.order.ok ∧ State.reset.machine.ok
    ∧ State.reset.lowersOk

/-! ### The quay line -/

/-- R3, R8, R9, R10: the rank after an occupancy; before the first idle the station only becomes synchronised. (What an
occupancy held is noted in the model's own field, log 7. That the own number becomes the rank at the end of a HELLO's occupancy,
and not at HELLO_COMPLETES, is the model's choice, log 40.) -/
def Obligations.OccupancyEndRanksTheStation : Prop :=
  ∀ (t : Nat) (s : State), s.inReset = none → s.link.onLine = none →
    (s.link.synced = false → exec (.occupancyEnd t) s = .next { s with
      now := max s.now t, link := { s.link with synced := true, occupancy := .unjudged } })
      ∧ (s.link.synced = true → exec (.occupancyEnd t) s = .next { s with
        now := max s.now t
        link := { s.link with
          occupancy := .unjudged
          rank := if s.link.occupancy = .hello then s.own.val
            else if s.link.occupancy = .ownSent then 0 else min 15 (s.link.rank + 1) } })
      ∧ exec (.lineIdle t) s = .next { s with now := max s.now t, link := { s.link with synced := true } }

/-- R1, R6, R7, R46, R112, R191: the head of the urgent queue is offered before the first entry of the normal set; it leaves
its place, its word is urgent bit, rank and number; a RAISE or a CLAIM that starts is SENDING. A station that does not
transmit, or has nothing queued, starts nothing. Of the words that contend bit by bit the highest wins and every other
loses; stations of different numbers never send the same word.
(That the line was idle, so that the station is synchronised, is log 8; the contention is what stands on the line, log 27.) -/
def Obligations.AttemptOffersTheUrgentHeadFirst : Prop :=
  (∀ (t : Nat) (s : State), s.inReset = none → s.link.onLine = none →
    (∀ c l, s.transmits = true → s.link.rank ≤ 15 →
      ((∃ us, s.link.urgent = c :: us ∧ l = { s.link with urgent := us })
        ∨ (s.link.urgent = [] ∧ ∃ ns, s.link.normal = c :: ns ∧ l = { s.link with normal := ns })) →
      ∃ w : BitVec 9, w.toNat = (if c.kind.urgent then 256 else 0) + s.link.rank * 16 + s.own.val
        ∧ exec (.attemptStart t) s = .next { s with
          now := max s.now t
          link := { l with synced := true, occupancy := .unjudged, onLine := some ⟨c, w, false⟩ }
          share := { s.share with raise := match c with | .raise target _ => .sending target none | _ => s.share.raise }
          claim := { s.claim with
            phase := match c with | .claim _ => .sending | _ => s.claim.phase
            withdrawn := match c with | .claim _ => false | _ => s.claim.withdrawn } })
      ∧ (s.transmits = false ∨ (s.link.urgent = [] ∧ s.link.normal = []) →
        exec (.attemptStart t) s = .next { s with now := max s.now t }))
    ∧ (∀ words : List Nat, (∀ v ∈ words, v < 512) → ∀ w ∈ words,
      contend ((bitsOf 9 w).zip (lineLevels 9 words)) = if ∀ v ∈ words, v ≤ w then .won else .lost)
    ∧ (∀ (u u' : Bool) (r r' : Nat) (j j' : StationNo), r ≤ 15 → r' ≤ 15 → j ≠ j' →
      arbitrationWord u r j ≠ arbitrationWord u' r' j')

/-- R7, R14, R16, R18, R19, R46, R48, R112, R117: an attempt that loses arbitration changes no count and returns its frame to
the head of its place, held content in place of its own, or withdraws it. A RAISE not withdrawn is QUEUED again and
re-examined at once: withdrawn where a condition fails, offered again where its target has changed. A CLAIM not
withdrawn is QUEUED again and tested at once: withdrawn with the reason where a condition fails, offered again where x
has moved; one withdrawn is dropped, its claim removed, and the release waiters are signalled. An aborted attempt does
the same to its frame, whatever its kind, is charged 4, and the count then sets the station state: below 64, or while no
condition of R19 holds, nothing more happens; an ACTIVE station with no lowering, at 64 to 159, becomes DEGRADED and reports
it, where a CLAIM that stood queued is withdrawn and a request is blocked with reason LINK; a station it mutes has empty
queues and feeds nothing.
(Where the frame returns to, and the order of these effects, are the model's: log 10, 20. That a RAISE queued again stays
queued as DEGRADED is entered is log 36.) -/
def Obligations.FailedAttemptReturnsTheFrame : Prop :=
  ∀ (t : Nat) (s : State) (a : Attempt), s.inReset = none → s.link.onLine = some a →
    let back : Link := { s.link with
      onLine := none
      held := none
      urgent := if !a.withdrawn && a.content.kind.urgent then a.content :: s.link.urgent else s.link.urgent
      normal := if a.withdrawn then s.link.held.toList ++ s.link.normal
        else if a.content.kind.urgent then s.link.normal else s.link.held.getD a.content :: s.link.normal }
    let n := min 255 (s.link.txFaults + 4)
    let i : Int := min (min ((s.gov.allowed : Int) - s.share.grant) 200)
      ((s.share.capacity : Int) - s.share.resv - s.share.grant)
    let stands := s.halted = false ∧ s.share.lowering = none ∧ s.station.state = .active ∧ s.link.rxPoor = false ∧ 10 ≤ i
    (a.content.kind ≠ .raise → a.content.kind ≠ .claim →
      exec (.lostArbitration t) s = .next { s with now := max s.now t, link := back }
        ∧ (n < 64 → (s.station.state = .degraded → 32 ≤ n) → exec (.transmitFault t) s = .next { s with
          now := max s.now t, link := { back with txFaults := n, occupancy := .aborted } }))
      ∧ (a.content.kind = .raise → a.withdrawn = true → exec (.lostArbitration t) s = .next { s with
        now := max s.now t, link := back, share := { s.share with raise := .none } })
      ∧ (∀ target current, a.content = .raise target current → a.withdrawn = false → stands →
        ∃ new : Nat, (new : Int) = s.share.grant + i ∧ exec (.lostArbitration t) s = .next { s with
          now := max s.now t, share := { s.share with raise := .queued new }
          link := if new = target then back else back.placeSingle (.raise new s.share.grant) })
      ∧ (a.content.kind = .raise → a.withdrawn = false → ¬ stands → exec (.lostArbitration t) s = .next { s with
        now := max s.now t, share := { s.share with raise := .none }
        link := { back with normal := back.normal.filter (fun c => c.kind != .raise) } })
      ∧ (a.content.kind = .claim → a.withdrawn = false → s.claim.request = none →
        exec (.lostArbitration t) s = .next { s with
          now := max s.now t, link := back, claim := { s.claim with phase := .queued } })
      ∧ (a.content.kind = .claim → a.withdrawn = false → ∀ r b, s.claim.request = some r → s.claimBlocked r = some b →
        exec (.lostArbitration t) s = .next { s with
          now := max s.now t, link := { back with normal := back.normal.filter (fun c => c.kind != .claim) }
          claim := { s.claim with phase := .none, own := none, request := some { r with blocked := some b } }
          order := s.order.setBlocked (some b) })
      ∧ (a.content.kind = .claim → a.withdrawn = false → ∀ r b x, s.claim.request = some r → s.claimBlocked r = none →
        s.claim.own = some b → s.machine.position = some x → exec (.lostArbitration t) s = .next (if b.fromPos = x
          then { s with now := max s.now t, link := back, claim := { s.claim with phase := .queued } }
          else { s with
            now := max s.now t, link := back.placeSingle (.claim ⟨r.hold, r.slot, x, r.pos⟩)
            claim := { s.claim with phase := .queued, own := some ⟨r.hold, r.slot, x, r.pos⟩, withdrawn := false } }))
      ∧ (a.content.kind = .claim → a.withdrawn = true → ∃ s', exec (.lostArbitration t) s = .next s'
        ∧ s'.claim.waitOrder = false ∧ s'.claim.waitStation = false
        ∧ (s.claim.waitOrder = true → s'.order.releaseOut = false)
        ∧ (s.claim.waitStation = true → s.station.state = .leaving → s'.station.leaveRelease = true)
        ∧ (s.claim.waitOrder = false → s.claim.waitStation = false → s.claim.request = none → s' = { s with
          now := max s.now t, link := back
          claim := { s.claim with phase := .none, own := none, withdrawn := false } }))
      ∧ (∃ s', exec (.lostArbitration t) s = .next s' ∧ s'.link.onLine = none ∧ s'.link.txFaults = s.link.txFaults
        ∧ s'.link.rank = s.link.rank ∧ s'.station.state = s.station.state)
      ∧ (∃ s', exec (.transmitFault t) s = .next s' ∧ s'.link.onLine = none ∧ s'.link.txFaults = n
        ∧ s'.link.rank = s.link.rank ∧ s'.link.occupancy = .aborted
        ∧ s'.station.state = (if s.transmits = true ∧ 160 ≤ n then .muted
          else if s.station.state = .active ∧ 64 ≤ n then .degraded
          else if s.station.state = .degraded ∧ n < 32 then .active else s.station.state)
        ∧ (s.transmits = true → 160 ≤ n → s'.link.urgent = [] ∧ s'.link.normal = [] ∧ s'.link.held = none
          ∧ (s.isUnloader = true → s'.gov.feed = 0 ∧ s'.gov.target = 0)))
      ∧ (∀ s1, exec (.lostArbitration t) s = .next s1 →
        let charged : State := { s1 with link := { s1.link with txFaults := n, occupancy := .aborted } }
        ((s.transmits = true → n < 160) → (s.station.state = .active → n < 64) → (s.station.state = .degraded → 32 ≤ n) →
            exec (.transmitFault t) s = .next charged)
          ∧ (s.station.state = .active → 64 ≤ n → n < 160 → s1.share.lowering = none →
            ∃ s', exec (.transmitFault t) s = .next s'
              ∧ s' = { charged with
                station := { s.station with state := .degraded }
                link := { charged.link with normal := s'.link.normal }, claim := s'.claim, order := s'.order
                console := if 2 ≤ s.station.reportLevel
                  then s1.console.enqueue ⟨.warning, .link, 3, [BitVec.ofNat 32 n]⟩ else s1.console }
              ∧ (s1.claim.request = none ∨ (s1.claim.phase ≠ .none ∧ s1.claim.phase ≠ .queued) →
                s'.link.normal = s1.link.normal ∧ s'.claim = s1.claim ∧ s'.order = s1.order)
              ∧ (∀ r, s1.claim.request = some r → s1.claim.phase = .none ∨ s1.claim.phase = .queued →
                s'.claim = { s1.claim with
                    phase := .none, own := if s1.claim.phase = .queued then none else s1.claim.own
                    request := some { r with blocked := some .link } }
                  ∧ s'.order = s1.order.setBlocked (some .link)
                  ∧ s'.link.normal = if s1.claim.phase = .queued
                    then s1.link.normal.filter (fun d => d.kind != .claim) else s1.link.normal)))

/-- R3, R11, R18, R21: an occupancy that fails a test counts one receive fault, held at 255, and nothing more is taken from
it or counted; the slot is driven only after a CRC check that succeeded; at 96 RX_POOR is set and reported. A station
that is sending, is not synchronised, or has judged, sent or aborted in the occupancy judges nothing more of it: neither
a fault nor a frame.
(The slot and what the occupancy held are the model's own fields, log 7, 11; which tests come first is log 12; an event of
an occupancy already judged is log 4; that a QUEUED raise stays queued as RX_POOR is set is log 36.) -/
def Obligations.ReceiveFaultIsCounted : Prop :=
  ∀ (t : Nat) (cause : RxFault) (s : State), s.inReset = none →
    let n := min 255 (s.link.rxFaults + 1)
    let l : Link := { s.link with
      rxFaults := n, occupancy := .faulty, ackDriven := decide (cause = .destination true) && s.transmits }
    (s.listens = true → (n < 96 ∨ s.link.rxPoor = true) →
      exec (.receiveFault t cause) s = .next { s with now := max s.now t, link := l })
      ∧ (s.listens = true → 96 ≤ n → s.link.rxPoor = false → ∃ s', exec (.receiveFault t cause) s = .next s'
        ∧ s' = { s with
          now := max s.now t
          link := { l with rxPoor := true, normal := s'.link.normal, held := s'.link.held }
          claim := s'.claim, order := s'.order
          console := if 2 ≤ s.station.reportLevel then s.console.enqueue ⟨.warning, .link, 6, []⟩ else s.console })
      ∧ (s.listens = true → ∃ s', exec (.receiveFault t cause) s = .next s' ∧ s'.listens = false)
      ∧ (s.listens = false → exec (.receiveFault t cause) s = .next { s with now := max s.now t }
        ∧ ∀ c j k, Instr.frameTaken c = some (t, j, k) → exec c s = .next { s with now := max s.now t })

/-! ### Frames taken from the quay line -/

/-- R11, R21, R25, R26: every good frame of a peer, of any of the thirteen kinds, refreshes that peer's entry and no
other; it is acknowledged by a station that transmits, and takes 1 from the receive-fault count. (A RESET that is taken
begins a reset instead; it is stated apart.) -/
def Obligations.GoodFrameRefreshesItsSender : Prop :=
  ∀ (c : Instr) (t : Nat) (j : StationNo) (k : Kind) (s : State),
    c.frameTaken = some (t, j, k) → c.wellFormed = true → s.inReset = none → s.listens = true → j ≠ s.own →
    (k = .reset → s.station.remoteEnable = false) →
    ∃ s', exec c s = .next s'
      ∧ (s'.entry j).presence = (if k = .bye then .left else .present)
      ∧ (s'.entry j).lastHeard = max s.now t
      ∧ (∀ i, i ≠ j → s'.entry i = s.entry i)
      ∧ s'.link.ackDriven = s.transmits ∧ s'.link.rxFaults = s.link.rxFaults - 1

/-- R5, R21, R23: a good frame that bears the own number is handed to no block: DUP_NUMBER is marked, and reported with the
frame's kind where it was not reported yet; a station on the quay or MUTED goes OFFLINE with its queues emptied, its
grant kept and its feed at 0; a DISCHARGING order is then held for LINK (R142). In CONFIG and OFFLINE the state stays.
(That such an order loses HOLD_LIMIT as the flag opens is log 37. The report is stated where the frame does not also clear
RX_POOR: which of two reports is first is log 20.) -/
def Obligations.OwnNumberFrameTakesTheStationOffline : Prop :=
  ∀ (c : Instr) (t : Nat) (k : Kind) (s : State),
    c.frameTaken = some (t, s.own, k) → c.wellFormed = true → s.inReset = none → s.listens = true →
    let report : Report := ⟨.error, .link, 7, [BitVec.ofNat 32 k.code]⟩
    let quiet := s.link.rxPoor = false ∨ 64 ≤ s.link.rxFaults - 1
    ∃ s', exec c s = .next s'
      ∧ s'.link.dupReported = true ∧ s'.link.rxFaults = s.link.rxFaults - 1
      ∧ s'.table.entries = s.table.entries ∧ s'.share.grant = s.share.grant ∧ s'.share.halts = s.share.halts
      ∧ (s.station.state = .config ∨ s.station.state = .offline →
        s'.station = s.station ∧ s'.mask = { s.heard t k with link := { (s.heard t k).link with dupReported := true } }.mask
          ∧ (quiet → s'.console = if s.link.dupReported = false ∧ 1 ≤ s.station.reportLevel
            then s.console.enqueue report else s.console))
      ∧ (s.station.state ≠ .config → s.station.state ≠ .offline →
        s'.station.state = .offline ∧ s'.link.urgent = [] ∧ s'.link.normal = [] ∧ s'.link.held = none
          ∧ (s.isUnloader = true → s'.gov.feed = 0 ∧ s'.gov.limit = none)
          ∧ (s.isUnloader = true → ∀ o, s.order.active = some o → o.state = .discharging → ∃ o',
            s'.order.active = some o' ∧ o' = { o with held := o'.held } ∧ o'.held.link = true ∧ o'.held.limit = false)
          ∧ (quiet → s.link.dupReported = false → 1 ≤ s.station.reportLevel → s.console.reports.length < 16 →
            s.console.reports ++ [report] <+: s'.console.reports))

/-- R35, R26: a frame with a value out of range changes its sender's presence and last-heard time, and nothing else of the
table, the plan store, the halt set or the intake capacity list.
(A BYE of another reason leaves its entry LEFT with those effects: log 13.) -/
def Obligations.BadContentWritesNoField : Prop :=
  ∀ (c : Instr) (t : Nat) (j : StationNo) (k : Kind) (p : Bytes) (s : State), s.inReset = none → s.listens = true →
    j ≠ s.own →
    ((c = .helloTaken t j p ∧ k = .hello ∧ ∃ b, readHello p = some b
        ∧ (b.cause = 0 ∨ 4 < b.cause ∨ b.capacity < 100 ∨ 6000 < b.capacity))
      ∨ (c = .byeTaken t j p ∧ k = .bye ∧ ∃ r, readBye p = some r ∧ r ≠ 1)
      ∨ (c = .statusTaken t j p ∧ k = .status ∧ ∃ b, readStatus p = some b
        ∧ (b.stateCode < 3 ∨ 5 < b.stateCode ∨ (∃ x, b.position = some x ∧ 65000 < x) ∨ 12 < b.hold ∨ 2 < b.slot
          ∨ ¬(b.hold = 0 ↔ b.slot = 0) ∨ 1500 < b.grant ∨ 1500 < b.raiseTarget ∨ b.capacity < 100
          ∨ 6000 < b.capacity))
      ∨ (c = .raiseTaken t j p ∧ k = .raise ∧ ∃ b, readRaise p = some b ∧ (1500 < b.1 ∨ 1500 < b.2))
      ∨ (c = .lowerTaken t j p ∧ k = .lower ∧ ∃ g, readWord p = some g ∧ 1500 < g)
      ∨ (c = .claimTaken t j p ∧ k = .claim ∧ ∃ b, readClaim p = some b
        ∧ (b.hold = 0 ∨ 12 < b.hold ∨ b.slot = 0 ∨ 2 < b.slot ∨ 65000 < b.fromPos ∨ 65000 < b.toPos))
      ∨ (c = .releaseTaken t j p ∧ k = .release ∧ ∃ b, readRelease p = some b
        ∧ (b.1 = 0 ∨ 12 < b.1 ∨ b.2 = 0 ∨ 2 < b.2))) →
    let e := s.entry j
    let e' : PeerEntry := if k = .bye then
        { e with presence := .left, lastHeard := max s.now t, grant := 0, raise := none, claim := none }
      else { e with
        presence := .present, lastHeard := max s.now t, lastSeq := if e.presence = .present then e.lastSeq else none }
    ∃ s', exec c s = .next s'
      ∧ s'.mask = { s.heard t k with
        table := { s.table with entries := s.table.entries.set j.val e' j.isLt } }.mask

/-- R26, R31, R39, R43, R48, R50, R102: what a HELLO in range leaves in its sender's entry, field by field; and to a peer that
was reset and announces the own READY plan, a RECALL of that peer's column is offered where its list has room; to any other
none. Where the frame changes S or C, the own raise follows. -/
def Obligations.HelloRecordsTheEntry : Prop :=
  ∀ (t : Nat) (j : StationNo) (p : Bytes) (b : HelloBody) (c : StartCause) (s : State), s.inReset = none →
    s.listens = true → j ≠ s.own → readHello p = some b → b.cause = c.code → 100 ≤ b.capacity → b.capacity ≤ 6000 →
    let e := s.entry j
    let kept := decide (c = .rejoin ∧ b.role = .unloader)
    let e' : PeerEntry :=
      { presence := .present, role := some b.role, belt := some b.belt, cause := some c
        lastStatus := if c = .rejoin then e.lastStatus else none
        grant := if kept then e.grant else 0
        raise := if kept then e.raise else none
        claim := if kept then e.claim else none
        position := if b.role = .unloader then e.position else none
        planId := b.planId, capacity := b.capacity
        mismatch := if b.role = .intake then none else match s.station.config with
          | none => e.mismatch
          | some cfg => if b.belt = s.station.straps.belt ∧ b.capacity ≠ cfg.capacity then some b.capacity else none
        lastHeard := max s.now t
        lastSeq := if e.presence = .present then e.lastSeq else none
        missed := e.missed }
    ∃ s', exec (.helloTaken t j p) s = .next s' ∧ s.raiseFollowsView s'
      ∧ s'.mask = { s.heard t .hello with
        table := { s.table with entries := s.table.entries.set j.val e' j.isLt } }.mask
      ∧ (∀ r, s.readyPlan = some r → c ≠ .rejoin → b.planId = r.id → s.columnPairs j ≠ [] → s.transmits = true →
        s.link.listCount < 4 → Content.recall j ⟨r.id, s.columnPairs j⟩ ∈ s'.link.normal)
      ∧ (c = .rejoin ∨ (∀ r, s.readyPlan = some r → b.planId ≠ r.id) ∨ s.columnPairs j = [] →
        ∀ d ∈ s'.link.normal, d.kind = .recall → d ∈ s.link.normal)

/-- R26, R29, R32 to R34, R36, R39, R43, R48, R50, R99, R100: what a STATUS in range leaves in its sender's entry, the cell its mass raises,
and the plan mismatch mark: an equal plan id removes it, whatever the hold field; another id but 0 with a hold field not
0 becomes it. No other cell, no other mark and no part of the own column changes. Where the frame changes S or C, the own raise
follows: a SETTLING one is abandoned where C - S - T falls below 0, a QUEUED one is re-examined. -/
def Obligations.StatusRecordsTheEntryAndTheMass : Prop :=
  ∀ (t : Nat) (j : StationNo) (p : Bytes) (b : StatusBody) (s : State), s.inReset = none → s.listens = true →
    j ≠ s.own → readStatus p = some b → 3 ≤ b.stateCode → b.stateCode ≤ 5 → (∀ x, b.position = some x → x ≤ 65000) →
    b.hold ≤ 12 → b.slot ≤ 2 → (b.hold = 0 ↔ b.slot = 0) → b.grant ≤ 1500 → b.raiseTarget ≤ 1500 →
    100 ≤ b.capacity → b.capacity ≤ 6000 →
    let e := s.entry j
    let now := max s.now t
    let lastSeq := if e.presence = .present then e.lastSeq else none
    let target := match e.claim with
      | some c => if c.hold = b.hold ∧ c.slot = b.slot then c.target else s.planPos b.hold b.slot
      | none => s.planPos b.hold b.slot
    let e' : PeerEntry :=
      { presence := .present, role := some b.role, belt := some b.belt, cause := e.cause, lastStatus := some b
        grant := b.grant
        raise := if b.raiseTarget = 0 then none
          else if e.raise.map (fun r => r.target) = some b.raiseTarget then e.raise else some ⟨b.raiseTarget, now⟩
        claim := if b.hold = 0 then none else some ⟨b.hold, b.slot, target, b.age, now⟩
        position := if b.role = .intake then none else b.position
        planId := b.planId, capacity := b.capacity
        mismatch := if b.role = .intake then none else match s.station.config with
          | none => e.mismatch
          | some cfg => if b.belt = s.station.straps.belt ∧ b.capacity ≠ cfg.capacity then some b.capacity else none
        lastHeard := now, lastSeq := some b.seq
        missed := match lastSeq with
          | none => e.missed
          | some q => min 65535 (e.missed + if b.seq = q then 0 else (b.seq - q - 1#8).toNat) }
    let counts := match s.readyPlan with
      | some r => decide (b.planId = r.id ∧ b.planId ≠ 0 ∧ 1 ≤ b.hold ∧ b.hold ≤ r.count)
      | none => false
    ∃ s', exec (.statusTaken t j p) s = .next s' ∧ s.raiseFollowsView s'
      ∧ s'.mask = { s.heard t .status with
        table := { s.table with entries := s.table.entries.set j.val e' j.isLt }
        plan := { s.plan with cells := s'.plan.cells, marks := s'.plan.marks } }.mask
      ∧ (∀ h i, s'.cell h i = if counts = true ∧ h = b.hold ∧ i = j then max (s.cell h i) b.mass else s.cell h i)
      ∧ (∀ i : StationNo, s'.plan.marks[i] = if i ≠ j then s.plan.marks[i] else match s.readyPlan with
        | none => s.plan.marks[j]
        | some r => if b.planId = r.id then none
          else if b.hold ≠ 0 ∧ b.planId ≠ 0 then some b.planId else s.plan.marks[j])

/-- R26, R28, R29, R30, R33, R34, R43, R48, R50: what RAISE, LOWER, CLAIM, RELEASE and BYE in range leave in their sender's
entry; and, where they change S or C, what becomes of the own raise: a SETTLING one whose C - S - T falls below 0 is abandoned
with a yield owed, a QUEUED one is re-examined. -/
def Obligations.ShareAndClaimFramesRecordTheEntry : Prop :=
  ∀ (t : Nat) (j : StationNo) (p : Bytes) (s : State), s.inReset = none → s.listens = true → j ≠ s.own →
    let e := s.entry j
    let now := max s.now t
    let here : PeerEntry := { e with
      presence := .present, lastHeard := now, lastSeq := if e.presence = .present then e.lastSeq else none }
    let takes (c : Instr) (k : Kind) (e' : PeerEntry) : Prop :=
      ∃ s', exec c s = .next s' ∧ s.raiseFollowsView s' ∧ s'.mask = { s.heard t k with
        table := { s.table with entries := s.table.entries.set j.val e' j.isLt } }.mask
    (∀ target current, readRaise p = some (target, current) → target ≤ 1500 → current ≤ 1500 →
        takes (.raiseTaken t j p) .raise { here with grant := current, raise := some ⟨target, now⟩ })
      ∧ (∀ grant, readWord p = some grant → grant ≤ 1500 →
        takes (.lowerTaken t j p) .lower { here with grant := grant, raise := none })
      ∧ (∀ b, readClaim p = some b → 1 ≤ b.hold → b.hold ≤ 12 → 1 ≤ b.slot → b.slot ≤ 2 → b.fromPos ≤ 65000 →
        b.toPos ≤ 65000 → takes (.claimTaken t j p) .claim { here with
          claim := some ⟨b.hold, b.slot, some b.toPos, 0, now⟩, position := some b.fromPos })
      ∧ (∀ hold slot, readRelease p = some (hold, slot) → 1 ≤ hold → hold ≤ 12 → 1 ≤ slot → slot ≤ 2 →
        takes (.releaseTaken t j p) .release { here with
          claim := if e.claim.map (fun c => (c.hold, c.slot)) = some (hold, slot) then none else e.claim })
      ∧ (readBye p = some 1 → takes (.byeTaken t j p) .bye { e with
        presence := .left, lastHeard := now, grant := 0, raise := none, claim := none })

/-- R30, R94, R98, R100: a TALLY records its plan id. With holds that ascend from 1 to 12 and under an equal READY plan it
raises each named cell of its sender up to hold N to the larger value, and removes its sender's plan mismatch mark; under
another READY plan its id, unless 0, becomes that mark; under no READY plan, or with a bad list, it leaves cells and marks.
No other cell, no other mark and no part of the own column changes. -/
def Obligations.TallyRaisesTheSendersColumn : Prop :=
  ∀ (t : Nat) (j : StationNo) (p : Bytes) (b : TallyBody) (s : State), s.inReset = none → s.listens = true →
    j ≠ s.own → readTally p = some b →
    let e := s.entry j
    let e' : PeerEntry := { e with
      presence := .present, lastHeard := max s.now t, planId := b.planId
      lastSeq := if e.presence = .present then e.lastSeq else none }
    let holds := b.pairs.map (fun q => q.1)
    let good := holds.Pairwise (· < ·) ∧ ∀ h ∈ holds, 1 ≤ h ∧ h ≤ 12
    ∃ s', exec (.tallyTaken t j p) s = .next s'
      ∧ s'.mask = { s.heard t .tally with
        table := { s.table with entries := s.table.entries.set j.val e' j.isLt }
        plan := { s.plan with cells := s'.plan.cells, marks := s'.plan.marks } }.mask
      ∧ (∀ r, s.readyPlan = some r → r.id = b.planId → good → ∀ h i, s'.cell h i =
        if i = j ∧ h ≤ r.count then max (s.cell h i) ((b.pairs.lookup h).getD 0) else s.cell h i)
      ∧ ((∀ r, s.readyPlan = some r → r.id ≠ b.planId) ∨ ¬ good → s'.plan.cells = s.plan.cells)
      ∧ (good → ∀ i : StationNo, s'.plan.marks[i] = if i ≠ j then s.plan.marks[i] else match s.readyPlan with
        | none => s.plan.marks[j]
        | some r => if b.planId = r.id then none else if b.planId ≠ 0 then some b.planId else s.plan.marks[j])
      ∧ (¬ good → s'.plan.marks = s.plan.marks)

/-- R4, R43, R44, R45, R48, R50, R103: RECALL raises the recall base of the holds it names in JOINING under an equal READY plan,
and changes nothing of the plan store otherwise; CAPACITY for the own belt sets the sender's place of the intake capacity
list, at most 6 000, C is current after it and the own raise follows a change of C, from a sender that is PRESENT in every
state, and from any other in a state that meets the two invariants of S, C and the entries stated below; for another belt or
station neither is applied. -/
def Obligations.RecallAndCapacityAreAppliedWhereTheyAreFor : Prop :=
  ∀ (t : Nat) (j : StationNo) (d : BitVec 5) (p : Bytes) (s : State), s.inReset = none → s.listens = true →
    j ≠ s.own →
    let e := s.entry j
    let here : PeerEntry := { e with
      presence := .present, lastHeard := max s.now t
      lastSeq := if e.presence = .present then e.lastSeq else none }
    let table : Table := { s.table with entries := s.table.entries.set j.val here j.isLt }
    (∀ b, readTally p = some b → d.toNat ≤ 15 →
        let holds := b.pairs.map (fun q => q.1)
        let good := holds.Pairwise (· < ·) ∧ ∀ h ∈ holds, 1 ≤ h ∧ h ≤ 12
        ∃ s', exec (.recallTaken t j d p) s = .next s'
          ∧ s'.mask = { s.heard t .recall with
            table := table, plan := { s.plan with recallBase := s'.plan.recallBase } }.mask
          ∧ (∀ r, s.readyPlan = some r → r.id = b.planId → good → d.toNat = s.own.val → s.station.state = .joining →
            ∀ h, 1 ≤ h → h ≤ 12 → massAt s'.plan.recallBase h =
              if h ≤ r.count then max (massAt s.plan.recallBase h) ((b.pairs.lookup h).getD 0)
              else massAt s.plan.recallBase h)
          ∧ ((∀ r, s.readyPlan = some r → r.id ≠ b.planId) ∨ ¬ good ∨ d.toNat ≠ s.own.val
            ∨ s.station.state ≠ .joining → s'.plan.recallBase = s.plan.recallBase))
      ∧ (∀ c, readWord p = some c → (d.toNat = 16 ∨ d.toNat = 17) →
        ∃ s', exec (.capacityTaken t j d p) s = .next s'
          ∧ (e.presence = .present ∨ (s.viewCurrent ∧ s.unheardHoldNothing) → s.raiseFollowsView s')
          ∧ s'.mask = { s.heard t .capacity with
            table := table
            share := { s.share with
              intakeCaps := if d.toNat = Belt.dest s.station.straps.belt
                then s.share.intakeCaps.set j.val (some (min c 6000)) j.isLt else s.share.intakeCaps } }.mask
          ∧ (d.toNat = Belt.dest s.station.straps.belt → s'.share.capacity = s'.effectiveCapacity))

/-- R16, R48, R50, R52, R60, R61, R82: a HALT in range for this station adds its sender to the halt set and takes an
unloader's feed to 0 with HOLD_OFF (HALT) when it joins. Where the halt set was empty, an unloader's raise is withdrawn or
abandoned and a lower request with target 0 is made; where it was not, and in the intake role, the share unit changes in
nothing else. (Where the frame also makes a LOST or SILENT sender PRESENT, its own claim may yield at that change first, and
the raise and the lowering end the same way.) A CLEAR in range removes its sender and the grant stays where it is; one for the
other belt changes nothing but its sender's presence.
(That a reason is judged only where the frame is for this station is log 14. That a yield owed beside a lowering in progress
stays owed is log 16, DEDUCED. That F_t's binding is then HOLD_OFF (HALT), also
where the halt stops a RUNNING order, is the model's choice, log 15. That a SENDING raise a lower request had abandoned before
keeps its cause is the model's choice, log 39.) -/
def Obligations.HaltAndClearChangeTheHaltSet : Prop :=
  ∀ (t : Nat) (j : StationNo) (d : BitVec 5) (p : Bytes) (r : Nat) (s : State), s.inReset = none → s.listens = true →
    j ≠ s.own → readReason p = some r → (d.toNat = 16 ∨ d.toNat = 17 ∨ d.toNat = 31) →
    let e := s.entry j
    let here : PeerEntry := { e with
      presence := .present, lastHeard := max s.now t
      lastSeq := if e.presence = .present then e.lastSeq else none }
    let mine := d.toNat = 31 ∨ d.toNat = Belt.dest s.station.straps.belt
    let sets (c : Instr) (k : Kind) (halts : BitVec 16) (also : State → Prop) : Prop :=
      ∃ s', exec c s = .next s' ∧ also s' ∧ s'.mask = { s.heard t k with
        table := { s.table with entries := s.table.entries.set j.val here j.isLt }
        share := { s.share with halts := halts } }.mask
    (mine → 1 ≤ r → r ≤ 100 →
        sets (.haltTaken t j d p) .halt (s.share.halts ||| BitVec.ofNat 16 (2 ^ j.val)) (fun s' =>
          haltMember s'.share.halts j = true
            ∧ (haltMember s.share.halts j = false → s.isUnloader = true →
              s'.gov.feed = 0 ∧ s'.gov.target = 0 ∧ s'.gov.bindTarget = .holdOff .halt)
            ∧ (s.halted = false → s.isUnloader = true → (e.presence = .present → s.haltEndsRaiseAndLowers s')
              ∧ s'.share.raise.alive = false
              ∧ (0 < s.share.grant ∨ s.share.lowering.isSome = true → ∃ l, s'.share.lowering = some l ∧ l.target = 0))
            ∧ (e.presence = .present → s.halted = true ∨ s.isIntake = true →
              s'.share = { s.share with halts := s'.share.halts })))
      ∧ (mine → 1 ≤ r → r ≤ 99 →
        sets (.clearTaken t j d p) .clear (s.share.halts &&& ~~~(BitVec.ofNat 16 (2 ^ j.val))) (fun s' =>
          haltMember s'.share.halts j = false
            ∧ (e.presence = .present → s'.share = { s.share with halts := s'.share.halts })))
      ∧ (mine ∧ (r = 0 ∨ 100 < r) ∨ ¬ mine → sets (.haltTaken t j d p) .halt s.share.halts (fun _ => True))
      ∧ (mine ∧ (r = 0 ∨ 99 < r) ∨ ¬ mine → sets (.clearTaken t j d p) .clear s.share.halts (fun _ => True))

/-- R165, R167: a RESET for the own number clears the device and releases it with cause REMOTE where remote reset is
enabled (within the one step, log 6), and is refused otherwise; one for another station refreshes its sender's presence
alone. The frame was acknowledged before the reset began (R11; the slot is the model's own field, log 11). -/
def Obligations.ResetFrameResetsWhereEnabled : Prop :=
  ∀ (t : Nat) (j : StationNo) (d : BitVec 5) (straps : Straps) (s : State), s.inReset = none → s.listens = true →
    j ≠ s.own → d.toNat ≤ 15 →
    let e := s.entry j
    let here : PeerEntry := { e with
      presence := .present, lastHeard := max s.now t
      lastSeq := if e.presence = .present then e.lastSeq else none }
    (d.toNat = s.own.val → s.station.remoteEnable = true →
        exec (.resetTaken t j d straps) s = .next
          { pending := s.pending, now := max s.now t, inReset := none
            station := Station.afterReset .remote straps, link := { Link.afterReset straps.number with ackDriven := s.transmits }
            table := Table.afterReset, share := Share.afterReset, gov := Governor.afterReset
            plan := PlanStore.afterReset, claim := ClaimUnit.afterReset, order := OrderUnit.afterReset
            machine := MachineIf.afterReset
            console := { Console.afterReset with
              attention := true
              reports := [⟨.info, .station, 31,
                [3#32, BitVec.ofNat 32 straps.number.val, BitVec.ofNat 32 (Role.code straps.role),
                  BitVec.ofNat 32 (Belt.code straps.belt)]⟩] } })
      ∧ (d.toNat ≠ s.own.val ∨ s.station.remoteEnable = false → ∃ s', exec (.resetTaken t j d straps) s = .next s'
        ∧ s'.mask = { s.heard t .reset with
          table := { s.table with entries := s.table.entries.set j.val here j.isLt } }.mask)

/-! ### Own frames that complete -/

/-- R8, R9, R11, R12, R14, R17, R18: every own frame that completes leaves the line; the slot is left recessive by its sender;
the consecutive-unheard count, the ALONE mark and the transmit-fault count change as the rules say; and at the end of
its occupancy the rank is 0, or the own number after a HELLO. Held content is queued last, and the rest of the link
controller stays as it is, where the completion's block does nothing with the queues (a HELLO, a STATUS, a TALLY, RECALL,
CAPACITY, HALT, CLEAR or RESET; a RAISE that settles; a LOWER with no lowering in progress; a CLAIM that settles). Behind
a RELEASE it keeps its place after what was queued, and what that RELEASE starts comes after both; a BYE's queues are in
StationFramesComplete. FRAME_COMPLETES does nothing else. That is said where the count leaves the station state as it is. A
completion that takes a DEGRADED station's count below 32 makes it ACTIVE and reports LINK_RECOVERED (R19); with no
lowering and no request waiting, FRAME_COMPLETES does nothing else in an unloader.
(The slot and what the occupancy held are the model's own fields, log 7, 11. That ALONE is reported before LINK_RECOVERED is
the model's choice, log 20. That the own number becomes the rank at the end of a HELLO's occupancy, and not at HELLO_COMPLETES, is
the model's choice, log 40.) -/
def Obligations.CompletionCountsAndRanks : Prop :=
  ∀ (c : Instr) (t : Nat) (acked : Bool) (ks : List Kind) (a : Attempt) (s : State),
    c.frameDone = some (t, acked, ks) → s.inReset = none → s.link.onLine = some a → a.content.kind ∈ ks →
    let n := if acked then 0 else min 255 (s.link.unheard + 1)
    let alone := decide (acked = false ∧ 4 ≤ n ∧ s.link.aloneReported = false)
    let l : Link := { s.link with
      onLine := none, held := none, normal := s.link.normal ++ s.link.held.toList, ackDriven := false
      occupancy := if a.content.kind = .hello then .hello else .ownSent
      txFaults := s.link.txFaults - 1, unheard := n
      aloneReported := !acked && (s.link.aloneReported || decide (4 ≤ n)) }
    let stays := s.link.txFaults ≤ 160 ∧ (s.station.state = .active → s.link.txFaults ≤ 64)
      ∧ (s.station.state = .degraded → 33 ≤ s.link.txFaults)
    let quiet : Prop := match a.content with
      | .bye _ => False
      | .release _ _ => False
      | .raise target _ => s.halted = false ∧ s.share.raise = .sending target none
        ∧ s.share.resv + target ≤ s.share.capacity
      | .lower _ => s.share.lowering = none
      | .claim b => s.claim.own = some b ∧ s.claim.withdrawn = false ∧ ∀ j, j ≠ s.own → s.conflictWith b j = none
      | _ => True
    (∃ s', exec c s = .next s' ∧ s'.link.onLine = none ∧ s'.link.unheard = n ∧ s'.link.ackDriven = false
        ∧ s'.link.aloneReported = l.aloneReported ∧ s'.link.txFaults = l.txFaults ∧ s'.link.rank = s.link.rank
        ∧ (s.link.synced = true → ∀ t', ∃ s'', exec (.occupancyEnd t') s' = .next s''
          ∧ s''.link.rank = if a.content.kind = .hello then s.own.val else 0))
      ∧ (stays → quiet → ∃ s', exec c s = .next s' ∧ s'.link = l)
      ∧ (stays → a.content.kind = .release → ∃ s', exec c s = .next s'
        ∧ l.normal.map (fun d => d.kind) <+: s'.link.normal.map (fun d => d.kind)
        ∧ ∀ d ∈ s.link.held, d.kind = .release → d ∈ s'.link.normal)
      ∧ (c = .frameCompletes t acked → stays → exec c s = .next { s with
        now := max s.now t
        link := l
        console := if alone = true ∧ 3 ≤ s.station.reportLevel
          then s.console.enqueue ⟨.info, .link, 1, [BitVec.ofNat 32 n]⟩ else s.console })
      ∧ (s.station.state = .degraded → s.link.txFaults ≤ 32 → a.content.kind ≠ .bye → ∃ s', exec c s = .next s'
        ∧ s'.station.state = .active
        ∧ (3 ≤ s.station.reportLevel → s.console.reports.length ≤ 14 →
          s.console.reports ++ (if alone = true then [⟨.info, .link, 1, [BitVec.ofNat 32 n]⟩] else [])
            ++ [⟨.info, .link, 4, []⟩] <+: s'.console.reports)
        ∧ (c = .frameCompletes t acked → s.isUnloader = true → s.share.lowering = none → s.claim.request = none →
          s' = { s with
            now := max s.now t, link := l, station := { s.station with state := .active }, console := s'.console }))

/-- R37, R38, R171, R173, R175, R176: an own HELLO starts the 2.0 s listen; an own STATUS gives the last sent sequence and
the time of the last STATUS, and in ACTIVE, DEGRADED and LEAVING restarts the 1.5 s watch and clears SELF_SILENT; an
own BYE takes the station OFFLINE, its queues emptied, its timers stopped, its feed at 0, its request and the intake
capacity list gone, the own halt, the halt set, the plan and the table entries kept. -/
def Obligations.StationFramesComplete : Prop :=
  ∀ (t : Nat) (acked : Bool) (a : Attempt) (s : State), s.inReset = none → s.link.onLine = some a →
    s.link.txFaults ≤ 160 →
    (a.content.kind = .hello → s.station.state = .joining → ∃ s', exec (.helloCompletes t acked) s = .next s'
        ∧ s' = { s with
          now := max s.now t, link := s'.link, console := s'.console
          station := { s.station with listen := some (max s.now t + 2000) } })
      ∧ (∀ b, a.content = .status b → ∃ s', exec (.statusCompletes t acked) s = .next s'
        ∧ s'.station.lastSentSeq = some b.seq ∧ s'.table.lastStatusDone = some (max s.now t)
        ∧ s'.table.entries = s.table.entries
        ∧ (s.onQuay = true → s'.table.selfSilent = false ∧ s'.table.watchDeadline = some (max s.now t + 1500))
        ∧ (s.onQuay = false → s'.table.selfSilent = s.table.selfSilent
          ∧ s'.table.watchDeadline = s.table.watchDeadline))
      ∧ (a.content.kind = .bye → s.station.state = .leaving → ∃ s', exec (.byeCompletes t acked) s = .next s'
        ∧ s'.station.state = .offline ∧ s'.link.urgent = [] ∧ s'.link.normal = [] ∧ s'.link.held = none
        ∧ s'.station.statusTimer = none ∧ s'.station.listen = none ∧ s'.table.watchDeadline = none
        ∧ s'.table.selfSilent = false ∧ s'.share.haltTimer = none ∧ s'.share.capTimer = none
        ∧ s'.claim.request = none ∧ (∀ j : StationNo, s'.share.intakeCaps[j] = none)
        ∧ (s.isUnloader = true → s'.gov.feed = 0 ∧ s'.gov.allowed = 0 ∧ s'.gov.timer = none)
        ∧ s'.share.ownHalt = s.share.ownHalt ∧ s'.share.halts = s.share.halts ∧ s'.share.grant = s.share.grant
        ∧ s'.table.entries = s.table.entries ∧ s'.station.config = s.station.config
        ∧ s'.plan = { s.plan with tallyTimer := none })

/-- R49, R50, R54, R57: an own RAISE that was not abandoned settles for 1.0 s, or yields at once under a halt or where
C - S - T is below 0; one abandoned while SENDING leaves a yield owed. An own LOWER makes G its new grant. With no lowering
in progress it clears an owed yield. It ends a lowering whose target it has reached and signals who waits on it (R54): a
station in LEAVING notes the drain and, where the release is complete too, offers its BYE (R175); an ENDING order makes the
release request that waited for the drain, goes on waiting for its release, or where that is complete passes to the finished
list, and the stack top or queue head becomes active (R134 to R136). A lowering whose target is still below goes on: where a
LOWER of that target waits no deadline runs, where the drain test passes that LOWER is offered, and otherwise the drain
deadline is set 15 s ahead (R53, R55).
(That a yield owed beside a lowering stays owed is log 16, DEDUCED.) -/
def Obligations.RaiseAndLowerComplete : Prop :=
  ∀ (t : Nat) (acked : Bool) (a : Attempt) (s : State), s.inReset = none → s.link.onLine = some a →
    s.link.txFaults ≤ 160 →
    (s.station.state = .active → s.link.txFaults ≤ 64) → (s.station.state = .degraded → 33 ≤ s.link.txFaults) →
    (∀ target current b, a.content = .raise target current → s.share.raise = .sending target b →
        ∃ s', exec (.raiseCompletes t acked) s = .next s' ∧ s'.share.grant = s.share.grant
          ∧ (b = none → s.halted = false → s.share.resv + target ≤ s.share.capacity →
            s'.share = { s.share with raise := .settling target (max s.now t + 1000) })
          ∧ (b.isSome = true ∨ s.halted = true ∨ s.share.capacity < s.share.resv + target →
            s'.share = { s.share with
              raise := .none
              yieldOwed := (b.isSome || s.transmits) || s.share.yieldOwed }))
      ∧ (∀ grant, a.content = .lower grant → ∃ s', exec (.lowerCompletes t acked) s = .next s'
        ∧ s'.share.grant = grant
        ∧ (s.share.lowering = none → s'.share = { s.share with grant := grant, yieldOwed := false })
        ∧ (∀ l, s.share.lowering = some l → grant ≤ l.target →
          let fin (o : OrderRecord) : List OrderRecord :=
            (if s.order.finished.length < 8 then s.order.finished else s.order.finished.tail) ++ [o]
          let next (b : Option BlockedReason) (x : OrderRecord) : Option OrderRecord :=
            some { x with state := .claiming, held := Held.none, blocked := b }
          s'.share = { s.share with grant := grant, lowering := none }
            ∧ (l.waitStation = true → s.station.state = .leaving → s'.station = { s.station with leaveDrain := true }
              ∧ (s.station.leaveRelease = true → .bye 1 ∈ s'.link.normal))
            ∧ (l.waitStation = false ∨ s.station.state ≠ .leaving → s'.station = s.station)
            ∧ (l.waitOrder = false → s'.order = s.order ∧ s'.claim = s.claim)
            ∧ (l.waitOrder = true → ∀ o, s.order.active = some o →
              (o.state ≠ .ending → s'.order = s.order ∧ s'.claim = s.claim)
                ∧ (o.state = .ending → s.order.endReleasePending = true →
                  let asked : OrderUnit :=
                    { s.order with endDrained := true, endReleasePending := false, releaseOut := true }
                  (s.claim.phase = .settled → s'.order = asked
                      ∧ s'.claim = { s.claim with
                        phase := .releasing, settle := none, waitOrder := true, releaseOwed := !s.transmits }
                      ∧ (∀ b, s.claim.own = some b → s.transmits = true → .release b.hold b.slot ∈ s'.link.normal))
                    ∧ (s.claim.phase = .releasing → s'.order = asked ∧ s'.claim = { s.claim with waitOrder := true }))
                ∧ (o.state = .ending → s.order.endReleasePending = false → s.order.releaseOut = true →
                  s'.order = { s.order with endDrained := true } ∧ s'.claim = s.claim)
                ∧ (o.state = .ending → s.order.endReleasePending = false → s.order.releaseOut = false →
                  s.order.incoming = none → ∀ e r, o.endState = some e → o.endReason = some r →
                  let u : OrderUnit :=
                    { s.order with endDrained := true, active := none, finished := fin { o with state := e.orderState } }
                  (s.order.stack = [] → s.order.queue = [] → s'.order = u ∧ s'.claim = s.claim)
                    ∧ (∀ x rest, s.order.stack = x :: rest → (∀ q ∈ s.order.queue.head?, q.priority ≤ x.priority) →
                      ∃ b, s'.order = { u with stack := rest, active := next b x })
                    ∧ (∀ x rest, s.order.queue = x :: rest → (∀ y ∈ s.order.stack.head?, y.priority < x.priority) →
                      ∃ b, s'.order = { u with queue := rest, active := next b x }))))
        ∧ (∀ l, s.share.lowering = some l → l.target < grant →
          let waits := .lower l.target ∈ s.link.normal ∨ s.link.held = some (.lower l.target)
          let passes := ∃ f, s.share.feed = some f ∧ f ≤ l.target + 10
          ∃ d, s'.share = { s.share with grant := grant, lowering := some { l with deadline := d } }
            ∧ (waits ∨ s.transmits = false → d = none)
            ∧ (¬ waits → s.transmits = true → passes → d = none ∧ .lower l.target ∈ s'.link.normal)
            ∧ (¬ waits → s.transmits = true → ¬ passes → d = some (max s.now t + 15000))))

/-- R101, R109, R112, R118: an own CLAIM that completes takes its claim time and ends its request, and settles for 1.0 s
where no conflict is found and no withdrawal was recorded; with one recorded it passes to RELEASING. An own RELEASE that
completes removes the claim and its time, offers the TALLY on release, and with no waiter examines the request that
waited: its CLAIM is offered, or its blocked reason recorded; with no request the phase stays NONE. -/
def Obligations.ClaimAndReleaseComplete : Prop :=
  ∀ (t : Nat) (acked : Bool) (a : Attempt) (s : State), s.inReset = none → s.link.onLine = some a →
    s.link.txFaults ≤ 160 →
    (s.station.state = .active → s.link.txFaults ≤ 64) → (s.station.state = .degraded → 33 ≤ s.link.txFaults) →
    (∀ b, a.content = .claim b → s.claim.own = some b → s.claim.phase = .sending →
        ∃ s', exec (.claimCompletes t acked) s = .next s'
        ∧ (s.claim.withdrawn = false → (∀ j, j ≠ s.own → s.conflictWith b j = none) →
          s'.claim = { s.claim with
            request := none, time := some (max s.now t), phase := .settling
            settle := some (max s.now t + 1000) })
        ∧ (s.claim.withdrawn = true → s'.claim = { s.claim with
            request := none, time := some (max s.now t), phase := .releasing, settle := none, withdrawn := false
            releaseOwed := !s.transmits }))
      ∧ (a.content.kind = .release → s.claim.waitOrder = false → s.claim.waitStation = false → s.claim.phase = .releasing →
        let claim : ClaimUnit := { s.claim with phase := .none, own := none, time := none, releaseOwed := false }
        ∃ s', exec (.releaseCompletes t acked) s = .next s' ∧ s'.share.grant = s.share.grant ∧ s'.plan = s.plan
        ∧ (s.claim.request = none → s'.claim = claim ∧ s'.order = s.order)
        ∧ (∀ r b, s.claim.request = some r → s.claimBlocked r = some b →
          s'.claim = { claim with request := some { r with blocked := some b } } ∧ s'.order = s.order.setBlocked (some b))
        ∧ (∀ r x, s.claim.request = some r → s.claimBlocked r = none → s.machine.position = some x →
          s'.claim = { claim with
            request := some { r with blocked := none }, phase := .queued, withdrawn := false
            own := some ⟨r.hold, r.slot, x, r.pos⟩ }
          ∧ s'.order = s.order.setBlocked none ∧ .claim ⟨r.hold, r.slot, x, r.pos⟩ ∈ s'.link.normal)
        ∧ (∀ r, s.onQuay = true → s.readyPlan = some r → s.ownPairs ≠ [] → s.link.listCount < 4 →
          .tally ⟨r.id, s.ownPairs⟩ ∈ s'.link.normal))

/-- R117, R118, R126, R134 to R136, R139, R140, R175: an own RELEASE that completes signals its waiters. The station
controller notes it, and offers its BYE where the drain is finished. The order unit's release is then outstanding no
more: a CLAIMING order makes its request; an ENDING one whose drain is finished passes to the finished list, one whose
drain is not waits on; a SUSPENDING one passes to the finished list where an end is recorded, and to the stack
otherwise. The incoming order, or else the stack top or queue head of higher priority, the stack top on equal ones, then
becomes active and CLAIMING. The grant does not change. -/
def Obligations.ReleaseCompletionSignalsItsWaiters : Prop :=
  ∀ (t : Nat) (acked : Bool) (a : Attempt) (s : State), s.inReset = none → s.link.onLine = some a →
    a.content.kind = .release → s.claim.phase = .releasing → s.link.txFaults ≤ 160 →
    (s.station.state = .active → s.link.txFaults ≤ 64) → (s.station.state = .degraded → 33 ≤ s.link.txFaults) →
    let finished (o : OrderRecord) : List OrderRecord :=
      (if s.order.finished.length < 8 then s.order.finished else s.order.finished.tail) ++ [o]
    ∃ s', exec (.releaseCompletes t acked) s = .next s'
      ∧ s'.claim.waitOrder = false ∧ s'.claim.waitStation = false ∧ s'.claim.time = none
      ∧ s'.claim.releaseOwed = false ∧ s'.share.grant = s.share.grant
      ∧ (s'.claim.phase = .queued ∨ s'.claim.phase = .none ∧ s'.claim.own = none)
      ∧ (s.claim.waitStation = true → s.station.state = .leaving → s'.station.leaveRelease = true
        ∧ (s.station.leaveDrain = true → .bye 1 ∈ s'.link.normal))
      ∧ (s.claim.waitOrder = true →
        let follows (stack fin : List OrderRecord) : Prop :=
          (s.order.incoming = none → stack = [] → s.order.queue = [] → s'.order = { s.order with
              releaseOut := false, active := none, stack := [], finished := fin })
            ∧ (∀ i, s.order.incoming = some i → ∃ b, s'.order = { s.order with
              releaseOut := false, incoming := none, stack := stack, finished := fin
              active := some { i with state := .claiming, held := Held.none, blocked := b } })
            ∧ (∀ x rest, s.order.incoming = none → stack = x :: rest →
              (∀ q ∈ s.order.queue.head?, q.priority ≤ x.priority) → ∃ b, s'.order = { s.order with
                releaseOut := false, stack := rest, finished := fin
                active := some { x with state := .claiming, held := Held.none, blocked := b } })
            ∧ (∀ x rest, s.order.incoming = none → s.order.queue = x :: rest →
              (∀ y ∈ stack.head?, y.priority < x.priority) → ∃ b, s'.order = { s.order with
                releaseOut := false, stack := stack, queue := rest, finished := fin
                active := some { x with state := .claiming, held := Held.none, blocked := b } })
        s'.order.releaseOut = false
          ∧ ∀ o, s.order.active = some o →
            (o.state = .claiming → ∃ b, s'.order = { s.order with
                releaseOut := false, active := some { o with blocked := b } }
              ∧ s'.claim.request = some ⟨o.hold, o.slot, (s.planPos o.hold o.slot).getD 0, b⟩)
            ∧ (o.state = .ending → s.order.endDrained = false ∨ s.order.endReleasePending = true →
              s'.order = { s.order with releaseOut := false })
            ∧ (∀ e r, o.endState = some e → o.endReason = some r →
              o.state = .ending ∧ s.order.endDrained = true ∧ s.order.endReleasePending = false
                ∨ o.state = .suspending → follows s.order.stack (finished { o with state := e.orderState }))
            ∧ (o.state = .suspending → o.endState = none → follows
              ({ o with state := .suspended, held := Held.none, blocked := none } :: s.order.stack) s.order.finished))

/-! ### Expiries of timers (each is taken at its deadline, or at once where the clock has passed it, log 2) -/

/-- R27, R28, R33, R43, R48, R50: a PRESENT entry becomes SILENT 2.0 s after it was last heard and keeps everything; a SILENT one becomes
LOST at 10.0 s, its grant, pending raise and claim dropped; a pending raise ends after 2.0 s. Where S or C changes with it, the
own raise follows. An entry in another state runs no such timer (log 2). -/
def Obligations.PeerTimersChangeTheEntry : Prop :=
  ∀ (j : StationNo) (s : State), s.inReset = none →
    let e := s.entry j
    let becomes (c : Instr) (due : Nat) (e' : PeerEntry) : Prop :=
      ∃ s', exec c s = .next s' ∧ s.raiseFollowsView s' ∧ s'.mask = { s with
        now := max s.now due
        table := { s.table with entries := s.table.entries.set j.val e' j.isLt } }.mask
    (e.presence = .present → becomes (.peerSilent j) (e.lastHeard + 2000) { e with presence := .silent })
      ∧ (e.presence ≠ .present → exec (.peerSilent j) s = .next s)
      ∧ (e.presence = .silent → becomes (.peerLost j) (e.lastHeard + 10000)
        { e with presence := .lost, grant := 0, raise := none, claim := none })
      ∧ (e.presence ≠ .silent → exec (.peerLost j) s = .next s)
      ∧ (∀ r, e.raise = some r → becomes (.pendingRaiseExpiry j) (r.heard + 2000) { e with raise := none })
      ∧ (e.raise = none → exec (.pendingRaiseExpiry j) s = .next s)

/-- R37, R82, R129, R148: SELF_SILENT and MACHINE_SILENT, once their timers expire, are in force; an unloader's F and F_t
become 0 with that condition; silence of the machine takes away the own position, the baseline, the last sequence, the
measured feed and both choke timers. A stopped timer does nothing (log 2).
(That F_t's binding is then HOLD_OFF with that condition, also where it stops a RUNNING order, is the model's choice, log
15.) -/
def Obligations.SilenceStopsTheFeed : Prop :=
  ∀ (s : State), s.inReset = none →
    let clamped (s' : State) (h : HoldOff) : Prop :=
      s.isUnloader = true → s'.gov.feed = 0 ∧ s'.gov.target = 0 ∧ s'.gov.bindTarget = .holdOff h
    (∀ d, s.table.watchDeadline = some d → ∃ s', exec .selfSilent s = .next s' ∧ clamped s' .selfSilent
        ∧ s'.mask = { s with
          now := max s.now d, table := { s.table with selfSilent := true, watchDeadline := none } }.mask)
      ∧ (s.table.watchDeadline = none → exec .selfSilent s = .next s)
      ∧ (∀ d, s.machine.silenceTimer = some d → ∃ s', exec .machineSilent s = .next s' ∧ clamped s' .machineSilent
        ∧ s'.machine.chokeEntry = none ∧ s'.mask = { s with
          now := max s.now d
          machine := { s.machine with
            silent := true, silenceTimer := none, position := none, baseline := none, lastSeq := none
            chokeRecovery := none }
          share := { s.share with feed := none } }.mask)
      ∧ (s.machine.silenceTimer = none → exec .machineSilent s = .next s)

/-- R51, R42: at the settle deadline of a SETTLING raise G becomes T, and nothing else changes; no other command raises G in
a state whose LOWER frames on the line, held and queued each carry a grant of at most G, as every step keeps it
(LowersNeverRaiseTheGrant). -/
def Obligations.GrantRisesOnlyAtTheSettleDeadline : Prop :=
  (∀ (s : State) (target d : Nat), s.inReset = none → s.share.raise = .settling target d →
    exec .raiseSettleDeadline s = .next { s with
      now := max s.now d, share := { s.share with grant := target, raise := .none } })
    ∧ (∀ (c : Instr) (s s' : State), (∀ g ∈ s.link.lowers, g ≤ s.share.grant) → exec c s = .next s' →
      c ≠ .raiseSettleDeadline → s'.share.grant ≤ s.share.grant)

/-- R55, R58, R52: a drain that stalls is reported and its deadline set 15 s ahead; the release timer's expiry makes a
lower request with target A, which starts a lowering to A where A is below G and none is in progress. -/
def Obligations.DrainStallsAndGrantIsReleased : Prop :=
  ∀ (s : State), s.inReset = none →
    (∀ l d, s.share.lowering = some l → l.deadline = some d →
        exec .drainStall s = .next { s with
          now := max s.now d
          share := { s.share with lowering := some { l with deadline := some (max s.now d + 15000) } }
          console := if 2 ≤ s.station.reportLevel then s.console.enqueue ⟨.warning, .share, 13,
            [BitVec.ofNat 32 l.target, BitVec.ofNat 32 s.share.grant, BitVec.ofNat 32 (s.share.feed.getD 4294967295)]⟩
            else s.console })
      ∧ (∀ d, s.share.releaseTimer = some d → s.share.lowering = none → s.share.raise = .none →
        ∃ s', exec .releaseTimerExpiry s = .next s' ∧ s'.share.releaseTimer = none ∧ s'.share.grant = s.share.grant
          ∧ (s.gov.allowed < s.share.grant → ∃ x, s'.share.lowering = some ⟨s.gov.allowed, x, false, false, false⟩)
          ∧ (s.share.grant ≤ s.gov.allowed → s' = { s with
            now := max s.now d, share := { s.share with releaseTimer := none } }))

/-- R63, R67, R101, R105, R107, R173: each periodic timer that expires offers its frame and is set one period ahead: a HALT of
the own halt where fewer than 2 urgent frames stand, a CAPACITY, a TALLY of the own cells above 0, an own STATUS with every
field as its block supplies it: hold, slot and age of a claim that is SETTLING or SETTLED and 0 in any other phase, the own
cell of that hold under a READY plan, and the sequence of a STATUS queued, or one more than that of the STATUS on the line,
or one more than the last sent.
(That the frame on the line counts toward the 2 urgent frames is the model's choice, log 9.) -/
def Obligations.PeriodicTimersOfferTheirFrame : Prop :=
  ∀ (s : State) (d : Nat), s.inReset = none →
    let now := max s.now d
    (∀ h, s.share.haltTimer = some d → s.share.ownHalt = some h →
        exec .haltRepeat s = .next { s with
          now := now
          share := { s.share with haltTimer := some (now + 1000) }
          link := if s.transmits = true ∧ s.link.urgentCount < 2
            then { s.link with urgent := s.link.urgent ++ [.halt h.scope h.reason] } else s.link })
      ∧ (∀ c, s.share.capTimer = some d → s.share.beltCap = some c → s.transmits = true →
        exec .capacityRepeat s = .next { s with
          now := now
          share := { s.share with capTimer := some (now + 5000) }
          link := s.link.placeSingle (.capacity c) })
      ∧ (s.plan.tallyTimer = some d → ∃ s', exec .tallyTimerExpiry s = .next s'
        ∧ s' = { s with
          now := now, link := s'.link, console := s'.console
          plan := { s.plan with tallyTimer := some (now + 5000) } }
        ∧ (∀ r, s.readyPlan = some r → s.ownPairs ≠ [] → s.transmits = true → s.link.listCount < 4 →
          s'.link = { s.link with normal := s.link.normal ++ [.tally ⟨r.id, s.ownPairs⟩] })
        ∧ (s.readyPlan = none ∨ s.ownPairs = [] → s'.link = s.link))
      ∧ (s.station.statusTimer = some d → s.transmits = true → ∃ b, exec .statusTimerExpiry s = .next { s with
          now := now
          station := { s.station with statusTimer := some (now + 500) }
          link := s.link.placeSingle (.status b) }
        ∧ b.stateCode = s.station.state.code ∧ b.role = s.station.straps.role ∧ b.belt = s.station.straps.belt
        ∧ b.position = (if s.isIntake then none else s.machine.announced) ∧ b.grant = s.share.grant
        ∧ b.raiseTarget = (match s.share.raise with | .settling target _ => target | _ => 0)
        ∧ b.feed = s.share.feed.getD 0 ∧ b.allowed = s.gov.allowed ∧ b.halts = s.share.halts
        ∧ (∀ cfg, s.station.config = some cfg → b.capacity = cfg.capacity)
        ∧ b.planId = (match s.readyPlan with | some r => r.id | none => 0)
        ∧ (∀ c, s.claim.own = some c → s.claim.phase = .settling ∨ s.claim.phase = .settled → 1 ≤ c.hold →
          b.hold = c.hold ∧ b.slot = c.slot
            ∧ b.age = match s.claim.time with | some x => min 65535 ((now - x) / 1000) | none => 0)
        ∧ (s.claim.phase ≠ .settling → s.claim.phase ≠ .settled → b.hold = 0 ∧ b.slot = 0 ∧ b.age = 0)
        ∧ b.mass = (if b.hold ≠ 0 ∧ s.readyPlan.isSome = true then s.cell b.hold s.own else 0)
        ∧ (∀ before x rest, s.link.normal = before ++ .status x :: rest → (∀ f ∈ before, f.kind ≠ .status) → b.seq = x.seq)
        ∧ ((∀ f ∈ s.link.normal, f.kind ≠ .status) →
          (∀ a x, s.link.onLine = some a → a.content = .status x → b.seq = x.seq + 1#8)
            ∧ ((∀ a, s.link.onLine = some a → a.content.kind ≠ .status) → b.seq = match s.station.lastSentSeq with
              | some q => q + 1#8
              | none => 0#8)))

/-- R52, R58, R59, R61, R71, R79 to R81, R82, R151: an update records A as the least of the six terms and F_t as 0 under a hold-off
condition and as the least of A, G and L otherwise; F rises by at most 20 t/h and falls at once, and never passes A, G
or L, and F is handed to the machine output as a SETPOINT; the next update is 250 ms ahead; plan, table, halt set and
grant are kept. In ACTIVE and DEGRADED the release timer runs where A is at most G - 50 with no lowering and no raise,
and stops where A is above that, a lowering is in progress or the raise is not NONE; an overcommit with G above 0 requests a
lowering to G_s and sets the mark, and no overcommit clears it. While the halt set is non-empty with G above 0 and no lowering
in progress, and no shedding starts one, a lowering to 0 is started (R61). The machine term is Cm (R72).
(That the SETPOINT handed over carries F before the lowering of an overcommit clamps it is log 28, DEDUCED: R71 allows either
order. That a QUEUED raise is reviewed before the release timer, which then runs where the raise has ended, is log 28 too.) -/
def Obligations.GovernorUpdateFormsTheFeed : Prop :=
  ∀ (s : State) (d : Nat), s.inReset = none → s.gov.timer = some d →
    let demand := match s.discharging with | some o => o.demand | none => 0
    let total := s.share.resv + s.share.grant
    let shed := s.share.grant - ((total - s.share.capacity) * s.share.grant + (total - 1)) / total
    ∃ s', exec .governorUpdate s = .next s'
      ∧ s'.gov.timer = some (max s.now d + 250)
      ∧ s'.gov.allowed = min (min (min (min (min demand s'.gov.taper) s'.gov.balance) s'.gov.trim) s'.gov.machineCap) 1500
      ∧ s'.gov.machineCap = (match s.machine.last with
        | some m => if m.ready = true ∧ s.machine.silent = false then m.capacity else 0
        | none => 0)
      ∧ (∀ o r, s.discharging = some o → s.readyPlan = some r →
        s'.gov.taper = taperTerm o.demand (o.target - o.done) (s.configNat (·.taperMass)))
      ∧ (let off := s.halted = true ∨ s.onQuay = false ∨ s.table.selfSilent = true ∨ s.machine.silent = true
          ∨ s.machine.choke = true ∨ s.running = false ∨ s'.gov.balance = 0 ∨ s'.gov.trim = 0
        let least := match s.share.lowering with
          | some l => min (min s'.gov.allowed s.share.grant) l.target
          | none => min s'.gov.allowed s.share.grant
        let next := if s.gov.feed < least then min least (s.gov.feed + 20) else least
        (off → s'.gov.feed = 0 ∧ s'.gov.target = 0 ∧ (∃ h, s'.gov.bindTarget = .holdOff h)
            ∧ (s.machine.sending = none → s'.machine.sending = some (.setpoint 0)))
          ∧ (¬ off → s'.gov.target = least ∧ s'.gov.feed ≤ least ∧ s'.gov.feed ≤ s.gov.feed + 20
            ∧ (total ≤ s.share.capacity → s'.gov.feed = next)
            ∧ (s.machine.sending = none → s'.machine.sending = some (.setpoint next))))
      ∧ (s'.machine.sending = some (.setpoint s'.gov.feed) ∨ .setpoint s'.gov.feed ∈ s'.machine.waiting)
      ∧ (s.isUnloader = true → s.working = true → s'.gov.allowed + 50 ≤ s.share.grant → s.share.lowering = none →
        (s.share.raise = .none ∨ ∃ old, s.share.raise = .queued old) → total ≤ s.share.capacity → s.halted = false →
        s'.share.releaseTimer = some (s.share.releaseTimer.getD (max s.now d + 10000)))
      ∧ (s.working = false ∨ s.share.grant < s'.gov.allowed + 50 ∨ s.share.lowering.isSome = true →
        s'.share.releaseTimer = none)
      ∧ (s.share.raise ≠ .none → (∀ old, s.share.raise ≠ .queued old) → s'.share.releaseTimer = none)
      ∧ (s'.share.raise ≠ .none → s'.share.releaseTimer = none)
      ∧ (s.isUnloader = true → s.working = true → s.share.capacity < total → 0 < s.share.grant →
        s'.share.overcommit = true
          ∧ (s.share.lowering = none → ∃ x, s'.share.lowering = some ⟨shed, x, false, false, false⟩)
          ∧ (∀ l, s.share.lowering = some l →
            ∃ x, s'.share.lowering = some { l with target := min l.target shed, deadline := x }))
      ∧ (s.isUnloader = true → s.working = true → total ≤ s.share.capacity → s'.share.overcommit = false)
      ∧ (s.isUnloader = true → s.halted = true → 0 < s.share.grant → s.share.lowering = none →
        s.working = false ∨ total ≤ s.share.capacity → s.startsLoweringToZero s')
      ∧ s'.plan = s.plan ∧ s'.table = s.table ∧ s'.share.halts = s.share.halts ∧ s'.share.grant = s.share.grant

/-- R72, R74, R76, R77, R78, R84, R85, R86: at an update with a DISCHARGING order under a READY plan, r_bal and r_trim in numbers.
X of a hold is the sum of the own column and of the columns of peers with the own plan id, R is P less X and not below 0. With
Dadj 0 or one hold r_bal is 1 500; otherwise, B being the least of Dadj - (R_n - R_h) over the neighbours n of h, it is 0 where B
is not above 0 and min(1 500, floor(36 B / 10 Lh)) where it is. Q is the sum of X times lever over all holds. With Tmax 0 or a
lever of 0 r_trim is 1 500; otherwise, W being Tmax x 10 000 less Q for a lever above 0 and plus Q below it, it is 0 where W is not
above 0 and min(1 500, floor(36 floor(W / |lever|) / 10 Lh)) where it is; Q and W are recorded. A balance or trim term of 0
closes the hold limit and holds the order, and both above 0 open it again; with no such order both terms are 1 500 and
the limit opens, the active order as it was. -/
def Obligations.HoldLimitFollowsBalanceAndTrim : Prop :=
  ∀ (s : State) (d : Nat), s.inReset = none → s.gov.timer = some d →
    ∃ s', exec .governorUpdate s = .next s'
      ∧ (∀ o r, s.discharging = some o → s.readyPlan = some r →
        s'.gov.balance = s.balanceTerm r o.hold
          ∧ s'.gov.trim = trimTerm (trimRoom r.tmax (r.lever o.hold) (s.dischargedMoment r)) (r.lever o.hold)
            (s.configNat (·.horizon))
          ∧ (let discharged (h : Nat) : Nat :=
              (stations.map (fun j => if j = s.own ∨ (s.entry j).planId = r.id then s.cell h j else 0)).sum
            let remaining (h : Nat) : Nat := ((r.hold h).map (fun e => e.mass)).getD 0 - discharged h
            let lever (h : Nat) : Int := ((r.hold h).map (fun e => e.lever)).getD 0
            let spread (mass : Nat) : Nat := min 1500 (36 * mass / (10 * s.configNat (·.horizon)))
            let next (n : Nat) : Prop := 1 ≤ n ∧ n ≤ r.count ∧ (n + 1 = o.hold ∨ n = o.hold + 1)
            let room (n : Nat) : Int := (r.dadj : Int) - ((remaining n : Int) - remaining o.hold)
            let q : Int := (([1, 2, 3, 4, 5, 6, 7, 8, 9, 10, 11, 12].filter (fun h => decide (h ≤ r.count))).map
              (fun h => (discharged h : Int) * lever h)).sum
            let w : Int := if 0 < lever o.hold then (r.tmax : Int) * 10000 - q else (r.tmax : Int) * 10000 + q
            (r.dadj = 0 ∨ r.count = 1 → s'.gov.balance = 1500)
              ∧ (r.dadj ≠ 0 → r.count ≠ 1 → ∀ n, next n → (∀ k, next k → room n ≤ room k) →
                s'.gov.balance = if room n ≤ 0 then 0 else spread (room n).toNat)
              ∧ s'.gov.moment = some q
              ∧ (r.tmax = 0 ∨ lever o.hold = 0 → s'.gov.trim = 1500 ∧ s'.gov.room = s.gov.room)
              ∧ (r.tmax ≠ 0 → lever o.hold ≠ 0 → s'.gov.room = some w
                ∧ s'.gov.trim = if w ≤ 0 then 0 else spread (w.toNat / (lever o.hold).natAbs)))
          ∧ (s'.gov.balance = 0 ∨ s'.gov.trim = 0 → s'.gov.limit = some (if s'.gov.balance = 0 ∧ s'.gov.trim = 0
            then .both else if s'.gov.balance = 0 then .balance else .trim))
          ∧ (s'.gov.balance = 0 ∨ s'.gov.trim = 0 → s.gov.limit = none →
            s'.order.active = some { o with held := { o.held with limit := true } } ∧ s'.order.exhaustTimer = none)
          ∧ (s'.gov.balance ≠ 0 → s'.gov.trim ≠ 0 → s'.gov.limit = none ∧ (s.gov.limit ≠ none →
            s'.order.active = some { o with held := { o.held with limit := false } })))
      ∧ (s.discharging = none ∨ s.readyPlan = none → s'.gov.balance = 1500 ∧ s'.gov.trim = 1500
        ∧ s'.gov.limit = none ∧ s'.order.active = s.order.active)

/-- R75: the taper. -/
def Obligations.TaperSlowsTheFeedNearTheTarget : Prop :=
  ∀ d m k : Nat,
    (d = 0 → taperTerm d m k = 0)
      ∧ (0 < d → k = 0 ∨ k ≤ m → taperTerm d m k = d)
      ∧ (0 < d → 0 < k → m < k → taperTerm d m k = max (min d 50) (d * m / k))
      ∧ (0 < d → min d 50 ≤ taperTerm d m k ∧ taperTerm d m k ≤ d)
      ∧ (d < 50 → taperTerm d m k = d)

/-- R47, R48: at an update with no raise, where every condition holds and I is 10 or more the RAISE is offered with target
G + I and current grant G and the phase is QUEUED; where a condition fails, or I is below 10, no raise starts; T is at
most A and at most C - S. A QUEUED raise is re-examined: it ends, its RAISE withdrawn, where a condition of R48 holds, and
has target G + I otherwise. A is the allowed rate of that update. -/
def Obligations.RaiseStartsUnderEveryCondition : Prop :=
  ∀ (s : State) (d : Nat), s.inReset = none → s.gov.timer = some d →
    ∃ s', exec .governorUpdate s = .next s'
      ∧ (let i : Int := min (min ((s'.gov.allowed : Int) - s.share.grant) 200)
          ((s.share.capacity : Int) - s.share.resv - s.share.grant)
        let stands := s.station.state = .active ∧ s.link.rxPoor = false ∧ s.share.lowering = none ∧ s.halted = false
          ∧ s.share.grant < s'.gov.allowed ∧ 10 ≤ i
        (s.share.raise = .none → s.isUnloader = true → s.share.yieldOwed = false → stands →
            ∃ target : Nat, (target : Int) = s.share.grant + i ∧ target ≤ s'.gov.allowed
              ∧ s.share.resv + target ≤ s.share.capacity ∧ s'.share.raise = .queued target
              ∧ s'.link = s.link.placeSingle (.raise target s.share.grant))
          ∧ (s.share.raise = .none → ¬ (s.isUnloader = true ∧ s.share.yieldOwed = false ∧ stands) →
            s'.share.raise = .none ∧ ∀ c ∈ s'.link.normal, c.kind = .raise → c ∈ s.link.normal)
          ∧ (∀ old, s.share.raise = .queued old →
            (stands → ∃ target : Nat, (target : Int) = s.share.grant + i ∧ s'.share.raise = .queued target
              ∧ s'.link = if target = old then s.link else s.link.placeSingle (.raise target s.share.grant))
              ∧ (¬ stands → s'.share.raise = .none ∧ ∀ c ∈ s'.link.normal, c.kind ≠ .raise)))

/-- R115, R126 to R129: a SETTLING claim settles; an order that is CLAIMING then discharges where the nozzle stands at its
slot, its held reasons formed from the conditions as they stand, and travels otherwise, a MOVE to the slot handed over
and 600 s allowed. An order in another state is not changed. -/
def Obligations.SettledClaimStartsTravelOrDischarge : Prop :=
  ∀ (s : State) (d : Nat), s.inReset = none → s.claim.settle = some d → s.claim.phase = .settling →
    let claim : ClaimUnit := { s.claim with phase := .settled, settle := none }
    let now := max s.now d
    (∀ o, s.order.active = some o → o.state = .claiming → (∃ m, s.machine.last = some m ∧ m.hold = o.hold ∧ m.slot = o.slot) →
        exec .claimSettleDeadline s = .next { s with
          now := now, claim := claim
          order := { s.order with
            active := some { o with
              state := .discharging, blocked := none
              held := ⟨s.halted, s.machine.choke, false, s.machine.silent || s.machineFaulted,
                !s.onQuay || s.table.selfSilent⟩ }
            travelTimer := none, exhaustTimer := none } })
      ∧ (∀ o, s.order.active = some o → o.state = .claiming → s.machine.sending = none →
        (∀ m, s.machine.last = some m → ¬ (m.hold = o.hold ∧ m.slot = o.slot)) →
        exec .claimSettleDeadline s = .next { s with
          now := now, claim := claim
          order := { s.order with
            active := some { o with state := .travelling, blocked := none }, travelTimer := some (now + 600000) }
          machine := { s.machine with sending := some (.move ((s.planPos o.hold o.slot).getD 0) o.hold o.slot) } })
      ∧ ((∀ o, s.order.active = some o → o.state ≠ .claiming) →
        exec .claimSettleDeadline s = .next { s with now := now, claim := claim })

/-- R106, R108 to R112: a claim request made by an ORDER is tested by the conditions of R109 in their order, of which the
first that fails is its blocked reason; where all hold its CLAIM is offered from x and the phase is QUEUED. A request that
waits in NONE is tested so again when OVERRIDE_CLEAR changes the halt set. A CLAIM QUEUED when a HALT joins the halt set
is withdrawn, its request blocked.
(That intake entries with a claim or a position count is the model's choice, log 34.) -/
def Obligations.ClaimIsOfferedOrBlocked : Prop :=
  (∀ (t : Nat) (tag : BitVec 16) (p : Bytes) (a : OrderArgs) (r : PlanRecord) (s : State), s.inReset = none →
    s.console.waiting.length < 4 → s.isUnloader = true → s.station.state ≠ .leaving → s.readyPlan = some r →
    readOrder p = some a → a.tag ≠ 0 → 1 ≤ a.hold → a.hold ≤ r.count → (s.planPos a.hold a.slot).isSome = true →
    1 ≤ a.target → a.target ≤ 40000000 → a.priority ≤ 7 → s.tagHeld a.tag = false →
    s.order.active = none → s.order.releaseOut = false → s.claim.phase = .none →
    let goal := (s.planPos a.hold a.slot).getD 0
    let spacing : Int := s.configNat (·.spacing)
    let heard (e : PeerEntry) : Prop := e.presence = .present ∨ e.presence = .silent
    let link := s.station.state = .active ∧ s.link.rxPoor = false
    let seen := s.machine.position.isSome = true ∧ ∀ j, j ≠ s.own → heard (s.entry j) →
      ((s.entry j).role ≠ some .intake → (s.entry j).position.isSome = true)
        ∧ ∀ c, (s.entry j).claim = some c → c.target.isSome = true
    let free := ∀ j, j ≠ s.own → heard (s.entry j) → ∀ c, (s.entry j).claim = some c →
      ¬ (c.hold = a.hold ∧ c.slot = a.slot)
    let clear := ∀ x, s.machine.position = some x → ∀ j, j ≠ s.own → ∀ y, (s.entry j).position = some y →
      let z := match (s.entry j).claim with | some c => c.target.getD y | none => y
      ((max y z : Nat) : Int) < (min x goal : Nat) - spacing ∨ (max x goal : Nat) + spacing < ((min y z : Nat) : Int)
    let blocks (b : BlockedReason) : Prop := ∃ s', exec (.order t tag p) s = .next s' ∧ s'.link = s.link
      ∧ s'.claim = { s.claim with request := some ⟨a.hold, a.slot, goal, some b⟩ }
      ∧ ∃ o, s'.order.active = some o ∧ o.blocked = some b
    (¬ link → blocks .link)
      ∧ (link → s.halted = true → blocks .halted)
      ∧ (link → s.halted = false → ¬ seen → blocks .viewIncomplete)
      ∧ (link → s.halted = false → seen → ¬ free → blocks .slotTaken)
      ∧ (link → s.halted = false → seen → free → ¬ clear → blocks .pathBlocked)
      ∧ (link → s.halted = false → seen → free → clear → ∀ x, s.machine.position = some x →
        ∃ s', exec (.order t tag p) s = .next s' ∧ s'.link = s.link.placeSingle (.claim ⟨a.hold, a.slot, x, goal⟩)
          ∧ s'.claim = { s.claim with
            request := some ⟨a.hold, a.slot, goal, none⟩, phase := .queued, own := some ⟨a.hold, a.slot, x, goal⟩
            withdrawn := false }))
    ∧ (∀ (t : Nat) (tag : BitVec 16) (r : ClaimRequest) (s : State), s.inReset = none → s.console.waiting.length < 4 →
      s.claim.phase = .none → s.claim.request = some r →
      let free : State := { s with share := { s.share with halts := 0#16 } }
      ∃ s', exec (.overrideClear t tag []) s = .next s'
        ∧ (∀ b, free.claimBlocked r = some b → s'.link = s.link
          ∧ s'.claim = { s.claim with request := some { r with blocked := some b } })
        ∧ (∀ x, free.claimBlocked r = none → s.machine.position = some x →
          s'.link = s.link.placeSingle (.claim ⟨r.hold, r.slot, x, r.pos⟩)
            ∧ s'.claim = { s.claim with
              request := some { r with blocked := none }, phase := .queued, own := some ⟨r.hold, r.slot, x, r.pos⟩
              withdrawn := false }))
    ∧ (∀ (t : Nat) (j : StationNo) (p : Bytes) (n : Nat) (r : ClaimRequest) (s : State), s.inReset = none →
      s.listens = true → j ≠ s.own → readReason p = some n → 1 ≤ n → n ≤ 100 → haltMember s.share.halts j = false →
      s.claim.phase = .queued → s.claim.request = some r → ∃ s', exec (.haltTaken t j 31#5 p) s = .next s'
        ∧ s'.claim = { s.claim with
          phase := .none, own := none, withdrawn := s'.claim.withdrawn
          request := some { r with
            blocked := some (if s.station.state = .active ∧ s'.link.rxPoor = false then .halted else .link) } }
        ∧ ∀ c ∈ s'.link.normal, c.kind ≠ .claim)

/-- R113, R114, R116, R133: a SETTLING or SETTLED claim conflicts with a peer of the same slot or in its path. It yields to
every peer found at the completion of its own CLAIM; never to the peer whose CLAIM is being taken; and at a STATUS to a
peer that holds no claim, to an older claim, and on equal ages to a peer of the lower station number. Yielding stops
travel, requests a lowering to 0, releases the claim, and returns a TRAVELLING or DISCHARGING order to CLAIMING, its feed
at 0, with the release outstanding; keeping changes neither claim nor order. -/
def Obligations.ClaimYieldsToConflicts : Prop :=
  (∀ (t : Nat) (acked : Bool) (a : Attempt) (b : ClaimBody) (s : State), s.inReset = none → s.link.onLine = some a →
    a.content = .claim b → s.claim.own = some b → s.claim.phase = .sending → s.claim.withdrawn = false →
    s.link.txFaults ≤ 160 → (s.station.state = .active → s.link.txFaults ≤ 64) →
    (s.station.state = .degraded → 33 ≤ s.link.txFaults) → (∃ j, j ≠ s.own ∧ s.conflictWith b j ≠ none) →
    ∃ s', exec (.claimCompletes t acked) s = .next s'
      ∧ s'.claim = { s.claim with
        request := none, time := some (max s.now t), phase := .releasing, settle := none
        releaseOwed := !s.transmits, waitOrder := s'.claim.waitOrder }
      ∧ (s.transmits = true → .release b.hold b.slot ∈ s'.link.normal) ∧ s'.share.grant = s.share.grant
      ∧ (∀ o, s.order.active = some o → o.state = .claiming →
        s'.order = { s.order with releaseOut := true } ∧ s'.claim.waitOrder = true)
      ∧ (s.share.lowering = none → 0 < s.share.grant → ∃ l, s'.share.lowering = some l ∧ l.target = 0)
      ∧ (∀ x, s.machine.position = some x → s.machine.sending = none →
        s'.machine.sending = some (.move x s.nozzle.1 s.nozzle.2)))
    ∧ (∀ (t : Nat) (j : StationNo) (p : Bytes) (b : StatusBody) (c : ClaimBody) (tm : Nat) (s : State), s.inReset = none →
      s.listens = true → j ≠ s.own → readStatus p = some b → b.good = true →
      s.claim.phase = .settling ∨ s.claim.phase = .settled → s.claim.own = some c → s.claim.time = some tm →
      ∃ s', exec (.statusTaken t j p) s = .next s'
        ∧ (∀ i, s'.conflictWith c i ≠ none ↔
          ((s'.entry i).presence = .present ∨ (s'.entry i).presence = .silent)
              ∧ (∃ q, (s'.entry i).claim = some q ∧ q.hold = c.hold ∧ q.slot = c.slot)
            ∨ ∃ x y, s.machine.position.or s.machine.announced = some x ∧ (s'.entry i).position = some y
              ∧ (let z := match (s'.entry i).claim with | some q => q.target.getD y | none => y
                let spacing : Int := s.configNat (·.spacing)
                (min x c.toPos : Nat) - spacing ≤ ((max y z : Nat) : Int)
                  ∧ ((min y z : Nat) : Int) ≤ (max x c.toPos : Nat) + spacing))
        ∧ (let older (i : StationNo) : Prop := ∀ q, (s'.entry i).claim = some q →
            let own := min 65535 ((s'.now - tm) / 1000)
            let peer := min 65535 (q.age + (s'.now - q.receipt) / 1000)
            own < peer ∨ own = peer ∧ i < s.own
          ((∃ i, i ≠ s.own ∧ s'.conflictWith c i ≠ none ∧ older i) →
            s'.claim = { s.claim with
                phase := .releasing, settle := none, releaseOwed := !s.transmits, waitOrder := s'.claim.waitOrder }
              ∧ (s.transmits = true → .release c.hold c.slot ∈ s'.link.normal) ∧ s'.share.grant = s.share.grant
              ∧ (∀ o, s.order.active = some o → o.state = .travelling ∨ o.state = .discharging →
                s'.order = { s.order with
                  active := some { o with
                    state := .claiming, held := if o.state = .discharging then Held.none else o.held }
                  travelTimer := if o.state = .travelling then none else s.order.travelTimer
                  exhaustTimer := if o.state = .discharging then none else s.order.exhaustTimer
                  releaseOut := true }
                ∧ s'.claim.waitOrder = true ∧ (s.isUnloader = true → s.running = true → s'.gov.feed = 0)))
            ∧ ((∀ i, i ≠ s.own → s'.conflictWith c i ≠ none → ¬ older i) →
              s'.claim = s.claim ∧ s'.order = s.order)))
    ∧ (∀ (t : Nat) (j : StationNo) (p : Bytes) (b c : ClaimBody) (s : State), s.inReset = none →
      s.listens = true → j ≠ s.own → readClaim p = some b → b.good = true →
      s.claim.phase = .settling ∨ s.claim.phase = .settled → s.claim.own = some c →
      ∃ s', exec (.claimTaken t j p) s = .next s'
        ∧ ((∀ i, i ≠ s.own → i ≠ j → s'.conflictWith c i = none) → s'.claim = s.claim ∧ s'.order = s.order))

/-- R128, R131, R134: the travel timer ends a TRAVELLING order FAILED by TRAVEL_TIMEOUT, its release begun at once; the
exhaustion timer ends a DISCHARGING one EXHAUSTED by FEED_LOW, its feed at 0 and its release waiting for the drain. -/
def Obligations.TravelAndExhaustionEndTheOrder : Prop :=
  ∀ (s : State) (d : Nat) (o : OrderRecord), s.inReset = none → s.order.active = some o →
    (s.order.travelTimer = some d → o.state = .travelling → s.claim.phase = .settled → s.share.lowering = none →
        0 < s.share.grant → s.share.raise = .none →
        ∃ s', exec .travelTimeout s = .next s' ∧ s'.order.travelTimer = none ∧ s'.claim.phase = .releasing
          ∧ s'.order.releaseOut = true ∧ s'.order.active = some { o with
            state := .ending, held := Held.none, blocked := none
            endState := some .failed, endReason := some .travelTimeout }
          ∧ (∃ x, s'.share.lowering = some ⟨0, x, true, false, false⟩) ∧ s'.share.grant = s.share.grant)
      ∧ (s.order.exhaustTimer = some d → o.state = .discharging → s.share.lowering = none → 0 < s.share.grant →
        s.share.raise = .none → ∃ s', exec .exhaustionTimerExpiry s = .next s' ∧ s'.order.exhaustTimer = none
          ∧ s'.claim = s.claim ∧ s'.order.active = some { o with
            state := .ending, held := Held.none, blocked := none
            endState := some .exhausted, endReason := some .feedLow }
          ∧ s'.order.endReleasePending = true ∧ (s.isUnloader = true → s.running = true → s'.gov.feed = 0)
          ∧ (∃ x, s'.share.lowering = some ⟨0, x, true, false, false⟩) ∧ s'.share.grant = s.share.grant)

/-- R19, R37, R67, R68, R101, R172, R173: the end of the listen takes a station to ACTIVE, or at once to DEGRADED at a count of 64 or
more; the STATUS timer, the self-silence watch and, with a READY plan, the TALLY timer start; a STATUS is offered and JOINED
reported; the grant, the plan and the table entries are kept. An intake with an announced belt capacity offers a CAPACITY and
its repeat is 5.0 s ahead; one whose belt was found stopped, with no own halt in force, originates a halt of scope BELT and
reason BELT_TRIP, its HALT queued where the urgent queue has room; none of this in the unloader role.
(That the frame on the line counts toward the 2 urgent frames is log 9, DEDUCED.) -/
def Obligations.ListenEndsInActive : Prop :=
  ∀ (s : State) (d : Nat), s.inReset = none → s.station.listen = some d → s.station.state = .joining →
    s.link.txFaults < 160 →
    let now := max s.now d
    ∃ s', exec .listenTimerExpiry s = .next s'
      ∧ s'.station.state = (if 64 ≤ s.link.txFaults then .degraded else .active)
      ∧ s'.station.listen = none ∧ s'.station.statusTimer = some (now + 500)
      ∧ s'.table = { s.table with watchStart := some now, watchDeadline := some (now + 1500) }
      ∧ s'.plan = { s.plan with tallyTimer := if s.readyPlan.isSome then some (now + 5000) else s.plan.tallyTimer }
      ∧ (s.link.onLine = none → ∃ b, Content.status b ∈ s'.link.normal)
      ∧ s'.share.grant = s.share.grant ∧ s'.station.config = s.station.config
      ∧ (∀ c, s.station.helloCause = some c → 3 ≤ s.station.reportLevel → s.console.reports.length ≤ 12 →
        ⟨.info, .station, 33, [BitVec.ofNat 32 c.code]⟩ ∈ s'.console.reports)
      ∧ (let offers := s.isIntake = true ∧ s.share.beltCap.isSome = true
        let trips := s.isIntake = true ∧ s.share.beltRunning = some false ∧ s.share.ownHalt = none
        (∀ c, s.isIntake = true → s.share.beltCap = some c → s'.share.capTimer = some (now + 5000)
            ∧ (.capacity c ∈ s'.link.normal ∨ s'.link.held = some (.capacity c)))
          ∧ (¬ offers → s'.share.capTimer = s.share.capTimer
            ∧ ∀ f ∈ s'.link.normal, f.kind = .capacity → f ∈ s.link.normal)
          ∧ (trips → s'.share.ownHalt = some ⟨.belt, 100⟩ ∧ s'.share.haltTimer = some (now + 1000)
            ∧ s'.share.halts = s.share.halts ||| BitVec.ofNat 16 (2 ^ s.own.val)
            ∧ s'.link.urgent = if s.link.urgentCount < 2 then s.link.urgent ++ [.halt .belt 100] else s.link.urgent)
          ∧ (¬ trips → s'.share.ownHalt = s.share.ownHalt ∧ s'.share.haltTimer = s.share.haltTimer
            ∧ s'.share.halts = s.share.halts ∧ s'.link.urgent = s.link.urgent))

/-- R159 to R161, R82, R132: the entry timer's expiry puts a choke in force: its time joins the history of three, F and F_t
become 0, a DISCHARGING order that does not end is held; the third choke within 600 s, also where the history already held
three times, ends it FAILED by CHOKE_REPEAT, and no other choke ends it. The recovery timer's expiry clears the choke and
leaves F as it is. -/
def Obligations.ChokeStopsTheFeedAndClears : Prop :=
  ∀ (s : State) (d : Nat), s.inReset = none → s.isUnloader = true →
    let now := max s.now d
    (s.machine.chokeEntry = some d → s.claim.phase = .settled → ∃ s', exec .choke s = .next s'
        ∧ s'.machine.choke = true ∧ s'.machine.chokeEntry = none ∧ s'.machine.chokeRecovery = none
        ∧ s'.machine.history = (if s.machine.history.length < 3 then s.machine.history else s.machine.history.tail) ++ [now]
        ∧ s'.gov.feed = 0 ∧ s'.gov.target = 0
        ∧ (∀ o, s.order.active = some o → o.state = .discharging → ∃ o', s'.order.active = some o'
          ∧ ((o'.state = .discharging ∧ o'.held.choke = true) ∨ (o'.endState = some .failed ∧ o'.endReason = some .chokeRepeat)))
        ∧ (∀ o, s.order.active = some o → o.state = .discharging →
          (∀ before a b, s.machine.history = before ++ [a, b] → before.length ≤ 1 → now ≤ a + 600000 →
              ∃ o', s'.order.active = some o' ∧ o'.state = .ending ∧ o'.endState = some .failed
                ∧ o'.endReason = some .chokeRepeat)
            ∧ (s.machine.history.length ≤ 1
                ∨ (∃ before a b, s.machine.history = before ++ [a, b] ∧ before.length ≤ 1 ∧ a + 600000 < now) →
              ∃ o', s'.order.active = some o' ∧ o' = { o with held := o'.held } ∧ o'.held.choke = true)))
      ∧ (s.machine.chokeRecovery = some d → ∃ s', exec .chokeCleared s = .next s'
        ∧ s' = { s with
          now := now
          machine := { s.machine with choke := false, chokeRecovery := none }
          order := s'.order, console := s'.console }
        ∧ (∀ o, s'.order.active = some o → o.state = .discharging → o.held.choke = false))

/-! ### The machine link and the console line -/

/-- R145, R146, R151, R178, R179: each failed machine-link frame, and a MEASURE that repeats the last sequence or holds a value
out of range, adds 1 to the machine-link error count, held at 65 535, and changes nothing else; each failed command frame
adds 1 to the console error count and is reported. When the frame or the response being sent is through, the one that
has waited longest starts. -/
def Obligations.SerialFramesAreCountedAndSentInTurn : Prop :=
  ∀ (t : Nat) (s : State), s.inReset = none →
    let counted : Host.Outcome State Fault Refusal := .next { s with
      now := max s.now t, machine := { s.machine with errors := min 65535 (s.machine.errors + 1) } }
    let n := min 65535 (s.console.errors + 1)
    let c : Console := { s.console with errors := n }
    let reported : Host.Outcome State Fault Refusal := .next { s with
      now := max s.now t
      console := if 2 ≤ s.station.reportLevel then c.enqueue ⟨.warning, .console, 35, [BitVec.ofNat 32 n]⟩ else c }
    exec (.machineByteTimeout t) s = counted
      ∧ (∀ cause, exec (.machineFrameError t cause) s = counted)
      ∧ (∀ p m, readMeasure p = some m → (s.machine.lastSeq = some m.seq ∨ 12 < m.hold ∨ 2 < m.slot ∨ 65000 < m.position
          ∨ ¬(m.hold = 0 ↔ m.slot = 0)) → exec (.measure t p) s = counted)
      ∧ exec (.consoleByteTimeout t) s = reported
      ∧ (∀ cause, exec (.consoleFrameError t cause) s = reported)
      ∧ exec (.machineFrameSent t) s = .next { s with
        now := max s.now t
        machine := { s.machine with sending := s.machine.waiting.head?, waiting := s.machine.waiting.tail } }
      ∧ exec (.responseSent t) s = .next { s with
        now := max s.now t
        console := { s.console with sending := s.console.waiting.head?, waiting := s.console.waiting.tail } }

/-- R147, R149, R150, R153 to R156, R159, R161, R163, R36, R53, R68: a good MEASURE is recorded, restarts the silence timer,
clears MACHINE_SILENT and follows FAULT; in both roles its feed is the last measured feed and its position the own
position. In the unloader role the position is announced too, its count is the baseline, an increment of at most
1 000 kg is accepted and any other discarded, and a nozzle hold other than 0 becomes the attribution hold: at a change
the mass in the receiver beyond what is queued joins the carry queue for the old hold, or is merged into the newest of 4
records. Air below Vmin with feed starts or keeps the choke entry timer and anything else stops it while no choke is in
force; air of Vmin + 20 or more starts or keeps the recovery timer of a choke and anything less stops it. In the intake
role no weighing takes place and BELT_RUNNING is recorded. Then what it does in the other blocks (R53, R57, R68, R97, R128
to R130): the accepted increment is credited to holds 1 to N of a READY plan, part by part, and otherwise to the
unattributed mass; no lowering whose drain test passes, and no yield that is due, is left without its LOWER; the active
order counts its hold's credit as done, arrives, meets a wrong slot, or is complete at its target; and the belt of an intake
that stops originates a halt. A SUSPENDING order whose feed has drained to 10 t/h makes its release request (R138).
(That an intake keeps a measured feed and an own position, and announces none, is log 21. What is signalled of a part cut at
the ceiling of its hold is log 33. That the frame on the line counts toward the 2 urgent frames is log 9, and that a yield's
LOWER is offered again beside one queued or on the line is log 16, both DEDUCED.) -/
def Obligations.GoodMeasureIsRecordedAndWeighed : Prop :=
  ∀ (t : Nat) (p : Bytes) (m : Measure) (s : State), s.inReset = none → readMeasure p = some m →
    s.machine.lastSeq ≠ some m.seq → m.hold ≤ 12 → m.slot ≤ 2 → (m.hold = 0 ↔ m.slot = 0) → m.position ≤ 65000 →
    let accepted := match s.machine.baseline with
      | some b => if (m.count - b).toNat ≤ 1000 then (m.count - b).toNat else 0
      | none => 0
    let left := (spendCarry s.machine.carry accepted).2.1
    let due := m.receiver - (left.map (fun r => r.2)).sum
    let vmin := s.configNat (·.vmin)
    let parts := attributions s.machine.attrHold s.machine.carry accepted
    let gained (h : Nat) : Nat :=
      let a := massAt s.plan.attributed h
      match s.readyPlan with
      | some r => if 1 ≤ h ∧ h ≤ 12 ∧ h ≤ r.count
        then max a (min 4294967295 (a + ((parts.filter (fun q => q.1 = h)).map (fun q => q.2)).sum)) - a else 0
      | none => 0
    let moved : State := { s with machine := { s.machine with position := some m.position } }
    let clear := ∀ b, s.claim.own = some b → ∀ j, j ≠ s.own → moved.conflictWith b j = none
    let feeds (g : Nat) : Prop := s.transmits = true ∧ m.feed ≤ g + 10
    ∃ s', exec (.measure t p) s = .next s'
      ∧ s'.machine.last = some m ∧ s'.machine.lastSeq = some m.seq ∧ s'.machine.silent = false
      ∧ s'.machine.silenceTimer = some (max s.now t + 1000) ∧ s'.machine.fault = m.fault
      ∧ s'.machine.missed = (match s.machine.lastSeq with
        | some q => min 65535 (s.machine.missed + (m.seq - q - 1#8).toNat)
        | none => s.machine.missed)
      ∧ s'.machine.errors = s.machine.errors ∧ s'.share.grant = s.share.grant
      ∧ s'.table.entries = s.table.entries
      ∧ s'.machine.position = some m.position ∧ s'.share.feed = some m.feed
      ∧ (s.isUnloader = true → s'.machine.announced = some m.position
        ∧ s'.machine.baseline = some m.count
        ∧ s'.machine.attrHold = (if m.hold = 0 then s.machine.attrHold else m.hold)
        ∧ s'.machine.accepted = s.machine.accepted + accepted
        ∧ (m.hold = 0 ∨ m.hold = s.machine.attrHold ∨ due = 0 → s'.machine.carry = left)
        ∧ (m.hold ≠ 0 → m.hold ≠ s.machine.attrHold → due ≠ 0 →
          (left.length < 4 → s'.machine.carry = left ++ [(s.machine.attrHold, due)])
            ∧ (∀ front h k, 4 ≤ left.length → left = front ++ [(h, k)] → s'.machine.carry = front ++ [(h, k + due)]))
        ∧ (s.machine.choke = false → s'.machine.chokeRecovery = s.machine.chokeRecovery
          ∧ s'.machine.chokeEntry = if 0 < s'.gov.feed ∧ m.velocity < vmin
            then some (s.machine.chokeEntry.getD (max s.now t + 2000)) else none)
        ∧ (s.machine.choke = true → s'.machine.chokeRecovery = if vmin + 20 ≤ m.velocity
          then some (s.machine.chokeRecovery.getD (max s.now t + 5000)) else none)
        ∧ s'.plan.recallBase = s.plan.recallBase ∧ s'.plan.cells = s.plan.cells)
      ∧ (s.isIntake = true → s'.share.beltRunning = some m.running ∧ s'.machine.announced = s.machine.announced
        ∧ s'.machine.baseline = s.machine.baseline ∧ s'.machine.accepted = s.machine.accepted
        ∧ s'.machine.attrHold = s.machine.attrHold ∧ s'.machine.carry = s.machine.carry ∧ s'.plan = s.plan)
      ∧ (s.isUnloader = true →
        s'.plan = { s.plan with attributed := s'.plan.attributed, unattributed := s'.plan.unattributed }
          ∧ (∀ h, 1 ≤ h → h ≤ 12 → massAt s'.plan.attributed h = massAt s.plan.attributed h + gained h)
          ∧ s'.plan.unattributed + ([1, 2, 3, 4, 5, 6, 7, 8, 9, 10, 11, 12].map gained).sum
            = s.plan.unattributed + accepted)
      ∧ (∀ l, s'.share.lowering = some l → feeds l.target → s'.link.lowerPending l.target = true)
      ∧ (s'.share.yieldOwed = true → s'.share.lowering = none → feeds s.share.grant →
        s'.link.lowerPending s.share.grant = true)
      ∧ (s.isUnloader = true → s.order.active = none → s.claim.phase = .none → s.claim.request = none →
        let offered (g : Nat) : Link := (s.link.withdraw .raise).placeSingle (.lower g)
        (∀ l, s.share.lowering = some l → s.link.lowerPending l.target = false → feeds l.target →
            s'.link = offered l.target
              ∧ s'.share = { s.share with feed := some m.feed, lowering := some { l with deadline := none } })
          ∧ (s.share.lowering = none → s.share.yieldOwed = true → feeds s.share.grant → s'.link = offered s.share.grant)
          ∧ ((∀ l, s.share.lowering = some l → s.link.lowerPending l.target = true ∨ ¬ feeds l.target) →
            (s.share.lowering = none → s.share.yieldOwed = false ∨ ¬ m.feed ≤ s.share.grant + 10) →
            s'.link = s.link ∧ s'.share = { s.share with feed := some m.feed }))
      ∧ (s.isUnloader = true → ∀ o, s.order.active = some o → o.state = .travelling → clear →
        (m.hold = o.hold → m.slot = o.slot → s'.order = { s.order with
            active := some { o with
              state := .discharging, blocked := none
              held := ⟨s.halted, s.machine.choke, false, m.fault, !s.onQuay || s.table.selfSilent⟩ }
            travelTimer := none, exhaustTimer := none })
          ∧ (m.hold ≠ 0 → ¬ (m.hold = o.hold ∧ m.slot = o.slot) → s.claim.phase = .settled →
            s'.order.active = some { o with
                state := .ending, held := Held.none, blocked := none
                endState := some .failed, endReason := some .wrongSlot }
              ∧ s'.order.travelTimer = none ∧ s'.order.releaseOut = true ∧ s'.claim.phase = .releasing)
          ∧ (m.hold = 0 → ¬ (m.hold = o.hold ∧ m.slot = o.slot) → s'.order.active = some o))
      ∧ (s.isUnloader = true → ∀ o, s.order.active = some o → o.done ≤ 4294967295 →
        s.claim.phase = .settled ∨ s.claim.phase = .releasing →
        let done := min 4294967295 (o.done + gained o.hold)
        let ends (e : EndState) (r : EndReason) : OrderRecord := { o with
          done := done, state := .ending, held := Held.none, blocked := none, endState := some e, endReason := some r }
        (o.state = .ending → s'.order.active = some { o with done := done })
          ∧ (o.state = .suspending → (done < o.target ∨ o.endState.isSome = true →
              s'.order.active = some { o with done := done })
            ∧ (o.done < o.target → o.target ≤ done → o.endState = none → s'.order.active = some { o with
              done := done, endState := some .complete, endReason := some .target }))
          ∧ (o.state = .discharging → o.done < o.target →
            (o.target ≤ done → s'.order.active = some (ends .complete .target))
              ∧ (done < o.target → clear →
                (m.hold ≠ 0 → ¬ (m.hold = o.hold ∧ m.slot = o.slot) →
                    s'.order.active = some (ends .failed .wrongSlot) ∧ (s.running = true → s'.gov.feed = 0))
                  ∧ (m.hold = 0 ∨ m.hold = o.hold ∧ m.slot = o.slot → s'.order.active = some { o with
                    done := done
                    held := ⟨s.halted, s.machine.choke, o.held.limit, m.fault, !s.onQuay || s.table.selfSilent⟩ }))))
      ∧ (s.isUnloader = true → ∀ o, s.order.active = some o → o.state = .suspending → s.order.releaseOut = false →
        s.claim.phase = .settled →
        (m.feed ≤ 10 → s'.order.releaseOut = true
            ∧ s'.claim = { s.claim with
              phase := .releasing, settle := none, waitOrder := true, releaseOwed := !s.transmits }
            ∧ (∀ b, s.claim.own = some b → s.transmits = true →
              .release b.hold b.slot ∈ s'.link.normal ∨ s'.link.held = some (.release b.hold b.slot)))
          ∧ (10 < m.feed → clear → s'.order.releaseOut = false ∧ s'.claim = s.claim))
      ∧ (s.isIntake = true →
        let trips := s.share.beltRunning = some true ∧ m.running = false ∧ s.transmits = true ∧ s.share.ownHalt = none
        (trips → s'.share.ownHalt = some ⟨.belt, 100⟩ ∧ s'.share.haltTimer = some (max s.now t + 1000)
            ∧ s'.share.halts = s.share.halts ||| BitVec.ofNat 16 (2 ^ s.own.val)
            ∧ s'.link.urgent = if s.link.urgentCount < 2 then s.link.urgent ++ [.halt .belt 100] else s.link.urgent)
          ∧ (¬ trips → s'.share.ownHalt = s.share.ownHalt ∧ s'.share.haltTimer = s.share.haltTimer
            ∧ s'.share.halts = s.share.halts ∧ s'.link.urgent = s.link.urgent))

/-- R155, R157: an increment is spent on the carry records, oldest first. One that ends within a record gives the older
records whole to their holds and the rest of it to that record's hold, and leaves that record with what is left of it, the
newer ones untouched; one that ends with a record, the last among them, leaves the newer ones and no spent record; every
increment up to what is queued is one of the two. What remains of a larger one goes to the attribution hold. Every part is
above 0, and together they are the whole increment. -/
def Obligations.IncrementIsSpentWhole : Prop :=
  ∀ (attrHold d : Nat) (carry : List (Nat × Nat)), (∀ r ∈ carry, 0 < r.2) →
    let parts := attributions attrHold carry d
    let left := (spendCarry carry d).2.1
    (parts.map (fun r => r.2)).sum = d
      ∧ (∀ r ∈ parts, 0 < r.2) ∧ (∀ r ∈ left, 0 < r.2)
      ∧ (left.map (fun r => r.2)).sum = (carry.map (fun r => r.2)).sum - d
      ∧ left.length ≤ carry.length
      ∧ (∀ front h m rest k, carry = front ++ (h, m) :: rest → 0 < k → k < m →
        d = (front.map (fun r => r.2)).sum + k → parts = front ++ [(h, k)] ∧ left = (h, m - k) :: rest)
      ∧ (∀ front rest, carry = front ++ rest → d = (front.map (fun r => r.2)).sum → parts = front ∧ left = rest)
      ∧ (d ≤ (carry.map (fun r => r.2)).sum →
        (∃ front rest, carry = front ++ rest ∧ parts = front ∧ left = rest)
          ∨ ∃ front h m rest k, carry = front ++ (h, m) :: rest ∧ 0 < k ∧ k < m
            ∧ parts = front ++ [(h, k)] ∧ left = (h, m - k) :: rest)
      ∧ ((carry.map (fun r => r.2)).sum < d → left = []
        ∧ parts = carry ++ [(attrHold, d - (carry.map (fun r => r.2)).sum)])

/-! ### Console commands -/

/-- R179, R180, R194: a command of none of the twenty codes is answered UNKNOWN, one whose argument length is not its own
BAD_ARG; every refusal changes nothing but the response; a command taken while 4 responses wait is counted and reported
and changes nothing else. -/
def Obligations.RefusedCommandsChangeNothing : Prop :=
  (∀ t tag code s, s.inReset = none → s.console.waiting.length < 4 →
      exec (.unknown t tag code) s = .next { s with
        now := max s.now t, console := s.console.respond ⟨tag, .unknown, []⟩ })
    ∧ (∀ (c : Instr) t tag args n s, c.consoleCommand = some (t, tag, args, n) → s.inReset = none →
      s.console.waiting.length < 4 → args.length ≠ n →
      exec c s = .next { s with now := max s.now t, console := s.console.respond ⟨tag, .badArg, []⟩ })
    ∧ (∀ (c : Instr) t tag args n s s' r, c.consoleCommand = some (t, tag, args, n) → s.inReset = none →
      s.console.waiting.length < 4 → exec c s = .next s' → s'.console = s.console.respond r → r.result ≠ .ok →
      r.result ≠ .clamped → s' = { s with now := max s.now t, console := s.console.respond r })
    ∧ (∀ (c : Instr) t tag args n s, (c.consoleCommand = some (t, tag, args, n) ∨ ∃ code, c = .unknown t tag code) →
      s.inReset = none → 4 ≤ s.console.waiting.length →
      let k : Console := { s.console with errors := min 65535 (s.console.errors + 1) }
      exec c s = .next { s with
        now := max s.now t
        console := if 2 ≤ s.station.reportLevel
          then k.enqueue ⟨.warning, .console, 36, [BitVec.ofNat 32 tag.toNat]⟩ else k })

/-- R168, R39, R40, R44, R194: CONFIGURE in CONFIG takes each field at the nearest end of its range, answers CLAMPED with the
mask of the fields it moved, sets the record, the report level and the remote reset enable, and enters OFFLINE; every
peer's mismatch mark is formed against the record, and C is current after it. A remote reset enable above 1 is BAD_ARG;
elsewhere CONFIGURE is BAD_STATE. -/
def Obligations.ConfigureSetsTheRecordOnce : Prop :=
  ∀ (t : Nat) (tag : BitVec 16) (p : Bytes) (a : ConfigureArgs) (s : State), s.inReset = none →
    s.console.waiting.length < 4 → readConfigure p = some a →
    let bit (lo hi n k : Nat) : Nat := if lo ≤ n ∧ n ≤ hi then 0 else k
    let mask := bit 100 6000 a.capacity 1 + bit 100 400 a.spacing 2 + bit 150 300 a.vmin 4 + bit 60 1800 a.horizon 8
      + bit 0 50000 a.taperMass 16 + bit 0 3 a.reportLevel 32
    let record : ConfigRecord :=
      { capacity := max 100 (min 6000 a.capacity), spacing := max 100 (min 400 a.spacing)
        vmin := max 150 (min 300 a.vmin), horizon := max 60 (min 1800 a.horizon), taperMass := min 50000 a.taperMass
        reportLevel := min 3 a.reportLevel, remoteEnable := decide (a.remoteEnable = 1) }
    let marked (e : PeerEntry) : Option Nat :=
      if e.role = some .unloader ∧ e.belt.isSome = true ∧ e.capacity ≠ 0 then
        (if e.belt = some s.station.straps.belt ∧ e.capacity ≠ record.capacity then some e.capacity else none)
      else e.mismatch
    (s.station.state = .config → a.remoteEnable ≤ 1 → ∃ s', exec (.configure t tag p) s = .next s'
        ∧ s'.station = { s.station with
          state := .offline, config := some record, reportLevel := record.reportLevel, remoteEnable := record.remoteEnable
          leaveDrain := s'.station.leaveDrain, leaveRelease := s'.station.leaveRelease }
        ∧ s'.share.capacity = s'.effectiveCapacity
        ∧ (s.console.sending = none → s'.console.sending = some (if mask = 0 then ⟨tag, .ok, []⟩
          else ⟨tag, .clamped, [BitVec.ofNat 8 mask]⟩))
        ∧ s'.plan = s.plan ∧ s'.share.grant = s.share.grant ∧ s'.share.intakeCaps = s.share.intakeCaps
        ∧ (∀ j, s'.entry j = if j = s.own then s.entry j else { s.entry j with mismatch := marked (s.entry j) }))
      ∧ (s.station.state = .config → 1 < a.remoteEnable → exec (.configure t tag p) s = .next { s with
        now := max s.now t, console := s.console.respond ⟨tag, .badArg, []⟩ })
      ∧ (s.station.state ≠ .config → exec (.configure t tag p) s = .next { s with
        now := max s.now t, console := s.console.respond ⟨tag, .badState, []⟩ })

/-- R56, R63, R70, R82, R118, R169, R170, R174: JOIN in OFFLINE and MUTED enters JOINING, clears both fault counts, RX_POOR
and the DUP_NUMBER mark, and offers a HELLO with the reset cause the first time after a reset and REJOIN later. At that entry
the governor's update timer starts in an unloader where it is stopped, and the feed is 0; a kept lowering has its LOWER
offered where its drain test passes, and its deadline 15 s ahead otherwise; an own halt offers a HALT, its repeat 1.0 s ahead;
an owed RELEASE is offered. LEAVE in ACTIVE and DEGRADED with no active or incoming order enters LEAVING and stops the TALLY,
CAPACITY and release timers. In other states each is BAD_STATE, and LEAVE with an order is BUSY. -/
def Obligations.JoinAndLeaveEnterTheirStates : Prop :=
  ∀ (t : Nat) (tag : BitVec 16) (s : State), s.inReset = none → s.console.waiting.length < 4 →
    let refused (r : Result) : Host.Outcome State Fault Refusal :=
      .next { s with now := max s.now t, console := s.console.respond ⟨tag, r, []⟩ }
    (s.station.state = .offline ∨ s.station.state = .muted → ∃ s' cause, exec (.join t tag []) s = .next s'
        ∧ cause = (if s.station.joined then StartCause.rejoin else s.station.resetCause.start)
        ∧ s'.station = { s.station with
          state := .joining, joined := true, helloCause := some cause
          leaveDrain := s'.station.leaveDrain, leaveRelease := s'.station.leaveRelease }
        ∧ s'.link.txFaults = 0 ∧ s'.link.rxFaults = 0 ∧ s'.link.rxPoor = false ∧ s'.link.dupReported = false
        ∧ s'.link.unheard = s.link.unheard ∧ s'.link.aloneReported = s.link.aloneReported
        ∧ s'.share.grant = s.share.grant ∧ s'.plan = s.plan ∧ s'.table = s.table
        ∧ (s.link.normal = [] → s.link.onLine = none → ∃ rest, s'.link.normal = .hello
          { cause := cause.code, role := s.station.straps.role, belt := s.station.straps.belt
            capacity := s.configNat (·.capacity)
            planId := match s.readyPlan with | some r => r.id | none => 0 } :: rest)
        ∧ s'.gov.timer = (if s.isUnloader = true ∧ s.gov.timer = none then some (max s.now t + 250) else s.gov.timer)
        ∧ (s.isUnloader = true → s'.gov.feed = 0 ∧ s'.gov.target = 0)
        ∧ (∀ h, s.share.ownHalt = some h → s'.share.haltTimer = some (max s.now t + 1000)
          ∧ s'.link.urgent = if s.link.urgentCount < 2 then s.link.urgent ++ [.halt h.scope h.reason] else s.link.urgent)
        ∧ (s.share.ownHalt = none → s'.share.haltTimer = s.share.haltTimer ∧ s'.link.urgent = s.link.urgent)
        ∧ (s.share.lowering = none → s'.share.lowering = none)
        ∧ (s.link.normal = [] → s.link.held = none → s.link.onLine = none →
          (∀ l, s.share.lowering = some l →
              let passes := ∃ f, s.share.feed = some f ∧ f ≤ l.target + 10
              (passes → s'.share.lowering = some { l with deadline := none } ∧ .lower l.target ∈ s'.link.normal)
                ∧ (¬ passes → s'.share.lowering = some { l with deadline := some (max s.now t + 15000) }
                  ∧ ∀ f ∈ s'.link.normal, f.kind ≠ .lower))
            ∧ (∀ b, s.claim.own = some b → s.claim.phase = .releasing → s.claim.releaseOwed = true →
              s'.claim = { s.claim with releaseOwed := false } ∧ .release b.hold b.slot ∈ s'.link.normal)))
      ∧ (s.station.state ≠ .offline → s.station.state ≠ .muted → exec (.join t tag []) s = refused .badState)
      ∧ (s.working = true → s.order.active = none → s.order.incoming = none → ∃ s', exec (.leave t tag []) s = .next s'
        ∧ s'.station.state = .leaving ∧ s'.plan = { s.plan with tallyTimer := none } ∧ s'.share.capTimer = none
        ∧ s'.share.releaseTimer = none ∧ s'.station.statusTimer = s.station.statusTimer ∧ s'.table = s.table
        ∧ s'.gov.timer = s.gov.timer ∧ s'.share.ownHalt = s.share.ownHalt ∧ s'.share.haltTimer = s.share.haltTimer
        ∧ s'.share.grant = s.share.grant
        ∧ (s.claim.phase = .none → s.share.lowering = none → s.share.raise = .none → s.share.grant = 0 →
          s'.station.leaveDrain = true ∧ s'.station.leaveRelease = true)
        ∧ (0 < s.share.grant → ∃ l, s'.share.lowering = some l ∧ l.waitStation = true))
      ∧ (s.working = true → (s.order.active.isSome = true ∨ s.order.incoming.isSome = true) →
        exec (.leave t tag []) s = refused .busy)
      ∧ (s.working = false → exec (.leave t tag []) s = refused .badState)

/-- R90, R93, R158: PLAN_BEGIN in range with no order enters LOADING with a new record of no given hold, PLAN_DROP with no
order enters NONE; each empties the accounts, the carry queue, the attribution hold and the accepted mass and keeps the
weigher baseline. With an order each is BAD_STATE, in the intake role ROLE. -/
def Obligations.PlanBeginAndDropClearTheAccounts : Prop :=
  ∀ (t : Nat) (tag : BitVec 16) (p : Bytes) (a : PlanBeginArgs) (s : State), s.inReset = none →
    s.console.waiting.length < 4 → readPlanBegin p = some a →
    let answers (r : Result) : State := { s with now := max s.now t, console := s.console.respond ⟨tag, r, []⟩ }
    let emptied (phase : PlanPhase) (record : Option PlanRecord) : State := { answers .ok with
      plan := { s.plan with
        phase := phase, record := record, cells := Vector.replicate 12 (Vector.replicate 16 0)
        recallBase := Vector.replicate 12 0, attributed := Vector.replicate 12 0, unattributed := 0
        marks := Vector.replicate 16 none, tallyTimer := none }
      machine := { s.machine with carry := [], attrHold := 0, accepted := 0 } }
    (s.isUnloader = true → s.anyOrder = false →
        a.id ≠ 0 → 1 ≤ a.count → a.count ≤ 12 → a.dadj ≤ 40000000 → a.tmax ≤ 2000000 →
        exec (.planBegin t tag p) s =
          .next (emptied .loading (some ⟨a.id, a.count, a.dadj, a.tmax, Vector.replicate 12 none⟩)))
      ∧ (s.isUnloader = true → s.anyOrder = false →
        (a.id = 0 ∨ a.count = 0 ∨ 12 < a.count ∨ 40000000 < a.dadj ∨ 2000000 < a.tmax) →
        exec (.planBegin t tag p) s = .next (answers .badArg))
      ∧ (s.isUnloader = true → s.anyOrder = false → exec (.planDrop t tag []) s = .next (emptied .none none))
      ∧ (s.isUnloader = true → s.anyOrder = true → exec (.planBegin t tag p) s = .next (answers .badState)
        ∧ exec (.planDrop t tag []) s = .next (answers .badState))
      ∧ (s.isIntake = true → exec (.planBegin t tag p) s = .next (answers .role)
        ∧ exec (.planDrop t tag []) s = .next (answers .role))

/-- R91, R92, R101: PLAN_HOLD in range while LOADING gives or replaces that hold's entry and no other, and is BAD_ARG with a
field out of range; PLAN_END while LOADING makes the plan READY where every hold to N is given and no two slots share a
position, and starts the TALLY timer in ACTIVE and DEGRADED. It answers BAD_ARG and stays LOADING otherwise, with the lowest
hold not given, or else the first slot in order whose position a later slot shares and the first such later slot. Outside
LOADING both are BAD_STATE, in the intake role ROLE. -/
def Obligations.PlanIsGivenAndMadeReady : Prop :=
  ∀ (t : Nat) (tag : BitVec 16) (p : Bytes) (a : PlanHoldArgs) (s : State), s.inReset = none →
    s.console.waiting.length < 4 → readPlanHold p = some a →
    let answers (r : Result) (data : Bytes) : State :=
      { s with now := max s.now t, console := s.console.respond ⟨tag, r, data⟩ }
    (s.isIntake = true → exec (.planHold t tag p) s = .next (answers .role [])
        ∧ exec (.planEnd t tag []) s = .next (answers .role []))
      ∧ (s.isUnloader = true → s.plan.phase ≠ .loading → exec (.planHold t tag p) s = .next (answers .badState [])
        ∧ exec (.planEnd t tag []) s = .next (answers .badState []))
      ∧ (∀ r, s.isUnloader = true → s.plan.phase = .loading → s.plan.record = some r →
        let inRange := 1 ≤ a.hold ∧ a.hold ≤ r.count ∧ 1 ≤ a.mass ∧ a.mass ≤ 40000000 ∧ -1500 ≤ a.lever ∧ a.lever ≤ 1500
          ∧ (a.slots = 1 ∨ a.slots = 2 ∧ a.pos2 ≤ 65000) ∧ a.pos1 ≤ 65000
        (r.count ≤ 12 → inRange →
            ∃ r', exec (.planHold t tag p) s = .next { answers .ok [] with plan := { s.plan with record := some r' } }
              ∧ r'.hold a.hold = some ⟨a.mass, a.lever, a.pos1, if a.slots = 2 then some a.pos2 else none⟩
              ∧ (∀ h, h ≠ a.hold → r'.hold h = r.hold h)
              ∧ r' = { r with holds := r'.holds })
          ∧ (¬ inRange → exec (.planHold t tag p) s = .next (answers .badArg [])))
      ∧ (∀ r, s.isUnloader = true → s.plan.phase = .loading → s.plan.record = some r → r.count ≤ 12 →
        let given := ∀ h, 1 ≤ h → h ≤ r.count → (r.hold h).isSome = true
        let posOf (h l : Nat) : Option Nat := if h ≤ r.count then (r.hold h).bind (fun e => e.slotPos l) else none
        let first (h l h' l' : Nat) : Prop := h < h' ∨ h = h' ∧ l < l'
        let shared (h l h' l' : Nat) : Prop := first h l h' l' ∧ ∃ x, posOf h l = some x ∧ posOf h' l' = some x
        (given → (∀ h l h' l', ¬ shared h l h' l') → exec (.planEnd t tag []) s = .next { answers .ok [] with
            plan := { s.plan with
              phase := .ready, tallyTimer := if s.working then some (max s.now t + 5000) else s.plan.tallyTimer } })
          ∧ (∀ h, 1 ≤ h → h ≤ r.count → r.hold h = none → (∀ k, 1 ≤ k → k < h → (r.hold k).isSome = true) →
            exec (.planEnd t tag []) s = .next (answers .badArg [BitVec.ofNat 8 h]))
          ∧ (given → ∀ h l h' l', shared h l h' l' → (∀ k i k' i', first k i h l → ¬ shared k i k' i') →
            (∀ k i, first k i h' l' → ¬ shared h l k i) → exec (.planEnd t tag []) s =
              .next (answers .badArg [BitVec.ofNat 8 h, BitVec.ofNat 8 l, BitVec.ofNat 8 h', BitVec.ofNat 8 l'])))

/-- R124, R125, R126: ORDER is ROLE in the intake role, BAD_STATE in LEAVING or without a READY plan, BAD_ARG with a field out
of range, TAG_IN_USE with a tag held. Otherwise it is placed: with none active it becomes the active order, CLAIMING,
its request made at once; of no higher priority than the active order, or beside a SUSPENDING or ENDING one, it waits in
the queue, after every order of equal or higher priority, and is refused FULL where 8 wait; the arrival counter rises
by 1. -/
def Obligations.OrderIsAcceptedAndPlaced : Prop :=
  ∀ (t : Nat) (tag : BitVec 16) (p : Bytes) (a : OrderArgs) (s : State), s.inReset = none →
    s.console.waiting.length < 4 → readOrder p = some a →
    let refused (q : Result) : Host.Outcome State Fault Refusal :=
      .next { s with now := max s.now t, console := s.console.respond ⟨tag, q, []⟩ }
    let arrival := min 4294967295 (s.order.arrival + 1)
    let o : OrderRecord :=
      { tag := a.tag, hold := a.hold, slot := a.slot, target := a.target, done := 0
        demand := max 10 (min 1500 a.demand), priority := a.priority, state := .waiting, held := Held.none
        blocked := none, endState := none, endReason := none, arrival := s.order.arrival }
    let result := if 10 ≤ a.demand ∧ a.demand ≤ 1500 then Result.ok else Result.clamped
    (s.isIntake = true → exec (.order t tag p) s = refused .role)
      ∧ (s.isUnloader = true → s.station.state = .leaving ∨ s.readyPlan = none →
        exec (.order t tag p) s = refused .badState)
      ∧ (∀ r, s.isUnloader = true → s.station.state ≠ .leaving → s.readyPlan = some r →
        let good := a.tag ≠ 0 ∧ 1 ≤ a.hold ∧ a.hold ≤ r.count ∧ (s.planPos a.hold a.slot).isSome = true ∧ 1 ≤ a.target
          ∧ a.target ≤ 40000000 ∧ a.priority ≤ 7
        (¬ good → exec (.order t tag p) s = refused .badArg)
          ∧ (good → a.tag ∈ s.order.tags ++ s.order.finished.map (fun q => q.tag) →
            exec (.order t tag p) s = refused .tagInUse)
          ∧ (good → a.tag ∉ s.order.tags ++ s.order.finished.map (fun q => q.tag) →
            (s.order.active = none → s.order.releaseOut = false → s.claim.phase = .none →
              ∃ s', exec (.order t tag p) s = .next s'
                ∧ (∃ b, s'.order = { s.order with
                    arrival := arrival, active := some { o with state := .claiming, blocked := b } }
                  ∧ s'.claim.request = some ⟨a.hold, a.slot, (s.planPos a.hold a.slot).getD 0, b⟩)
                ∧ s'.machine = { s.machine with history := [] }
                ∧ s'.console = s.console.respond ⟨tag, result, [1#8]⟩
                ∧ s'.share = s.share ∧ s'.plan = s.plan ∧ s'.gov = s.gov ∧ s'.station = s.station ∧ s'.table = s.table)
              ∧ (∀ x, s.order.active = some x → x.priority ≥ a.priority ∨ x.state = .suspending ∨ x.state = .ending →
                s.order.queue.length < 8 → ∃ q, exec (.order t tag p) s = .next { s with
                    now := max s.now t, console := s.console.respond ⟨tag, result, [3#8]⟩
                    order := { s.order with arrival := arrival, queue := q } }
                  ∧ ∃ before after, s.order.queue = before ++ after ∧ q = before ++ o :: after
                    ∧ (∀ y ∈ before, o.priority ≤ y.priority) ∧ (∀ y ∈ after.head?, y.priority < o.priority))
              ∧ (∀ x, s.order.active = some x → x.priority ≥ a.priority ∨ x.state = .suspending ∨ x.state = .ending →
                8 ≤ s.order.queue.length → exec (.order t tag p) s = refused .full)))

/-- R108, R117, R118, R125, R126, R137, R138: an accepted ORDER of higher priority than the active one preempts it where fewer than 4 are on
the stack, and is FULL otherwise. A CLAIMING or TRAVELLING order is suspended at once, its request withdrawn or its
travel stopped and its release requested, and the new one is active and CLAIMING; its own request waits while that
release is outstanding: where the CLAIM is SENDING the withdrawal is recorded against its attempt and the release waits for the
outcome, where the claim is SETTLING or SETTLED it is released at once, where it is RELEASING the order unit joins the waiters. A DISCHARGING order enters SUSPENDING with the new one incoming, feeds no more, and makes its
release request once the measured feed is at most 10 t/h. No lower request is made. -/
def Obligations.PreemptionSuspendsTheActiveOrder : Prop :=
  ∀ (t : Nat) (tag : BitVec 16) (p : Bytes) (a : OrderArgs) (r : PlanRecord) (x : OrderRecord) (s : State),
    s.inReset = none → s.console.waiting.length < 4 → s.isUnloader = true → s.station.state ≠ .leaving →
    s.readyPlan = some r → readOrder p = some a → a.tag ≠ 0 → 1 ≤ a.hold → a.hold ≤ r.count →
    (s.planPos a.hold a.slot).isSome = true → 1 ≤ a.target → a.target ≤ 40000000 → a.priority ≤ 7 →
    a.tag ∉ s.order.tags ++ s.order.finished.map (fun q => q.tag) → s.order.active = some x → x.priority < a.priority →
    let o : OrderRecord :=
      { tag := a.tag, hold := a.hold, slot := a.slot, target := a.target, done := 0
        demand := max 10 (min 1500 a.demand), priority := a.priority, state := .waiting, held := Held.none
        blocked := none, endState := none, endReason := none, arrival := s.order.arrival }
    let result := if 10 ≤ a.demand ∧ a.demand ≤ 1500 then Result.ok else Result.clamped
    let accepted : OrderUnit := { s.order with arrival := min 4294967295 (s.order.arrival + 1) }
    let stacked (b : Option BlockedReason) (out : Bool) : OrderUnit := { accepted with
      active := some { o with state := .claiming, blocked := b }, travelTimer := none, releaseOut := out
      stack := { x with state := .suspended, held := Held.none, blocked := none } :: s.order.stack }
    let suspending : OrderUnit := { accepted with
      active := some { x with state := .suspending, held := Held.none }, incoming := some o, exhaustTimer := none }
    let releasing : ClaimUnit := { s.claim with
      phase := .releasing, waitOrder := true, settle := none, releaseOwed := !s.transmits }
    let released (s' : State) : Prop := ∀ b, s.claim.own = some b → s.transmits = true →
      .release b.hold b.slot ∈ s'.link.normal ∨ s'.link.held = some (.release b.hold b.slot)
    (x.state ≠ .suspending → x.state ≠ .ending → 4 ≤ s.order.stack.length →
        exec (.order t tag p) s = .next { s with now := max s.now t, console := s.console.respond ⟨tag, .full, []⟩ })
      ∧ (s.order.stack.length < 4 → x.state = .claiming ∨ x.state = .travelling ∨ x.state = .discharging →
        ∃ s', exec (.order t tag p) s = .next s' ∧ s'.share = s.share ∧ s'.plan = s.plan
          ∧ (x.state = .claiming → s'.console = s.console.respond ⟨tag, result, [1#8]⟩
            ∧ (s.claim.phase = .none ∨ s.claim.phase = .queued → ∃ b, s'.order = stacked b false
              ∧ s'.claim.request = some ⟨a.hold, a.slot, (s.planPos a.hold a.slot).getD 0, b⟩)
            ∧ (s.claim.phase = .releasing → s'.order = stacked none true
              ∧ s'.claim = { s.claim with request := none, waitOrder := true })
            ∧ (s.claim.phase = .sending → s'.order = stacked none true
              ∧ s'.claim = { s.claim with request := none, withdrawn := true, waitOrder := true }
              ∧ (∀ y, s.link.onLine = some y → y.content.kind = .claim → s'.link.onLine = some { y with withdrawn := true }
                ∧ (∀ c ∈ s'.link.held, c.kind ≠ .claim)))
            ∧ (s.claim.phase = .settling ∨ s.claim.phase = .settled → s'.order = stacked none true
              ∧ s'.claim = { releasing with request := none } ∧ released s'))
          ∧ (x.state = .travelling → s'.console = s.console.respond ⟨tag, result, [1#8]⟩
            ∧ (s.claim.phase = .settled → s'.order = stacked none true ∧ s'.claim = releasing ∧ released s')
            ∧ (∀ y, s.machine.position = some y → s.machine.sending = none →
              s'.machine.sending = some (.move y s.nozzle.1 s.nozzle.2)))
          ∧ (x.state = .discharging → (s.claim.phase = .settled → s'.console = s.console.respond ⟨tag, result, [2#8]⟩)
            ∧ (s.running = true → s'.gov.feed = 0 ∧ s'.gov.target = 0)
            ∧ (s.share.feed = none ∨ (∃ f, s.share.feed = some f ∧ 10 < f) →
              s'.order = suspending ∧ s'.claim = s.claim)
            ∧ (∀ f, s.share.feed = some f → f ≤ 10 → s.order.releaseOut = false → s.claim.phase = .settled →
              s'.order = { suspending with releaseOut := true } ∧ s'.claim = releasing ∧ released s')))

/-- R134, R135, R140, R141: CANCEL of a queued or a suspended order ends it CANCELLED at once and leaves every other order in
its place; of the incoming order it does so and requests a lowering to 0; of the active order in CLAIMING, TRAVELLING or
DISCHARGING it fixes that end and requests a lowering to 0, the request of a CLAIMING order withdrawn and the release of
a TRAVELLING one begun at once; of a SUSPENDING order it records the end. Of an ENDING order, of a SUSPENDING one with an
end recorded and of one in the finished list it is BAD_STATE, of a tag held nowhere NOT_FOUND. -/
def Obligations.CancelEndsTheOrderWhereItStands : Prop :=
  ∀ (t : Nat) (tag : BitVec 16) (p : Bytes) (n : Nat) (s : State), s.inReset = none →
    s.console.waiting.length < 4 → readWord p = some n → s.order.ok →
    let refused (r : Result) : Host.Outcome State Fault Refusal :=
      .next { s with now := max s.now t, console := s.console.respond ⟨tag, r, []⟩ }
    let list (o : OrderRecord) : List OrderRecord :=
      (if s.order.finished.length < 8 then s.order.finished else s.order.finished.tail)
        ++ [{ o with state := .cancelled, endState := some .cancelled, endReason := some .hostCancel }]
    let lowers (s' : State) : Prop := s.share.lowering = none → 0 < s.share.grant →
      ∃ l, s'.share.lowering = some l ∧ l.target = 0 ∧ l.waitOrder = true
    (∀ o before after, s.order.queue = before ++ o :: after → o.tag = n → ∃ s', exec (.cancel t tag p) s = .next s'
        ∧ s' = { s with
          now := max s.now t, console := s'.console
          order := { s.order with queue := before ++ after, finished := list o } })
      ∧ (∀ o before after, s.order.stack = before ++ o :: after → o.tag = n → ∃ s', exec (.cancel t tag p) s = .next s'
        ∧ s' = { s with
          now := max s.now t, console := s'.console
          order := { s.order with stack := before ++ after, finished := list o } })
      ∧ (∀ i, s.order.incoming = some i → i.tag = n → ∃ s', exec (.cancel t tag p) s = .next s'
        ∧ s'.order = { s.order with incoming := none, finished := list i } ∧ s'.claim = s.claim ∧ lowers s')
      ∧ (∀ o, s.order.active = some o → o.tag = n →
        o.state = .claiming ∨ o.state = .travelling ∨ o.state = .discharging → s.share.lowering = none →
        0 < s.share.grant → ∃ s', exec (.cancel t tag p) s = .next s'
          ∧ s'.order.active = some { o with
            state := .ending, held := Held.none, blocked := none
            endState := some .cancelled, endReason := some .hostCancel }
          ∧ s'.order.endReleasePending = decide (o.state = .discharging) ∧ lowers s'
          ∧ (o.state = .claiming → s'.claim.request = none)
          ∧ (o.state = .travelling → s'.order.travelTimer = none
            ∧ (s.claim.phase = .settled → s'.claim.phase = .releasing ∧ s'.order.releaseOut = true))
          ∧ (o.state = .discharging → s'.claim = s.claim ∧ (s.isUnloader = true → s.running = true → s'.gov.feed = 0)))
      ∧ (∀ o, s.order.active = some o → o.tag = n → o.state = .claiming → s.claim.phase = .none → s.share.lowering = none →
        s.share.grant = 0 → s.order.stack = [] → s.order.queue = [] → ∃ s', exec (.cancel t tag p) s = .next s'
          ∧ s'.order.active = none ∧ s'.order.finished = list { o with held := Held.none, blocked := none }
          ∧ s'.claim.request = none)
      ∧ (∀ o, s.order.active = some o → o.tag = n → o.state = .suspending →
        exec (.cancel t tag p) s = if o.endState.isSome then refused .badState else .next { s with
          now := max s.now t, console := s.console.respond ⟨tag, .ok, []⟩
          order := { s.order with
            active := some { o with endState := some .cancelled, endReason := some .hostCancel } } })
      ∧ (∀ o, s.order.active = some o → o.tag = n → o.state = .ending → exec (.cancel t tag p) s = refused .badState)
      ∧ (n ∉ s.order.tags → exec (.cancel t tag p) s =
        refused (if s.order.finished.any (fun q => q.tag == n) then .badState else .notFound))

/-- R61, R62, R64: HALT and CLEAR of the host, by the first condition of their tables that holds: a scope or reason out of range
is BAD_ARG, a station that does not transmit BAD_STATE, a full urgent queue BUSY; otherwise HALT sets the own halt, adds
the own number, offers a HALT and sets the 1.0 s repeat, and CLEAR offers a CLEAR, removes the own halt and the own
number and stops the repeat. A HALT that makes an unloader's halt set non-empty ends the own raise and makes a lower request
with target 0; nothing else of the share unit changes otherwise.
(The frame on the line counts toward the two: log 9. A yield owed beside a lowering in progress stays owed: log 16. Both are
DEDUCED. That a SENDING raise a lower request had abandoned before keeps its cause is the model's choice, log 39.) -/
def Obligations.HostHaltAndClear : Prop :=
  ∀ (t : Nat) (tag : BitVec 16) (x r : Byte) (s : State), s.inReset = none → s.console.waiting.length < 4 →
    let refused (q : Result) : Host.Outcome State Fault Refusal :=
      .next { s with now := max s.now t, console := s.console.respond ⟨tag, q, []⟩ }
    let scopeGood := x = 1#8 ∨ x = 2#8
    let reasonGood := 1 ≤ r.toNat ∧ r.toNat ≤ 99
    let scope : HaltScope := if x = 1#8 then .belt else .quay
    (¬ (scopeGood ∧ reasonGood) → exec (.halt t tag [x, r]) s = refused .badArg)
      ∧ (scopeGood → reasonGood → s.transmits = false → exec (.halt t tag [x, r]) s = refused .badState)
      ∧ (scopeGood → reasonGood → s.transmits = true → 2 ≤ s.link.urgentCount →
        exec (.halt t tag [x, r]) s = refused .busy)
      ∧ (scopeGood → reasonGood → s.transmits = true → s.link.urgentCount < 2 →
        ∃ s', exec (.halt t tag [x, r]) s = .next s'
          ∧ s'.share.ownHalt = some ⟨scope, r.toNat⟩ ∧ haltMember s'.share.halts s.own = true
          ∧ (∀ j, j ≠ s.own → haltMember s'.share.halts j = haltMember s.share.halts j)
          ∧ s'.link.urgent = s.link.urgent ++ [.halt scope r.toNat]
          ∧ s'.share.haltTimer = some (max s.now t + 1000) ∧ s'.share.grant = s.share.grant
          ∧ (s.isUnloader = true → haltMember s.share.halts s.own = false → s'.gov.feed = 0)
          ∧ (s.isUnloader = true → s.halted = false → s.haltEndsRaiseAndLowers s')
          ∧ (s.isIntake = true ∨ s.halted = true → s'.share = { s.share with
            ownHalt := s'.share.ownHalt, halts := s'.share.halts, haltTimer := s'.share.haltTimer }))
      ∧ (¬ reasonGood → exec (.clear t tag [r]) s = refused .badArg)
      ∧ (reasonGood → s.transmits = false → exec (.clear t tag [r]) s = refused .badState)
      ∧ (reasonGood → s.transmits = true → 2 ≤ s.link.urgentCount → exec (.clear t tag [r]) s = refused .busy)
      ∧ (reasonGood → s.transmits = true → s.link.urgentCount < 2 → ∃ s', exec (.clear t tag [r]) s = .next s'
        ∧ s'.share.ownHalt = none ∧ s'.share.haltTimer = none ∧ haltMember s'.share.halts s.own = false
        ∧ (∀ j, j ≠ s.own → haltMember s'.share.halts j = haltMember s.share.halts j)
        ∧ s'.link.urgent = s.link.urgent ++ [.clear r.toNat]
        ∧ s'.share = { s.share with ownHalt := none, haltTimer := none, halts := s'.share.halts })

/-- R65: OVERRIDE_CLEAR is answered OK in every station state: the halt set is empty, no frame is sent (a CLAIM of a request
that R109 tests again may be queued, and nothing else), the own halt and its repeats end where the own number was a
member and stay otherwise, and OVERRIDE carries the number removed. -/
def Obligations.OverrideClearEmptiesTheHaltSet : Prop :=
  ∀ (t : Nat) (tag : BitVec 16) (s : State), s.inReset = none → s.console.waiting.length < 4 →
    let member := haltMember s.share.halts s.own
    ∃ s', exec (.overrideClear t tag []) s = .next s'
      ∧ s'.share.halts = 0#16 ∧ s'.link.urgent = s.link.urgent ∧ s'.share.grant = s.share.grant
      ∧ (∀ d ∈ s'.link.normal, d ∈ s.link.normal ∨ d.kind = .claim)
      ∧ (∀ d ∈ s'.link.held, s.link.held = some d ∨ d.kind = .claim)
      ∧ s'.link.onLine.map (fun a => a.content) = s.link.onLine.map (fun a => a.content)
      ∧ s'.share.ownHalt = (if member then none else s.share.ownHalt)
      ∧ s'.share.haltTimer = (if member then none else s.share.haltTimer)
      ∧ s'.console = Console.respond ⟨tag, .ok, []⟩ (if 2 ≤ s.station.reportLevel
        then s.console.enqueue ⟨.warning, .share, 18, [BitVec.ofNat 32 (haltCount s.share.halts)]⟩ else s.console)

/-- R67, R181: BELTCAP in the intake role records a capacity of at most 6 000, offers it at once in ACTIVE and DEGRADED and
is ROLE for an unloader; REMOTE_RESET offers a RESET to a station other than the own, in a station that transmits and
has room, and is BAD_ARG, BAD_STATE or BUSY otherwise.
(The frame on the line counts toward the two: log 9.) -/
def Obligations.BeltcapAndRemoteReset : Prop :=
  ∀ (t : Nat) (tag : BitVec 16) (s : State), s.inReset = none → s.console.waiting.length < 4 →
    let answers (q : Result) : State := { s with now := max s.now t, console := s.console.respond ⟨tag, q, []⟩ }
    (∀ p c, readWord p = some c →
        (s.isUnloader = true → exec (.beltcap t tag p) s = .next (answers .role))
          ∧ (s.isIntake = true → exec (.beltcap t tag p) s = .next { answers (if 6000 < c then .clamped else .ok) with
            share := { s.share with
              beltCap := some (min 6000 c)
              capTimer := if s.working then some (max s.now t + 5000) else s.share.capTimer }
            link := if s.working then s.link.placeSingle (.capacity (min 6000 c)) else s.link }))
      ∧ (∀ n : Byte, (15 < n.toNat ∨ n.toNat = s.own.val → exec (.remoteReset t tag [n]) s = .next (answers .badArg))
        ∧ (∀ j : StationNo, n.toNat = j.val → j ≠ s.own →
          (s.transmits = false → exec (.remoteReset t tag [n]) s = .next (answers .badState))
            ∧ (s.transmits = true → 2 ≤ s.link.urgentCount → exec (.remoteReset t tag [n]) s = .next (answers .busy))
            ∧ (s.transmits = true → s.link.urgentCount < 2 → exec (.remoteReset t tag [n]) s = .next { answers .ok with
              link := { s.link with urgent := s.link.urgent ++ [.reset j] } })))

/-- R182 to R185, R195: a query is answered OK in every station state, plan state and role with the data of its rule as the
state stands when the command is taken, a peer number or a hold number out of range BAD_ARG, and changes nothing but the
response.
(Widths and codes that R195 does not give, and which timers stand in the data and where, are the model's choices: log 22, 31,
32.) -/
def Obligations.QueriesChangeNothing : Prop :=
  ∀ (t : Nat) (tag : BitVec 16) (n : Byte) (s : State), s.inReset = none → s.console.waiting.length < 4 →
    let at' : State := { s with now := max s.now t }
    let answers (r : Result) (data : Bytes) : Host.Outcome State Fault Refusal :=
      .next { s with now := max s.now t, console := s.console.respond ⟨tag, r, data⟩ }
    let u := s.order
    exec (.queryStation t tag []) s = answers .ok at'.stationData
      ∧ (15 < n.toNat ∨ n.toNat = s.own.val → exec (.queryPeer t tag [n]) s = answers .badArg [])
      ∧ (∀ j : StationNo, n.toNat = j.val → j ≠ s.own → exec (.queryPeer t tag [n]) s = answers .ok (at'.peerData j))
      ∧ exec (.queryHold t tag [n]) s = (if n.toNat = 0 ∨ 12 < n.toNat then answers .badArg []
        else answers .ok (at'.holdData n.toNat))
      ∧ (∃ records, exec (.queryOrders t tag []) s = answers .ok ([BitVec.ofNat 8 u.active.toList.length,
          BitVec.ofNat 8 u.incoming.toList.length, BitVec.ofNat 8 u.stack.length, BitVec.ofNat 8 u.queue.length] ++ records)
        ∧ records = (u.active.toList ++ u.incoming.toList ++ u.stack ++ u.queue).flatMap OrderRecord.bytes
        ∧ records.length = 24 * (u.active.toList ++ u.incoming.toList ++ u.stack ++ u.queue).length)
      ∧ exec (.queryFinished t tag []) s = answers .ok
        (BitVec.ofNat 8 u.finished.length :: u.finished.flatMap OrderRecord.bytes)

/-- R188: READ_REPORT is answered OK in every station state and both roles: the oldest report is removed and returned with
the lost-report count, which becomes 0; an empty queue answers that no report is present, with count 0. -/
def Obligations.ReadReportTakesTheOldest : Prop :=
  ∀ (t : Nat) (tag : BitVec 16) (s : State), s.inReset = none → s.console.waiting.length < 4 →
    (∀ r rest, s.console.reports = r :: rest → exec (.readReport t tag []) s = .next { s with
        now := max s.now t
        console := Console.respond
          ⟨tag, .ok, [1#8, byteOf (s.console.lost / 256), byteOf s.console.lost] ++ r.bytes⟩
          { s.console with reports := rest, lost := 0, attention := !rest.isEmpty } })
      ∧ (s.console.reports = [] → exec (.readReport t tag []) s = .next { s with
        now := max s.now t, console := s.console.respond ⟨tag, .ok, [0#8, 0#8, 0#8]⟩ })

/-! ### What stands on the lines -/

/-- R1 to R4, R145, R178, R190 to R194: the bits of an own frame on the line, followed by 12 recessive bits, are one occupancy
to a receiver, which judges it to be that frame, whatever its acknowledge slot: no sync bit, field or CRC bit is lost;
the payload of every own frame whose fields fit their widths reads back as its fields; and a command frame as the host
sends it, and a MEASURE frame as the machine sends it, are judged to be the command and the MEASURE they carry. (No step
runs bit by bit, log 27.) -/
def Obligations.FramesAreJudgedAsSent : Prop :=
  (∀ (slot : Bool) (belt : Belt) (rank : Nat) (number : StationNo) (c : Content), rank ≤ 15 →
      c.kind.permitsLength c.payload.length = true →
      ∃ bits, LineView.idle.events ((c.frame belt (arbitrationWord c.kind.urgent rank number)).lineBits slot
          ++ List.replicate 12 false) = [.ended bits]
        ∧ judgeQuay bits = .ok ⟨number.val, c.kind, c.dest belt, c.payload⟩)
    ∧ (∀ b : HelloBody, b.cause < 256 → b.capacity < 65536 → b.planId < 4294967296 →
      readHello (Content.payload (.hello b)) = some b)
    ∧ (∀ r, r < 256 → readBye (Content.payload (.bye r)) = some r)
    ∧ (∀ b : StatusBody, b.stateCode < 16 → (∀ x, b.position = some x → x < 65535) → b.hold < 256 → b.slot < 256 →
      b.age < 65536 → b.grant < 65536 → b.raiseTarget < 65536 → b.feed < 65536 → b.allowed < 65536 →
      b.capacity < 65536 → b.planId < 4294967296 → b.mass < 4294967296 →
      readStatus (Content.payload (.status b)) = some b)
    ∧ (∀ x g, x < 65536 → g < 65536 → readRaise (Content.payload (.raise x g)) = some (x, g))
    ∧ (∀ g, g < 65536 → readWord (Content.payload (.lower g)) = some g ∧ readWord (Content.payload (.capacity g)) = some g)
    ∧ (∀ b : ClaimBody, b.hold < 256 → b.slot < 256 → b.fromPos < 65536 → b.toPos < 65536 →
      readClaim (Content.payload (.claim b)) = some b)
    ∧ (∀ h l, h < 256 → l < 256 → readRelease (Content.payload (.release h l)) = some (h, l))
    ∧ (∀ (b : TallyBody) (d : StationNo), b.planId < 4294967296 → 1 ≤ b.pairs.length → b.pairs.length ≤ 12 →
      (∀ q ∈ b.pairs, q.1 < 256 ∧ q.2 < 4294967296) →
      readTally (Content.payload (.tally b)) = some b ∧ readTally (Content.payload (.recall d b)) = some b)
    ∧ (∀ sc r, r < 256 → readReason (Content.payload (.halt sc r)) = some r ∧ readReason (Content.payload (.clear r)) = some r)
    ∧ (∀ (t : Nat) (code : Byte) (tag : BitVec 16) (args : Bytes), args.length ≤ 13 →
      judgeConsole t (commandBytes code tag args).tail = some (commandOf t code tag args))
    ∧ (∀ (t : Nat) (p : Bytes), p.length = 18 → judgeMachine t (machineBytes 0x01#8 p).tail = some (.measure t p))
    ∧ (∀ m : Measure, m.receiver < 65536 → m.feed < 65536 → m.velocity < 65536 → m.position < 65536 → m.hold < 256 →
      m.slot < 256 → m.capacity < 65536 → readMeasure m.bytes = some m)

/-! ### Invariants that every step keeps -/

/-- R177, R179, R187 to R189; R144, R146, R151, R155, R156, R160; R122, R125, R135, R136, R139: on the console, the report
queue and the response queue stay within their sizes, the counts within theirs, and the attention line is asserted
exactly while a report is queued; on the machine link, the carry queue holds at most 4 records, each above 0, the choke
history at most 3 times, and at most one SETPOINT and one MOVE wait behind a frame being sent; the order collections stay
within their sizes, an incoming order stands only beside a SUSPENDING one, with no active order nothing waits, and no tag
stands twice. -/
def Obligations.ConsoleMachineAndOrderQueuesAreKept : Prop :=
  (∀ s s' : State, s.console.ok → step s = .next s' → s'.console.ok)
    ∧ (∀ s s' : State, s.machine.ok → step s = .next s' → s'.machine.ok)
    ∧ (∀ s s' : State, s.order.ok → step s = .next s' → s'.order.ok)

/-- R94, R97, R153, R157, R158: every accepted kilogram is delivered once: the accepted mass stays the sum of the attributed
masses and the unattributed mass; and no cell of the hold account table decreases, but on a reset, on entering LOADING
and at PLAN_DROP. -/
def Obligations.AcceptedMassIsDeliveredAndCellsAreKept : Prop :=
  (∀ s s' : State, s.massesBalance → step s = .next s' → s'.massesBalance)
    ∧ (∀ (c : Instr) (s s' : State) (h : Nat) (j : StationNo), exec c s = .next s' → c.resets = false →
      (∀ t tag p, c ≠ .planBegin t tag p) → (∀ t tag p, c ≠ .planDrop t tag p) → s.cell h j ≤ s'.cell h j)

/-- R13 to R17, R19: the transmit queues stay within their sizes, no single kind stands twice, content is held only behind
its own kind, and a station that does not transmit has nothing queued or on the line.
(That the urgent frame on the line counts toward the 2 of the urgent queue is the model's choice, log 9, unsafe.) -/
def Obligations.TransmitQueuesInvariantIsKept : Prop :=
  ∀ s s' : State, s.lineOk → step s = .next s' → s'.lineOk

/-- R16, R42, R48, R50 to R54, R57: every step keeps that each own LOWER on the line, held or queued carries a grant from the
lowering's target to G, with what that takes of the raise's phases (State.lowersOk), so that no LOWER raises G. -/
def Obligations.LowersNeverRaiseTheGrant : Prop :=
  ∀ s s' : State, s.lineOk → s.lowersOk → step s = .next s' → s'.lowersOk

/-- R82, R129, R70: a feed setpoint above 0 stands only where no hold-off condition does; the held reasons of a DISCHARGING
order follow their conditions. -/
def Obligations.FeedIsZeroUnderEveryHoldOff : Prop :=
  ∀ s s' : State, s.feedSafe → step s = .next s' → s'.feedSafe

/-- R24 to R26, R28, R43 to R45: S and C always stand for the entries, the configuration record and the intake capacity list;
and an entry that is neither PRESENT nor SILENT holds no grant, no pending raise and no slot claim. -/
def Obligations.ReservationsAndCapacityStayCurrent : Prop :=
  (∀ s s' : State, s.viewCurrent → step s = .next s' → s'.viewCurrent)
    ∧ ∀ s s' : State, s.unheardHoldNothing → step s = .next s' → s'.unheardHoldNothing
end

