-- ==== Sys2Proof/Laws/Mask.lean ====
section
/-! SUPPORT. What the signals between blocks can change. `State.mask` (Safety.lean) blanks exactly the fields that a signal of the share
unit, the claim unit or the order unit may write (raise, yield, lowering, release timer, reservations and capacity; claim;
order; the leave waits; F and F_t; the machine output, the choke entry timer and the choke history; the normal transmit
set; the reports). Every signal keeps the mask, so every other field of State is unchanged by it. -/

namespace Sys2Proof.Machine

/-! ### Operations of Ops.lean -/

@[simp] theorem report_mask (l : Level) (b : Source) (c : Nat) (as : List Nat) (s : State) :
    (s.report l b c as).mask = s.mask := by
  simp only [State.report, Console.enqueue]
  split
  · split <;> rfl
  · rfl

@[simp] theorem handMachine_mask (f : MachineFrame) (s : State) : (s.handMachine f).mask = s.mask := by
  simp only [State.handMachine]
  split <;> rfl

@[simp] theorem stopTravel_mask (s : State) : s.stopTravel.mask = s.mask := by
  simp only [State.stopTravel]
  split
  · exact handMachine_mask _ _
  · rfl

@[simp] theorem withdraw_mask (k : Kind) (s : State) : (s.withdraw k).mask = s.mask := by
  simp only [State.withdraw, Link.withdraw, State.mask]
  cases s.link.onLine with
  | none => rfl
  | some a => simp only [Option.map_some]; split <;> rfl

theorem placeSingle_normal (c : Content) (l : Link) :
    ∃ n h, l.placeSingle c = { l with normal := n, held := h } := by
  simp only [Link.placeSingle]
  split
  · exact ⟨_, _, rfl⟩
  · split <;> exact ⟨_, _, rfl⟩

@[simp] theorem offerSingle_mask (c : Content) (s : State) : (s.offerSingle c).mask = s.mask := by
  simp only [State.offerSingle]
  split
  · split
    · obtain ⟨n, h, hp⟩ := placeSingle_normal c (s.link.withdraw .raise)
      rw [hp]
      exact withdraw_mask .raise s
    · obtain ⟨n, h, hp⟩ := placeSingle_normal c s.link
      rw [hp]
      rfl
  · rfl

/-! ### Operations of Feed.lean -/

@[simp] theorem setFeed_mask (f : Nat) (s : State) : (s.setFeed f).mask = s.mask := by
  simp only [State.setFeed]
  split <;> rfl

@[simp] theorem holdOffClamp_mask (c : HoldOff) (s : State) : (s.holdOffClamp c).mask = s.mask := by
  simp only [State.holdOffClamp]
  split
  · split
    · exact (handMachine_mask _ _).trans (setFeed_mask _ _)
    · rfl
  · rfl

@[simp] theorem loweringClamp_mask (l : Nat) (s : State) : (s.loweringClamp l).mask = s.mask := by
  simp only [State.loweringClamp]
  split
  · exact (handMachine_mask _ _).trans (setFeed_mask _ _)
  · rfl

@[simp] theorem tryBye_mask (s : State) : s.tryBye.mask = s.mask := by
  simp only [State.tryBye]
  split
  · exact offerSingle_mask _ _
  · rfl

@[simp] theorem leaveDrained_mask (s : State) : s.leaveDrained.mask = s.mask := by
  simp only [State.leaveDrained]
  split
  · exact tryBye_mask _
  · rfl

@[simp] theorem leaveReleased_mask (s : State) : s.leaveReleased.mask = s.mask := by
  simp only [State.leaveReleased]
  split
  · exact tryBye_mask _
  · rfl

/-! ### Operations of Claims.lean -/

@[simp] theorem setBlocked_mask (b : Option BlockedReason) (s : State) : (s.setBlocked b).mask = s.mask := rfl

@[simp] theorem dropClaim_mask (s : State) : s.dropClaim.mask = s.mask := rfl

@[simp] theorem offerClaim_mask (r : ClaimRequest) (s : State) : (s.offerClaim r).mask = s.mask :=
  offerSingle_mask _ _

@[simp] theorem examineRequest_mask (s : State) : s.examineRequest.mask = s.mask := by
  simp only [State.examineRequest]
  split
  · rfl
  · split
    · rfl
    · exact offerClaim_mask _ _

@[simp] theorem retestQueued_mask (s : State) : s.retestQueued.mask = s.mask := by
  simp only [State.retestQueued]
  split
  · rfl
  · split
    · exact (setBlocked_mask _ _).trans ((dropClaim_mask _).trans (withdraw_mask _ s))
    · split
      · split
        · rfl
        · exact offerClaim_mask _ _
      · exact offerClaim_mask _ _

@[simp] theorem claimRetest_mask (s : State) : s.claimRetest.mask = s.mask := by
  simp only [State.claimRetest]
  split
  · exact examineRequest_mask s
  · exact retestQueued_mask s
  · rfl

@[simp] theorem makeRequest_mask (h l : Nat) (s : State) : (s.makeRequest h l).mask = s.mask := by
  simp only [State.makeRequest]
  split
  · exact examineRequest_mask _
  · rfl

@[simp] theorem withdrawRequest_mask (s : State) : s.withdrawRequest.mask = s.mask := by
  simp only [State.withdrawRequest]
  split
  · exact (dropClaim_mask _).trans (withdraw_mask _ _)
  · exact withdraw_mask _ _
  · rfl

@[simp] theorem enterReleasing_mask (s : State) : s.enterReleasing.mask = s.mask := by
  simp only [State.enterReleasing]
  split
  · exact offerSingle_mask _ _
  · rfl

@[simp] theorem joinRelease_mask (w : Waiter) (s : State) : (s.joinRelease w).mask = s.mask := by
  cases w <;> rfl

@[simp] theorem startRelease_mask (w : Waiter) (s : State) : (s.startRelease w).1.mask = s.mask := by
  simp only [State.startRelease]
  split
  · rfl
  · exact (dropClaim_mask _).trans (withdraw_mask _ s)
  · exact (withdraw_mask _ _).trans (joinRelease_mask w s)
  · exact (enterReleasing_mask _).trans (joinRelease_mask w s)
  · exact (enterReleasing_mask _).trans (joinRelease_mask w s)
  · exact joinRelease_mask w s

/-! ### Operations of Orders.lean -/

@[simp] theorem setActive_mask (o : Option OrderRecord) (s : State) : (s.setActive o).mask = s.mask := rfl

@[simp] theorem activate_mask (o : OrderRecord) (s : State) : (s.activate o).mask = s.mask := by
  simp only [State.activate]
  split
  · rfl
  · exact makeRequest_mask _ _ _

@[simp] theorem nextOrder_mask (s : State) : s.nextOrder.mask = s.mask := by
  simp only [State.nextOrder]
  split
  · rfl
  · exact activate_mask _ _
  · exact activate_mask _ _
  · split <;> exact activate_mask _ _

@[simp] theorem followOn_mask (s : State) : s.followOn.mask = s.mask := by
  simp only [State.followOn]
  split
  · exact activate_mask _ _
  · exact nextOrder_mask s

@[simp] theorem recordEnd_mask (o : OrderRecord) (e : EndState) (r : EndReason) (s : State) :
    (s.recordEnd o e r).mask = s.mask := report_mask _ _ _ _ _

@[simp] theorem finishActive_mask (o : OrderRecord) (s : State) : (s.finishActive o).mask = s.mask :=
  (followOn_mask _).trans (recordEnd_mask _ _ _ _)

@[simp] theorem suspendActive_mask (o : OrderRecord) (s : State) : (s.suspendActive o).mask = s.mask :=
  followOn_mask _

@[simp] theorem orderReleased_mask (s : State) : s.orderReleased.mask = s.mask := by
  simp only [State.orderReleased]
  split
  · rfl
  · split
    · exact makeRequest_mask _ _ _
    · split
      · exact finishActive_mask _ _
      · rfl
    · split
      · exact finishActive_mask _ _
      · exact suspendActive_mask _ _
    · rfl

@[simp] theorem orderRelease_mask (s : State) : s.orderRelease.mask = s.mask := by
  simp only [State.orderRelease]
  split
  · exact (orderReleased_mask _).trans (startRelease_mask _ _)
  · exact startRelease_mask _ _

@[simp] theorem orderDrained_mask (s : State) : s.orderDrained.mask = s.mask := by
  simp only [State.orderDrained]
  split
  · rfl
  · split
    · split
      · exact orderRelease_mask _
      · split
        · rfl
        · exact finishActive_mask _ _
    · rfl

@[simp] theorem stationRelease_mask (s : State) : s.stationRelease.mask = s.mask := by
  simp only [State.stationRelease]
  split
  · exact (leaveReleased_mask _).trans (startRelease_mask _ _)
  · exact startRelease_mask _ _

@[simp] theorem signalReleased_mask (s : State) : s.signalReleased.mask = s.mask := by
  simp only [State.signalReleased]
  split <;> split
  · exact (leaveReleased_mask _).trans (orderReleased_mask _)
  · exact leaveReleased_mask _
  · exact orderReleased_mask _
  · rfl

/-! ### Operations of Shares.lean -/

@[simp] theorem setRaise_mask (r : Raise) (s : State) : (s.setRaise r).mask = s.mask := rfl

@[simp] theorem setLowering_mask (l : Option Lowering) (s : State) : (s.setLowering l).mask = s.mask := rfl

@[simp] theorem yieldTest_mask (s : State) : s.yieldTest.mask = s.mask := by
  simp only [State.yieldTest]
  split
  · exact offerSingle_mask _ _
  · rfl

@[simp] theorem abandonSettling_mask (c : YieldCause) (s : State) : (s.abandonSettling c).mask = s.mask := by
  simp only [State.abandonSettling]
  split
  · split
    · exact (yieldTest_mask _).trans (report_mask _ _ _ _ _)
    · exact report_mask _ _ _ _ _
  · rfl

@[simp] theorem abandonRaise_mask (c : YieldCause) (s : State) : (s.abandonRaise c).mask = s.mask := by
  simp only [State.abandonRaise]
  split
  · rfl
  · exact withdraw_mask .raise s
  · exact withdraw_mask .raise s
  · rfl
  · exact abandonSettling_mask c s

@[simp] theorem settleConflict_mask (s : State) : s.settleConflict.mask = s.mask := by
  simp only [State.settleConflict]
  split
  · split
    · exact abandonSettling_mask _ s
    · rfl
  · rfl

@[simp] theorem offerRaise_mask (t : Nat) (s : State) : (s.offerRaise t).mask = s.mask := offerSingle_mask _ _

@[simp] theorem reviewRaise_mask (u : Bool) (s : State) : (s.reviewRaise u).mask = s.mask := by
  simp only [State.reviewRaise]
  split
  · split
    · exact withdraw_mask .raise s
    · split
      · rfl
      · exact offerRaise_mask _ _
  · rfl

@[simp] theorem recompute_mask (s : State) : s.recompute.mask = s.mask := by
  simp only [State.recompute]
  split
  · rfl
  · exact (settleConflict_mask _).trans (reviewRaise_mask _ _)

@[simp] theorem startRaise_mask (s : State) : s.startRaise.mask = s.mask := by
  simp only [State.startRaise]
  split
  · exact offerRaise_mask _ _
  · rfl

@[simp] theorem signalDrained_mask (c : LowerCause) (s : State) : (s.signalDrained c).mask = s.mask := by
  cases c
  case order => exact orderDrained_mask s
  case leave => exact leaveDrained_mask s
  all_goals rfl

@[simp] theorem drainTest_mask (s : State) : s.drainTest.mask = s.mask := by
  simp only [State.drainTest]
  split
  · split
    · exact offerSingle_mask _ _
    · rfl
  · rfl

@[simp] theorem armDrain_mask (s : State) : s.armDrain.mask = s.mask := by
  simp only [State.armDrain]
  split
  · split <;> rfl
  · rfl

@[simp] theorem startLowering_mask (c : LowerCause) (t : Nat) (s : State) : (s.startLowering c t).mask = s.mask :=
  (armDrain_mask _).trans ((drainTest_mask _).trans (loweringClamp_mask _ _))

@[simp] theorem deepenLowering_mask (l : Lowering) (c : LowerCause) (t : Nat) (s : State) :
    (s.deepenLowering l c t).mask = s.mask :=
  (armDrain_mask _).trans ((drainTest_mask _).trans (loweringClamp_mask _ _))

@[simp] theorem lowerRequest_mask (c : LowerCause) (t : Nat) (s : State) : (s.lowerRequest c t).mask = s.mask := by
  simp only [State.lowerRequest]
  split
  · split
    · exact (startLowering_mask _ _ _).trans (abandonRaise_mask _ s)
    · exact (signalDrained_mask _ _).trans (abandonRaise_mask _ s)
  · split
    · exact (deepenLowering_mask _ _ _ _).trans (abandonRaise_mask _ s)
    · exact abandonRaise_mask _ s

@[simp] theorem signalWaiters_mask (l : Lowering) (s : State) : (s.signalWaiters l).mask = s.mask := by
  simp only [State.signalWaiters]
  split <;> split
  · exact (leaveDrained_mask _).trans (orderDrained_mask _)
  · exact leaveDrained_mask _
  · exact orderDrained_mask _
  · rfl

@[simp] theorem reviewRelease_mask (s : State) : s.reviewRelease.mask = s.mask := by
  simp only [State.reviewRelease]
  split
  · split <;> rfl
  · rfl

@[simp] theorem refreshHeld_mask (s : State) : s.refreshHeld.mask = s.mask := by
  simp only [State.refreshHeld]
  split
  · split <;> rfl
  · rfl

@[simp] theorem haltGained_mask (e : Bool) (s : State) : (s.haltGained e).mask = s.mask := by
  simp only [State.haltGained]
  split <;> simp

@[simp] theorem haltLost_mask (s : State) : s.haltLost.mask = s.mask := by
  simp [State.haltLost]

@[simp] theorem haltLower_mask (s : State) : s.haltLower.mask = s.mask := by
  simp only [State.haltLower]
  split
  · exact lowerRequest_mask _ _ s
  · rfl

/-! ### Operations of OrderEvents.lean and Conflicts.lean -/

@[simp] theorem clampIfRan_mask (b : Bool) (s : State) : (s.clampIfRan b).mask = s.mask := by
  cases b
  · rfl
  · exact holdOffClamp_mask _ s

@[simp] theorem markEnding_mask (o : OrderRecord) (e : EndState) (r : EndReason) (s : State) :
    (s.markEnding o e r).mask = s.mask := rfl

@[simp] theorem decideEnd_mask (e : EndState) (r : EndReason) (s : State) : (s.decideEnd e r).mask = s.mask := by
  simp only [State.decideEnd]
  split
  · rfl
  · split <;> simp

@[simp] theorem enterDischarging_mask (o : OrderRecord) (s : State) : (s.enterDischarging o).mask = s.mask := rfl

@[simp] theorem orderSettled_mask (s : State) : s.orderSettled.mask = s.mask := by
  simp only [State.orderSettled]
  split
  · rfl
  · split
    · split
      · rfl
      · exact handMachine_mask _ _
    · rfl

@[simp] theorem orderNozzle_mask (h l : Nat) (s : State) : (s.orderNozzle h l).mask = s.mask := by
  simp only [State.orderNozzle]
  split
  · rfl
  · split
    · split
      · rfl
      · split
        · exact decideEnd_mask _ _ s
        · rfl
    · split
      · exact decideEnd_mask _ _ s
      · rfl
    · rfl

@[simp] theorem orderAttributed_mask (h m : Nat) (s : State) : (s.orderAttributed h m).mask = s.mask := by
  simp only [State.orderAttributed]
  split
  · rfl
  · split
    · split
      · split
        · exact decideEnd_mask _ _ _
        · rfl
      · split <;> rfl
      · rfl
      · rfl
    · rfl

@[simp] theorem exhaustionTest_mask (s : State) : s.exhaustionTest.mask = s.mask := by
  simp only [State.exhaustionTest]
  split
  · split <;> rfl
  · rfl

@[simp] theorem feedDrain_mask (s : State) : s.feedDrain.mask = s.mask := by
  simp only [State.feedDrain]
  split
  · rfl
  · split
    · exact orderRelease_mask s
    · rfl

@[simp] theorem chokeRepeated_mask (s : State) : s.chokeRepeated.mask = s.mask := by
  simp only [State.chokeRepeated]
  split
  · exact decideEnd_mask _ _ s
  · rfl

@[simp] theorem orderYield_mask (s : State) : s.orderYield.mask = s.mask := by
  simp only [State.orderYield]
  split
  · rfl
  · split
    · exact orderRelease_mask _
    · exact (orderRelease_mask _).trans (clampIfRan_mask _ _)
    · exact orderRelease_mask s
    · exact orderRelease_mask s
    · exact orderRelease_mask s
    · rfl

@[simp] theorem suspendAtOnce_mask (a : OrderRecord) (s : State) : (s.suspendAtOnce a).mask = s.mask := by
  simp only [State.suspendAtOnce]
  split
  · exact (orderRelease_mask _).trans (withdrawRequest_mask s)
  · exact (orderRelease_mask _).trans (stopTravel_mask s)

@[simp] theorem enterSuspending_mask (a i : OrderRecord) (s : State) : (s.enterSuspending a i).mask = s.mask :=
  (feedDrain_mask _).trans (clampIfRan_mask _ _)

@[simp] theorem place_mask (p : Placement) (o : OrderRecord) (s : State) : (s.place p o).mask = s.mask := by
  simp only [State.place]
  split
  · rfl
  · split
    · exact enterSuspending_mask _ _ s
    · exact activate_mask _ s
  · split
    · exact (activate_mask _ _).trans (suspendAtOnce_mask _ s)
    · exact activate_mask _ s

@[simp] theorem cancelActive_mask (t : Nat) (s : State) : (s.cancelActive t).1.mask = s.mask := by
  simp only [State.cancelActive]
  split
  · split
    · split
      · split <;> rfl
      · rfl
      · exact decideEnd_mask _ _ s
    · split <;> rfl
  · split <;> rfl

@[simp] theorem cancelOrder_mask (t : Nat) (s : State) : (s.cancelOrder t).1.mask = s.mask := by
  simp only [State.cancelOrder]
  split
  · exact recordEnd_mask _ _ _ _
  · split
    · exact recordEnd_mask _ _ _ _
    · split
      · split
        · exact (lowerRequest_mask _ _ _).trans (recordEnd_mask _ _ _ _)
        · exact cancelActive_mask t s
      · exact cancelActive_mask t s

@[simp] theorem yieldClaim_mask (c : ClaimBody) (j : StationNo) (k : Conflict) (s : State) :
    (s.yieldClaim c j k).mask = s.mask := by
  simp [State.yieldClaim, State.reportClaimYielded]

@[simp] theorem conflictTest_mask (f : Found) (s : State) : (s.conflictTest f).mask = s.mask := by
  simp only [State.conflictTest]
  split
  · split
    · split
      · exact yieldClaim_mask _ _ _ s
      · rfl
    · rfl
  · rfl

/-! ### Signals of the station table and the governor -/

@[simp] theorem tableChanged_mask (f : Found) (s : State) : (s.tableChanged f).mask = s.mask := by
  simp [State.tableChanged]

@[simp] theorem signalIfChanged_mask (old : PeerEntry) (j : StationNo) (f : Found) (s : State) :
    (s.signalIfChanged old j f).mask = s.mask := by
  simp only [State.signalIfChanged]
  split
  · exact tableChanged_mask f s
  · rfl

@[simp] theorem setLimitHeld_mask (b : Bool) (s : State) : (s.setLimitHeld b).mask = s.mask := by
  simp only [State.setLimitHeld]
  split <;> rfl

/-! ### What two states of one mask agree on -/

theorem State.pending_of_mask {s t : State} (h : s.mask = t.mask) : s.pending = t.pending := by
  have e : s.mask.pending = t.mask.pending := by rw [h]
  exact e

theorem State.now_of_mask {s t : State} (h : s.mask = t.mask) : s.now = t.now := by
  have e : s.mask.now = t.mask.now := by rw [h]
  exact e

theorem State.inReset_of_mask {s t : State} (h : s.mask = t.mask) : s.inReset = t.inReset := by
  have e : s.mask.inReset = t.mask.inReset := by rw [h]
  exact e

theorem State.table_of_mask {s t : State} (h : s.mask = t.mask) : s.table = t.table := by
  have e : s.mask.table = t.mask.table := by rw [h]
  exact e

theorem State.plan_of_mask {s t : State} (h : s.mask = t.mask) : s.plan = t.plan := by
  have e : s.mask.plan = t.mask.plan := by rw [h]
  exact e

theorem State.grant_of_mask {s t : State} (h : s.mask = t.mask) : s.share.grant = t.share.grant := by
  have e : s.mask.share.grant = t.mask.share.grant := by rw [h]
  exact e

theorem State.halts_of_mask {s t : State} (h : s.mask = t.mask) : s.share.halts = t.share.halts := by
  have e : s.mask.share.halts = t.mask.share.halts := by rw [h]
  exact e

theorem State.ownHalt_of_mask {s t : State} (h : s.mask = t.mask) : s.share.ownHalt = t.share.ownHalt := by
  have e : s.mask.share.ownHalt = t.mask.share.ownHalt := by rw [h]
  exact e

theorem State.haltTimer_of_mask {s t : State} (h : s.mask = t.mask) : s.share.haltTimer = t.share.haltTimer := by
  have e : s.mask.share.haltTimer = t.mask.share.haltTimer := by rw [h]
  exact e

theorem State.intakeCaps_of_mask {s t : State} (h : s.mask = t.mask) : s.share.intakeCaps = t.share.intakeCaps := by
  have e : s.mask.share.intakeCaps = t.mask.share.intakeCaps := by rw [h]
  exact e

theorem State.measuredFeed_of_mask {s t : State} (h : s.mask = t.mask) : s.share.feed = t.share.feed := by
  have e : s.mask.share.feed = t.mask.share.feed := by rw [h]
  exact e

theorem State.beltCap_of_mask {s t : State} (h : s.mask = t.mask) : s.share.beltCap = t.share.beltCap := by
  have e : s.mask.share.beltCap = t.mask.share.beltCap := by rw [h]
  exact e

theorem State.allowed_of_mask {s t : State} (h : s.mask = t.mask) : s.gov.allowed = t.gov.allowed := by
  have e : s.mask.gov.allowed = t.mask.gov.allowed := by rw [h]
  exact e

theorem State.limit_of_mask {s t : State} (h : s.mask = t.mask) : s.gov.limit = t.gov.limit := by
  have e : s.mask.gov.limit = t.mask.gov.limit := by rw [h]
  exact e

theorem State.govTimer_of_mask {s t : State} (h : s.mask = t.mask) : s.gov.timer = t.gov.timer := by
  have e : s.mask.gov.timer = t.mask.gov.timer := by rw [h]
  exact e

theorem State.stationState_of_mask {s t : State} (h : s.mask = t.mask) : s.station.state = t.station.state := by
  have e : s.mask.station.state = t.mask.station.state := by rw [h]
  exact e

theorem State.config_of_mask {s t : State} (h : s.mask = t.mask) : s.station.config = t.station.config := by
  have e : s.mask.station.config = t.mask.station.config := by rw [h]
  exact e

theorem State.straps_of_mask {s t : State} (h : s.mask = t.mask) : s.station.straps = t.station.straps := by
  have e : s.mask.station.straps = t.mask.station.straps := by rw [h]
  exact e

theorem State.urgent_of_mask {s t : State} (h : s.mask = t.mask) : s.link.urgent = t.link.urgent := by
  have e : s.mask.link.urgent = t.mask.link.urgent := by rw [h]
  exact e

theorem State.rank_of_mask {s t : State} (h : s.mask = t.mask) : s.link.rank = t.link.rank := by
  have e : s.mask.link.rank = t.mask.link.rank := by rw [h]
  exact e

theorem State.txFaults_of_mask {s t : State} (h : s.mask = t.mask) : s.link.txFaults = t.link.txFaults := by
  have e : s.mask.link.txFaults = t.mask.link.txFaults := by rw [h]
  exact e

theorem State.rxFaults_of_mask {s t : State} (h : s.mask = t.mask) : s.link.rxFaults = t.link.rxFaults := by
  have e : s.mask.link.rxFaults = t.mask.link.rxFaults := by rw [h]
  exact e

theorem State.accepted_of_mask {s t : State} (h : s.mask = t.mask) : s.machine.accepted = t.machine.accepted := by
  have e : s.mask.machine.accepted = t.mask.machine.accepted := by rw [h]
  exact e

theorem State.attrHold_of_mask {s t : State} (h : s.mask = t.mask) : s.machine.attrHold = t.machine.attrHold := by
  have e : s.mask.machine.attrHold = t.mask.machine.attrHold := by rw [h]
  exact e

theorem State.carry_of_mask {s t : State} (h : s.mask = t.mask) : s.machine.carry = t.machine.carry := by
  have e : s.mask.machine.carry = t.mask.machine.carry := by rw [h]
  exact e

theorem State.last_of_mask {s t : State} (h : s.mask = t.mask) : s.machine.last = t.machine.last := by
  have e : s.mask.machine.last = t.mask.machine.last := by rw [h]
  exact e

theorem State.choke_of_mask {s t : State} (h : s.mask = t.mask) : s.machine.choke = t.machine.choke := by
  have e : s.mask.machine.choke = t.mask.machine.choke := by rw [h]
  exact e

theorem State.sendingResponse_of_mask {s t : State} (h : s.mask = t.mask) : s.console.sending = t.console.sending := by
  have e : s.mask.console.sending = t.mask.console.sending := by rw [h]
  exact e

theorem State.waitingResponses_of_mask {s t : State} (h : s.mask = t.mask) : s.console.waiting = t.console.waiting := by
  have e : s.mask.console.waiting = t.mask.console.waiting := by rw [h]
  exact e

theorem State.consoleErrors_of_mask {s t : State} (h : s.mask = t.mask) : s.console.errors = t.console.errors := by
  have e : s.mask.console.errors = t.mask.console.errors := by rw [h]
  exact e

end Sys2Proof.Machine
end

