-- ==== Sys2Proof/Laws/State.lean ====
section
/-! SUPPORT. One lemma per block and per record update of State: what the update leaves in each block, true by `rfl`, so
that no later proof unfolds an update. -/

namespace Sys2Proof.Machine

/-! ### advance -/

@[simp] theorem advance_pending (s : State) (t : Nat) : (s.advance t).pending = s.pending := rfl
@[simp] theorem advance_now (s : State) (t : Nat) : (s.advance t).now = max s.now t := rfl
@[simp] theorem advance_inReset (s : State) (t : Nat) : (s.advance t).inReset = s.inReset := rfl
@[simp] theorem advance_station (s : State) (t : Nat) : (s.advance t).station = s.station := rfl
@[simp] theorem advance_link (s : State) (t : Nat) : (s.advance t).link = s.link := rfl
@[simp] theorem advance_table (s : State) (t : Nat) : (s.advance t).table = s.table := rfl
@[simp] theorem advance_share (s : State) (t : Nat) : (s.advance t).share = s.share := rfl
@[simp] theorem advance_gov (s : State) (t : Nat) : (s.advance t).gov = s.gov := rfl
@[simp] theorem advance_plan (s : State) (t : Nat) : (s.advance t).plan = s.plan := rfl
@[simp] theorem advance_claim (s : State) (t : Nat) : (s.advance t).claim = s.claim := rfl
@[simp] theorem advance_order (s : State) (t : Nat) : (s.advance t).order = s.order := rfl
@[simp] theorem advance_machine (s : State) (t : Nat) : (s.advance t).machine = s.machine := rfl
@[simp] theorem advance_console (s : State) (t : Nat) : (s.advance t).console = s.console := rfl

/-! ### setActive -/

@[simp] theorem setActive_pending (s : State) (o : Option OrderRecord) : (s.setActive o).pending = s.pending := rfl
@[simp] theorem setActive_now (s : State) (o : Option OrderRecord) : (s.setActive o).now = s.now := rfl
@[simp] theorem setActive_inReset (s : State) (o : Option OrderRecord) : (s.setActive o).inReset = s.inReset := rfl
@[simp] theorem setActive_station (s : State) (o : Option OrderRecord) : (s.setActive o).station = s.station := rfl
@[simp] theorem setActive_link (s : State) (o : Option OrderRecord) : (s.setActive o).link = s.link := rfl
@[simp] theorem setActive_table (s : State) (o : Option OrderRecord) : (s.setActive o).table = s.table := rfl
@[simp] theorem setActive_share (s : State) (o : Option OrderRecord) : (s.setActive o).share = s.share := rfl
@[simp] theorem setActive_gov (s : State) (o : Option OrderRecord) : (s.setActive o).gov = s.gov := rfl
@[simp] theorem setActive_plan (s : State) (o : Option OrderRecord) : (s.setActive o).plan = s.plan := rfl
@[simp] theorem setActive_claim (s : State) (o : Option OrderRecord) : (s.setActive o).claim = s.claim := rfl
@[simp] theorem setActive_order (s : State) (o : Option OrderRecord) : (s.setActive o).order = { s.order with active := o } := rfl
@[simp] theorem setActive_machine (s : State) (o : Option OrderRecord) : (s.setActive o).machine = s.machine := rfl
@[simp] theorem setActive_console (s : State) (o : Option OrderRecord) : (s.setActive o).console = s.console := rfl

/-! ### setRaise -/

@[simp] theorem setRaise_pending (s : State) (r : Raise) : (s.setRaise r).pending = s.pending := rfl
@[simp] theorem setRaise_now (s : State) (r : Raise) : (s.setRaise r).now = s.now := rfl
@[simp] theorem setRaise_inReset (s : State) (r : Raise) : (s.setRaise r).inReset = s.inReset := rfl
@[simp] theorem setRaise_station (s : State) (r : Raise) : (s.setRaise r).station = s.station := rfl
@[simp] theorem setRaise_link (s : State) (r : Raise) : (s.setRaise r).link = s.link := rfl
@[simp] theorem setRaise_table (s : State) (r : Raise) : (s.setRaise r).table = s.table := rfl
@[simp] theorem setRaise_share (s : State) (r : Raise) : (s.setRaise r).share = { s.share with raise := r } := rfl
@[simp] theorem setRaise_gov (s : State) (r : Raise) : (s.setRaise r).gov = s.gov := rfl
@[simp] theorem setRaise_plan (s : State) (r : Raise) : (s.setRaise r).plan = s.plan := rfl
@[simp] theorem setRaise_claim (s : State) (r : Raise) : (s.setRaise r).claim = s.claim := rfl
@[simp] theorem setRaise_order (s : State) (r : Raise) : (s.setRaise r).order = s.order := rfl
@[simp] theorem setRaise_machine (s : State) (r : Raise) : (s.setRaise r).machine = s.machine := rfl
@[simp] theorem setRaise_console (s : State) (r : Raise) : (s.setRaise r).console = s.console := rfl

/-! ### setLowering -/

@[simp] theorem setLowering_pending (s : State) (l : Option Lowering) : (s.setLowering l).pending = s.pending := rfl
@[simp] theorem setLowering_now (s : State) (l : Option Lowering) : (s.setLowering l).now = s.now := rfl
@[simp] theorem setLowering_inReset (s : State) (l : Option Lowering) : (s.setLowering l).inReset = s.inReset := rfl
@[simp] theorem setLowering_station (s : State) (l : Option Lowering) : (s.setLowering l).station = s.station := rfl
@[simp] theorem setLowering_link (s : State) (l : Option Lowering) : (s.setLowering l).link = s.link := rfl
@[simp] theorem setLowering_table (s : State) (l : Option Lowering) : (s.setLowering l).table = s.table := rfl
@[simp] theorem setLowering_share (s : State) (l : Option Lowering) : (s.setLowering l).share = { s.share with lowering := l } := rfl
@[simp] theorem setLowering_gov (s : State) (l : Option Lowering) : (s.setLowering l).gov = s.gov := rfl
@[simp] theorem setLowering_plan (s : State) (l : Option Lowering) : (s.setLowering l).plan = s.plan := rfl
@[simp] theorem setLowering_claim (s : State) (l : Option Lowering) : (s.setLowering l).claim = s.claim := rfl
@[simp] theorem setLowering_order (s : State) (l : Option Lowering) : (s.setLowering l).order = s.order := rfl
@[simp] theorem setLowering_machine (s : State) (l : Option Lowering) : (s.setLowering l).machine = s.machine := rfl
@[simp] theorem setLowering_console (s : State) (l : Option Lowering) : (s.setLowering l).console = s.console := rfl

/-! ### setStation -/

@[simp] theorem setStation_pending (s : State) (st : StationState) : (s.setStation st).pending = s.pending := rfl
@[simp] theorem setStation_now (s : State) (st : StationState) : (s.setStation st).now = s.now := rfl
@[simp] theorem setStation_inReset (s : State) (st : StationState) : (s.setStation st).inReset = s.inReset := rfl
@[simp] theorem setStation_station (s : State) (st : StationState) : (s.setStation st).station = { s.station with state := st } := rfl
@[simp] theorem setStation_link (s : State) (st : StationState) : (s.setStation st).link = s.link := rfl
@[simp] theorem setStation_table (s : State) (st : StationState) : (s.setStation st).table = s.table := rfl
@[simp] theorem setStation_share (s : State) (st : StationState) : (s.setStation st).share = s.share := rfl
@[simp] theorem setStation_gov (s : State) (st : StationState) : (s.setStation st).gov = s.gov := rfl
@[simp] theorem setStation_plan (s : State) (st : StationState) : (s.setStation st).plan = s.plan := rfl
@[simp] theorem setStation_claim (s : State) (st : StationState) : (s.setStation st).claim = s.claim := rfl
@[simp] theorem setStation_order (s : State) (st : StationState) : (s.setStation st).order = s.order := rfl
@[simp] theorem setStation_machine (s : State) (st : StationState) : (s.setStation st).machine = s.machine := rfl
@[simp] theorem setStation_console (s : State) (st : StationState) : (s.setStation st).console = s.console := rfl

/-! ### setEntry -/

@[simp] theorem setEntry_pending (s : State) (j : StationNo) (e : PeerEntry) : (s.setEntry j e).pending = s.pending := rfl
@[simp] theorem setEntry_now (s : State) (j : StationNo) (e : PeerEntry) : (s.setEntry j e).now = s.now := rfl
@[simp] theorem setEntry_inReset (s : State) (j : StationNo) (e : PeerEntry) : (s.setEntry j e).inReset = s.inReset := rfl
@[simp] theorem setEntry_station (s : State) (j : StationNo) (e : PeerEntry) : (s.setEntry j e).station = s.station := rfl
@[simp] theorem setEntry_link (s : State) (j : StationNo) (e : PeerEntry) : (s.setEntry j e).link = s.link := rfl
@[simp] theorem setEntry_table (s : State) (j : StationNo) (e : PeerEntry) : (s.setEntry j e).table = { s.table with entries := s.table.entries.set j.val e j.isLt } := rfl
@[simp] theorem setEntry_share (s : State) (j : StationNo) (e : PeerEntry) : (s.setEntry j e).share = s.share := rfl
@[simp] theorem setEntry_gov (s : State) (j : StationNo) (e : PeerEntry) : (s.setEntry j e).gov = s.gov := rfl
@[simp] theorem setEntry_plan (s : State) (j : StationNo) (e : PeerEntry) : (s.setEntry j e).plan = s.plan := rfl
@[simp] theorem setEntry_claim (s : State) (j : StationNo) (e : PeerEntry) : (s.setEntry j e).claim = s.claim := rfl
@[simp] theorem setEntry_order (s : State) (j : StationNo) (e : PeerEntry) : (s.setEntry j e).order = s.order := rfl
@[simp] theorem setEntry_machine (s : State) (j : StationNo) (e : PeerEntry) : (s.setEntry j e).machine = s.machine := rfl
@[simp] theorem setEntry_console (s : State) (j : StationNo) (e : PeerEntry) : (s.setEntry j e).console = s.console := rfl

/-! ### setLimit -/

@[simp] theorem setLimit_pending (s : State) (l : Option ClosedLimit) : (s.setLimit l).pending = s.pending := rfl
@[simp] theorem setLimit_now (s : State) (l : Option ClosedLimit) : (s.setLimit l).now = s.now := rfl
@[simp] theorem setLimit_inReset (s : State) (l : Option ClosedLimit) : (s.setLimit l).inReset = s.inReset := rfl
@[simp] theorem setLimit_station (s : State) (l : Option ClosedLimit) : (s.setLimit l).station = s.station := rfl
@[simp] theorem setLimit_link (s : State) (l : Option ClosedLimit) : (s.setLimit l).link = s.link := rfl
@[simp] theorem setLimit_table (s : State) (l : Option ClosedLimit) : (s.setLimit l).table = s.table := rfl
@[simp] theorem setLimit_share (s : State) (l : Option ClosedLimit) : (s.setLimit l).share = s.share := rfl
@[simp] theorem setLimit_gov (s : State) (l : Option ClosedLimit) : (s.setLimit l).gov = { s.gov with limit := l } := rfl
@[simp] theorem setLimit_plan (s : State) (l : Option ClosedLimit) : (s.setLimit l).plan = s.plan := rfl
@[simp] theorem setLimit_claim (s : State) (l : Option ClosedLimit) : (s.setLimit l).claim = s.claim := rfl
@[simp] theorem setLimit_order (s : State) (l : Option ClosedLimit) : (s.setLimit l).order = s.order := rfl
@[simp] theorem setLimit_machine (s : State) (l : Option ClosedLimit) : (s.setLimit l).machine = s.machine := rfl
@[simp] theorem setLimit_console (s : State) (l : Option ClosedLimit) : (s.setLimit l).console = s.console := rfl

/-! ### withdraw -/

@[simp] theorem withdraw_pending (s : State) (k : Kind) : (s.withdraw k).pending = s.pending := rfl
@[simp] theorem withdraw_now (s : State) (k : Kind) : (s.withdraw k).now = s.now := rfl
@[simp] theorem withdraw_inReset (s : State) (k : Kind) : (s.withdraw k).inReset = s.inReset := rfl
@[simp] theorem withdraw_station (s : State) (k : Kind) : (s.withdraw k).station = s.station := rfl
@[simp] theorem withdraw_link (s : State) (k : Kind) : (s.withdraw k).link = s.link.withdraw k := rfl
@[simp] theorem withdraw_table (s : State) (k : Kind) : (s.withdraw k).table = s.table := rfl
@[simp] theorem withdraw_share (s : State) (k : Kind) : (s.withdraw k).share = s.share := rfl
@[simp] theorem withdraw_gov (s : State) (k : Kind) : (s.withdraw k).gov = s.gov := rfl
@[simp] theorem withdraw_plan (s : State) (k : Kind) : (s.withdraw k).plan = s.plan := rfl
@[simp] theorem withdraw_claim (s : State) (k : Kind) : (s.withdraw k).claim = s.claim := rfl
@[simp] theorem withdraw_order (s : State) (k : Kind) : (s.withdraw k).order = s.order := rfl
@[simp] theorem withdraw_machine (s : State) (k : Kind) : (s.withdraw k).machine = s.machine := rfl
@[simp] theorem withdraw_console (s : State) (k : Kind) : (s.withdraw k).console = s.console := rfl

/-! ### recordMeasure -/

@[simp] theorem recordMeasure_pending (s : State) (m : Measure) : (s.recordMeasure m).pending = s.pending := rfl
@[simp] theorem recordMeasure_now (s : State) (m : Measure) : (s.recordMeasure m).now = s.now := rfl
@[simp] theorem recordMeasure_inReset (s : State) (m : Measure) : (s.recordMeasure m).inReset = s.inReset := rfl
@[simp] theorem recordMeasure_station (s : State) (m : Measure) : (s.recordMeasure m).station = s.station := rfl
@[simp] theorem recordMeasure_link (s : State) (m : Measure) : (s.recordMeasure m).link = s.link := rfl
@[simp] theorem recordMeasure_table (s : State) (m : Measure) : (s.recordMeasure m).table = s.table := rfl
@[simp] theorem recordMeasure_share (s : State) (m : Measure) : (s.recordMeasure m).share = s.share := rfl
@[simp] theorem recordMeasure_gov (s : State) (m : Measure) : (s.recordMeasure m).gov = s.gov := rfl
@[simp] theorem recordMeasure_plan (s : State) (m : Measure) : (s.recordMeasure m).plan = s.plan := rfl
@[simp] theorem recordMeasure_claim (s : State) (m : Measure) : (s.recordMeasure m).claim = s.claim := rfl
@[simp] theorem recordMeasure_order (s : State) (m : Measure) : (s.recordMeasure m).order = s.order := rfl
@[simp] theorem recordMeasure_machine (s : State) (m : Measure) : (s.recordMeasure m).machine = { s.machine with last := some m } := rfl
@[simp] theorem recordMeasure_console (s : State) (m : Measure) : (s.recordMeasure m).console = s.console := rfl

/-! ### recordPosition -/

@[simp] theorem recordPosition_pending (s : State) (m : Measure) : (s.recordPosition m).pending = s.pending := rfl
@[simp] theorem recordPosition_now (s : State) (m : Measure) : (s.recordPosition m).now = s.now := rfl
@[simp] theorem recordPosition_inReset (s : State) (m : Measure) : (s.recordPosition m).inReset = s.inReset := rfl
@[simp] theorem recordPosition_station (s : State) (m : Measure) : (s.recordPosition m).station = s.station := rfl
@[simp] theorem recordPosition_link (s : State) (m : Measure) : (s.recordPosition m).link = s.link := rfl
@[simp] theorem recordPosition_table (s : State) (m : Measure) : (s.recordPosition m).table = s.table := rfl
@[simp] theorem recordPosition_share (s : State) (m : Measure) : (s.recordPosition m).share = s.share := rfl
@[simp] theorem recordPosition_gov (s : State) (m : Measure) : (s.recordPosition m).gov = s.gov := rfl
@[simp] theorem recordPosition_plan (s : State) (m : Measure) : (s.recordPosition m).plan = s.plan := rfl
@[simp] theorem recordPosition_claim (s : State) (m : Measure) : (s.recordPosition m).claim = s.claim := rfl
@[simp] theorem recordPosition_order (s : State) (m : Measure) : (s.recordPosition m).order = s.order := rfl
@[simp] theorem recordPosition_machine (s : State) (m : Measure) : (s.recordPosition m).machine = { s.machine with position := some m.position, announced := if s.isUnloader then some m.position else s.machine.announced } := rfl
@[simp] theorem recordPosition_console (s : State) (m : Measure) : (s.recordPosition m).console = s.console := rfl

/-! ### emptyQueues -/

@[simp] theorem emptyQueues_pending (s : State) : (s.emptyQueues).pending = s.pending := rfl
@[simp] theorem emptyQueues_now (s : State) : (s.emptyQueues).now = s.now := rfl
@[simp] theorem emptyQueues_inReset (s : State) : (s.emptyQueues).inReset = s.inReset := rfl
@[simp] theorem emptyQueues_station (s : State) : (s.emptyQueues).station = s.station := rfl
@[simp] theorem emptyQueues_link (s : State) : (s.emptyQueues).link = { s.link with urgent := [], normal := [], held := none } := rfl
@[simp] theorem emptyQueues_table (s : State) : (s.emptyQueues).table = s.table := rfl
@[simp] theorem emptyQueues_share (s : State) : (s.emptyQueues).share = s.share := rfl
@[simp] theorem emptyQueues_gov (s : State) : (s.emptyQueues).gov = s.gov := rfl
@[simp] theorem emptyQueues_plan (s : State) : (s.emptyQueues).plan = s.plan := rfl
@[simp] theorem emptyQueues_claim (s : State) : (s.emptyQueues).claim = s.claim := rfl
@[simp] theorem emptyQueues_order (s : State) : (s.emptyQueues).order = s.order := rfl
@[simp] theorem emptyQueues_machine (s : State) : (s.emptyQueues).machine = s.machine := rfl
@[simp] theorem emptyQueues_console (s : State) : (s.emptyQueues).console = s.console := rfl

/-! ### addUnattributed -/

@[simp] theorem addUnattributed_pending (s : State) (m : Nat) : (s.addUnattributed m).pending = s.pending := rfl
@[simp] theorem addUnattributed_now (s : State) (m : Nat) : (s.addUnattributed m).now = s.now := rfl
@[simp] theorem addUnattributed_inReset (s : State) (m : Nat) : (s.addUnattributed m).inReset = s.inReset := rfl
@[simp] theorem addUnattributed_station (s : State) (m : Nat) : (s.addUnattributed m).station = s.station := rfl
@[simp] theorem addUnattributed_link (s : State) (m : Nat) : (s.addUnattributed m).link = s.link := rfl
@[simp] theorem addUnattributed_table (s : State) (m : Nat) : (s.addUnattributed m).table = s.table := rfl
@[simp] theorem addUnattributed_share (s : State) (m : Nat) : (s.addUnattributed m).share = s.share := rfl
@[simp] theorem addUnattributed_gov (s : State) (m : Nat) : (s.addUnattributed m).gov = s.gov := rfl
@[simp] theorem addUnattributed_plan (s : State) (m : Nat) : (s.addUnattributed m).plan = { s.plan with unattributed := s.plan.unattributed + m } := rfl
@[simp] theorem addUnattributed_claim (s : State) (m : Nat) : (s.addUnattributed m).claim = s.claim := rfl
@[simp] theorem addUnattributed_order (s : State) (m : Nat) : (s.addUnattributed m).order = s.order := rfl
@[simp] theorem addUnattributed_machine (s : State) (m : Nat) : (s.addUnattributed m).machine = s.machine := rfl
@[simp] theorem addUnattributed_console (s : State) (m : Nat) : (s.addUnattributed m).console = s.console := rfl

/-! ### machineError -/

@[simp] theorem machineError_pending (s : State) : (s.machineError).pending = s.pending := rfl
@[simp] theorem machineError_now (s : State) : (s.machineError).now = s.now := rfl
@[simp] theorem machineError_inReset (s : State) : (s.machineError).inReset = s.inReset := rfl
@[simp] theorem machineError_station (s : State) : (s.machineError).station = s.station := rfl
@[simp] theorem machineError_link (s : State) : (s.machineError).link = s.link := rfl
@[simp] theorem machineError_table (s : State) : (s.machineError).table = s.table := rfl
@[simp] theorem machineError_share (s : State) : (s.machineError).share = s.share := rfl
@[simp] theorem machineError_gov (s : State) : (s.machineError).gov = s.gov := rfl
@[simp] theorem machineError_plan (s : State) : (s.machineError).plan = s.plan := rfl
@[simp] theorem machineError_claim (s : State) : (s.machineError).claim = s.claim := rfl
@[simp] theorem machineError_order (s : State) : (s.machineError).order = s.order := rfl
@[simp] theorem machineError_machine (s : State) : (s.machineError).machine = { s.machine with errors := holdAt Config.countMax s.machine.errors 1 } := rfl
@[simp] theorem machineError_console (s : State) : (s.machineError).console = s.console := rfl

/-! ### consoleError -/

@[simp] theorem consoleError_pending (s : State) : (s.consoleError).pending = s.pending := rfl
@[simp] theorem consoleError_now (s : State) : (s.consoleError).now = s.now := rfl
@[simp] theorem consoleError_inReset (s : State) : (s.consoleError).inReset = s.inReset := rfl
@[simp] theorem consoleError_station (s : State) : (s.consoleError).station = s.station := rfl
@[simp] theorem consoleError_link (s : State) : (s.consoleError).link = s.link := rfl
@[simp] theorem consoleError_table (s : State) : (s.consoleError).table = s.table := rfl
@[simp] theorem consoleError_share (s : State) : (s.consoleError).share = s.share := rfl
@[simp] theorem consoleError_gov (s : State) : (s.consoleError).gov = s.gov := rfl
@[simp] theorem consoleError_plan (s : State) : (s.consoleError).plan = s.plan := rfl
@[simp] theorem consoleError_claim (s : State) : (s.consoleError).claim = s.claim := rfl
@[simp] theorem consoleError_order (s : State) : (s.consoleError).order = s.order := rfl
@[simp] theorem consoleError_machine (s : State) : (s.consoleError).machine = s.machine := rfl
@[simp] theorem consoleError_console (s : State) : (s.consoleError).console = { s.console with errors := holdAt Config.countMax s.console.errors 1 } := rfl

/-! ### keepAck -/

@[simp] theorem keepAck_pending (s : State) (a : Bool) : (s.keepAck a).pending = s.pending := rfl
@[simp] theorem keepAck_now (s : State) (a : Bool) : (s.keepAck a).now = s.now := rfl
@[simp] theorem keepAck_inReset (s : State) (a : Bool) : (s.keepAck a).inReset = s.inReset := rfl
@[simp] theorem keepAck_station (s : State) (a : Bool) : (s.keepAck a).station = s.station := rfl
@[simp] theorem keepAck_link (s : State) (a : Bool) : (s.keepAck a).link = { s.link with ackDriven := a } := rfl
@[simp] theorem keepAck_table (s : State) (a : Bool) : (s.keepAck a).table = s.table := rfl
@[simp] theorem keepAck_share (s : State) (a : Bool) : (s.keepAck a).share = s.share := rfl
@[simp] theorem keepAck_gov (s : State) (a : Bool) : (s.keepAck a).gov = s.gov := rfl
@[simp] theorem keepAck_plan (s : State) (a : Bool) : (s.keepAck a).plan = s.plan := rfl
@[simp] theorem keepAck_claim (s : State) (a : Bool) : (s.keepAck a).claim = s.claim := rfl
@[simp] theorem keepAck_order (s : State) (a : Bool) : (s.keepAck a).order = s.order := rfl
@[simp] theorem keepAck_machine (s : State) (a : Bool) : (s.keepAck a).machine = s.machine := rfl
@[simp] theorem keepAck_console (s : State) (a : Bool) : (s.keepAck a).console = s.console := rfl

/-! ### markOccupancy -/

@[simp] theorem markOccupancy_pending (s : State) (a : Bool) (o : Occupancy) : (s.markOccupancy a o).pending = s.pending := rfl
@[simp] theorem markOccupancy_now (s : State) (a : Bool) (o : Occupancy) : (s.markOccupancy a o).now = s.now := rfl
@[simp] theorem markOccupancy_inReset (s : State) (a : Bool) (o : Occupancy) : (s.markOccupancy a o).inReset = s.inReset := rfl
@[simp] theorem markOccupancy_station (s : State) (a : Bool) (o : Occupancy) : (s.markOccupancy a o).station = s.station := rfl
@[simp] theorem markOccupancy_link (s : State) (a : Bool) (o : Occupancy) : (s.markOccupancy a o).link = { s.link with ackDriven := a && s.transmits, occupancy := o } := rfl
@[simp] theorem markOccupancy_table (s : State) (a : Bool) (o : Occupancy) : (s.markOccupancy a o).table = s.table := rfl
@[simp] theorem markOccupancy_share (s : State) (a : Bool) (o : Occupancy) : (s.markOccupancy a o).share = s.share := rfl
@[simp] theorem markOccupancy_gov (s : State) (a : Bool) (o : Occupancy) : (s.markOccupancy a o).gov = s.gov := rfl
@[simp] theorem markOccupancy_plan (s : State) (a : Bool) (o : Occupancy) : (s.markOccupancy a o).plan = s.plan := rfl
@[simp] theorem markOccupancy_claim (s : State) (a : Bool) (o : Occupancy) : (s.markOccupancy a o).claim = s.claim := rfl
@[simp] theorem markOccupancy_order (s : State) (a : Bool) (o : Occupancy) : (s.markOccupancy a o).order = s.order := rfl
@[simp] theorem markOccupancy_machine (s : State) (a : Bool) (o : Occupancy) : (s.markOccupancy a o).machine = s.machine := rfl
@[simp] theorem markOccupancy_console (s : State) (a : Bool) (o : Occupancy) : (s.markOccupancy a o).console = s.console := rfl

/-! ### dropClaim -/

@[simp] theorem dropClaim_pending (s : State) : (s.dropClaim).pending = s.pending := rfl
@[simp] theorem dropClaim_now (s : State) : (s.dropClaim).now = s.now := rfl
@[simp] theorem dropClaim_inReset (s : State) : (s.dropClaim).inReset = s.inReset := rfl
@[simp] theorem dropClaim_station (s : State) : (s.dropClaim).station = s.station := rfl
@[simp] theorem dropClaim_link (s : State) : (s.dropClaim).link = s.link := rfl
@[simp] theorem dropClaim_table (s : State) : (s.dropClaim).table = s.table := rfl
@[simp] theorem dropClaim_share (s : State) : (s.dropClaim).share = s.share := rfl
@[simp] theorem dropClaim_gov (s : State) : (s.dropClaim).gov = s.gov := rfl
@[simp] theorem dropClaim_plan (s : State) : (s.dropClaim).plan = s.plan := rfl
@[simp] theorem dropClaim_claim (s : State) : (s.dropClaim).claim = { s.claim with phase := .none, own := none } := rfl
@[simp] theorem dropClaim_order (s : State) : (s.dropClaim).order = s.order := rfl
@[simp] theorem dropClaim_machine (s : State) : (s.dropClaim).machine = s.machine := rfl
@[simp] theorem dropClaim_console (s : State) : (s.dropClaim).console = s.console := rfl

/-! ### Conditions that the clock does not change -/

@[simp] theorem advance_transmits (s : State) (t : Nat) : (s.advance t).transmits = s.transmits := rfl
@[simp] theorem advance_onQuay (s : State) (t : Nat) : (s.advance t).onQuay = s.onQuay := rfl
@[simp] theorem advance_working (s : State) (t : Nat) : (s.advance t).working = s.working := rfl
@[simp] theorem advance_isUnloader (s : State) (t : Nat) : (s.advance t).isUnloader = s.isUnloader := rfl
@[simp] theorem advance_isIntake (s : State) (t : Nat) : (s.advance t).isIntake = s.isIntake := rfl
@[simp] theorem advance_own (s : State) (t : Nat) : (s.advance t).own = s.own := rfl
@[simp] theorem advance_peers (s : State) (t : Nat) : (s.advance t).peers = s.peers := rfl
@[simp] theorem advance_halted (s : State) (t : Nat) : (s.advance t).halted = s.halted := rfl
@[simp] theorem advance_readyPlan (s : State) (t : Nat) : (s.advance t).readyPlan = s.readyPlan := rfl
@[simp] theorem advance_nozzle (s : State) (t : Nat) : (s.advance t).nozzle = s.nozzle := rfl
@[simp] theorem advance_machineCap (s : State) (t : Nat) : (s.advance t).machineCap = s.machineCap := rfl
@[simp] theorem advance_discharging (s : State) (t : Nat) : (s.advance t).discharging = s.discharging := rfl
@[simp] theorem advance_running (s : State) (t : Nat) : (s.advance t).running = s.running := rfl
@[simp] theorem advance_machineHeld (s : State) (t : Nat) : (s.advance t).machineHeld = s.machineHeld := rfl
@[simp] theorem advance_linkHeld (s : State) (t : Nat) : (s.advance t).linkHeld = s.linkHeld := rfl
@[simp] theorem advance_heldNow (s : State) (t : Nat) : (s.advance t).heldNow = s.heldNow := rfl
@[simp] theorem advance_orderHeld (s : State) (t : Nat) : (s.advance t).orderHeld = s.orderHeld := rfl
@[simp] theorem advance_anyOrder (s : State) (t : Nat) : (s.advance t).anyOrder = s.anyOrder := rfl
@[simp] theorem advance_sumReserved (s : State) (t : Nat) : (s.advance t).sumReserved = s.sumReserved := rfl
@[simp] theorem advance_effectiveCapacity (s : State) (t : Nat) : (s.advance t).effectiveCapacity = s.effectiveCapacity := rfl
@[simp] theorem advance_headroom (s : State) (t : Nat) : (s.advance t).headroom = s.headroom := rfl
@[simp] theorem advance_increment (s : State) (t : Nat) : (s.advance t).increment = s.increment := rfl
@[simp] theorem advance_announcedPlan (s : State) (t : Nat) : (s.advance t).announcedPlan = s.announcedPlan := rfl
@[simp] theorem advance_ownPairs (s : State) (t : Nat) : (s.advance t).ownPairs = s.ownPairs := rfl
@[simp] theorem advance_listens (s : State) (t : Nat) : (s.advance t).listens = s.listens := rfl
@[simp] theorem advance_urgentFull (s : State) (t : Nat) : (s.advance t).urgentFull = s.urgentFull := rfl
@[simp] theorem advance_startCause (s : State) (t : Nat) : (s.advance t).startCause = s.startCause := rfl
@[simp] theorem advance_helloBody (s : State) (t : Nat) : (s.advance t).helloBody = s.helloBody := rfl
@[simp] theorem advance_govTerms (s : State) (t : Nat) : (s.advance t).govTerms = s.govTerms := rfl
@[simp] theorem advance_statusSeq (s : State) (t : Nat) : (s.advance t).statusSeq = s.statusSeq := rfl
@[simp] theorem advance_announcedSlot (s : State) (t : Nat) : (s.advance t).announcedSlot = s.announcedSlot := rfl
@[simp] theorem advance_entry (s : State) (t : Nat) (j : StationNo) : (s.advance t).entry j = s.entry j := rfl
@[simp] theorem advance_planPos (s : State) (t : Nat) (h l : Nat) : (s.advance t).planPos h l = s.planPos h l := rfl
@[simp] theorem advance_ownCell (s : State) (t : Nat) (h : Nat) : (s.advance t).ownCell h = s.ownCell h := rfl
@[simp] theorem advance_cell (s : State) (t : Nat) (h : Nat) (j : StationNo) : (s.advance t).cell h j = s.cell h j := rfl
@[simp] theorem advance_configNat (s : State) (t : Nat) (f : ConfigRecord → Nat) : (s.advance t).configNat f = s.configNat f := rfl
@[simp] theorem advance_feedAtMost (s : State) (t : Nat) (n : Nat) : State.feedAtMost n (s.advance t) = State.feedAtMost n s := rfl
@[simp] theorem advance_claimBlocked (s : State) (t : Nat) (r : ClaimRequest) : State.claimBlocked r (s.advance t) = State.claimBlocked r s := rfl
@[simp] theorem advance_conflictWith (s : State) (t : Nat) (c : ClaimBody) (j : StationNo) : State.conflictWith c j (s.advance t) = State.conflictWith c j s := rfl
@[simp] theorem advance_placement (s : State) (t : Nat) (p : Nat) : State.placement p (s.advance t) = State.placement p s := rfl
@[simp] theorem advance_tagHeld (s : State) (t : Nat) (g : Nat) : State.tagHeld g (s.advance t) = State.tagHeld g s := rfl
@[simp] theorem advance_holdOff (s : State) (t : Nat) (b r : Nat) : State.holdOff b r (s.advance t) = State.holdOff b r s := rfl

/-! ### How a command reaches the state -/

/-- A command taken outside a reset runs at its time. -/
theorem live_run (t : Nat) (k : State → State) (s : State) (h : s.inReset = none) : s.live t k = k (s.advance t) := by
  simp [State.live, h]

/-- An expiry outside a reset runs at its deadline. -/
theorem expire_run (d : Nat) (k : State → State) (s : State) (h : s.inReset = none) :
    s.expire (some d) k = k (s.advance d) := by
  simp [State.expire, State.live, h]

/-- A stopped timer does not expire. -/
@[simp] theorem expire_none (k : State → State) (s : State) : s.expire none k = s := rfl

/-- A console command outside a reset, with room for its response, is handled and answered. -/
theorem command_run (tag : BitVec 16) (handle : State → Handled) (s : State) (h : s.console.waiting.length < 4) :
    s.command tag handle =
      { (handle s).1 with console := (handle s).1.console.respond ⟨tag, (handle s).2.1, (handle s).2.2⟩ } := by
  simp only [State.command]
  rw [if_neg (by omega)]

end Sys2Proof.Machine
end

