-- ==== Sys2Proof/Laws/Ops.lean ====
section
/-! SUPPORT. What each shared operation can do, once: the report and response queues, the machine output, the transmit
queues, the halt set, and the order queue. A proof cites these and does not unfold the operation. -/

namespace Sys2Proof.Machine

/-! ### Console -/

/-- A report changes the console alone, by one `enqueue` where its level passes (R186, R187). -/
theorem State.report_eq (l : Level) (src : Source) (code : Nat) (args : List Nat) (s : State) :
    s.report l src code args = { s with
      console := if l.code ≤ s.station.reportLevel then s.console.enqueue ⟨l, src, code, args.map reportWord⟩
        else s.console } := by
  unfold State.report
  split <;> rfl

/-- A report appended keeps the queue within 16, or is counted lost (R187). -/
theorem Console.enqueue_ok {c : Console} (h : c.ok) (r : Report) : (c.enqueue r).ok := by
  obtain ⟨h1, h2, h3, h4, h5, h6, h7⟩ := h
  unfold Console.enqueue
  split
  · exact ⟨by simp; omega, h2, h3, h4, h5, by simp, by simp⟩
  · have : c.reports ≠ [] := by intro e; simp_all
    exact ⟨h1, by simp [holdAt], h3, h4, h5, fun e => absurd e this, h7⟩

@[simp] theorem Console.enqueue_sending (c : Console) (r : Report) : (c.enqueue r).sending = c.sending := by
  unfold Console.enqueue; split <;> rfl

@[simp] theorem Console.enqueue_waiting (c : Console) (r : Report) : (c.enqueue r).waiting = c.waiting := by
  unfold Console.enqueue; split <;> rfl

@[simp] theorem Console.enqueue_errors (c : Console) (r : Report) : (c.enqueue r).errors = c.errors := by
  unfold Console.enqueue; split <;> rfl

/-- A response is formed while fewer than 4 wait (R179). -/
theorem Console.respond_ok {c : Console} (h : c.ok) (w : c.waiting.length < 4) (r : Response) : (c.respond r).ok := by
  obtain ⟨h1, h2, h3, h4, h5, h6, h7⟩ := h
  unfold Console.respond
  split
  · exact ⟨h1, h2, h3, h4, by simp, h6, h7⟩
  · rename_i x hx
    exact ⟨h1, h2, h3, by simp; omega, by simp [hx], h6, h7⟩

@[simp] theorem Console.respond_reports (c : Console) (r : Response) : (c.respond r).reports = c.reports := by
  unfold Console.respond; split <;> rfl

@[simp] theorem Console.respond_lost (c : Console) (r : Response) : (c.respond r).lost = c.lost := by
  unfold Console.respond; split <;> rfl

@[simp] theorem Console.respond_errors (c : Console) (r : Response) : (c.respond r).errors = c.errors := by
  unfold Console.respond; split <;> rfl

@[simp] theorem Console.respond_attention (c : Console) (r : Response) : (c.respond r).attention = c.attention := by
  unfold Console.respond; split <;> rfl

/-- The response stands last among those not yet sent (R179). -/
theorem Console.respond_last (c : Console) (r : Response) :
    (c.sending = none ∧ (c.respond r) = { c with sending := some r })
      ∨ (c.sending.isSome = true ∧ (c.respond r) = { c with waiting := c.waiting ++ [r] }) := by
  unfold Console.respond
  split
  · exact .inl ⟨‹_›, rfl⟩
  · exact .inr ⟨by simp_all, rfl⟩

/-! ### Machine output (R151) -/

theorem MachineFrame.sameKind_comm (a b : MachineFrame) : a.sameKind b = b.sameKind a := by
  cases a <;> cases b <;> rfl

/-- What waits after a frame is handed: the frame itself, and every waiting frame of another kind. -/
theorem placeWaiting_mem {f g : MachineFrame} {l : List MachineFrame} (h : g ∈ placeWaiting f l) : g = f ∨ g ∈ l := by
  induction l with
  | nil => simpa [placeWaiting] using h
  | cons a l ih =>
    unfold placeWaiting at h
    split at h
    · rcases List.mem_cons.mp h with rfl | h
      · exact .inl rfl
      · exact .inr (List.mem_cons_of_mem _ h)
    · rcases List.mem_cons.mp h with rfl | h
      · exact .inr (List.mem_cons_self ..)
      · exact (ih h).imp id (List.mem_cons_of_mem _)

theorem MachineFrame.sameKind_trans {a b c : MachineFrame} (h : a.sameKind b = true) :
    b.sameKind c = a.sameKind c := by
  cases a <;> cases b <;> cases c <;> simp_all [MachineFrame.sameKind]

/-- At most one frame of a kind waits. -/
theorem placeWaiting_pairwise (f : MachineFrame) {l : List MachineFrame}
    (h : l.Pairwise (fun a b => a.sameKind b = false)) :
    (placeWaiting f l).Pairwise (fun a b => a.sameKind b = false) := by
  induction l with
  | nil => simp [placeWaiting]
  | cons a l ih =>
    obtain ⟨h1, h2⟩ := List.pairwise_cons.mp h
    unfold placeWaiting
    split
    · rename_i e
      exact List.pairwise_cons.mpr ⟨fun b hb => by rw [← MachineFrame.sameKind_trans e]; exact h1 b hb, h2⟩
    · rename_i e
      refine List.pairwise_cons.mpr ⟨fun b hb => ?_, ih h2⟩
      rcases placeWaiting_mem hb with rfl | hb
      · rw [MachineFrame.sameKind_comm]; simpa using e
      · exact h1 b hb

/-- Handing a frame to the machine output keeps the machine interface's invariant. -/
theorem State.handMachine_ok {s : State} (h : s.machine.ok) (f : MachineFrame) : (s.handMachine f).machine.ok := by
  obtain ⟨h1, h2, h3, h4, h5, h6, h7⟩ := h
  unfold State.handMachine
  split
  · exact ⟨h1, h2, h3, h4, by simp, h6, h7⟩
  · rename_i x hx
    exact ⟨h1, h2, h3, placeWaiting_pairwise f h4, by simp [hx], h6, h7⟩

/-! ### Transmit queues (R13 to R16) -/

@[simp] theorem Link.withdraw_urgent (k : Kind) (l : Link) : (l.withdraw k).urgent = l.urgent := rfl

@[simp] theorem Link.withdraw_lineKind (k : Kind) (l : Link) : (l.withdraw k).lineKind = l.lineKind := by
  unfold Link.withdraw Link.lineKind
  cases l.onLine with
  | none => rfl
  | some a => simp only [Option.map_some]; split <;> rfl

@[simp] theorem Link.withdraw_urgentCount (k : Kind) (l : Link) : (l.withdraw k).urgentCount = l.urgentCount := by
  simp [Link.urgentCount]

/-- A withdrawn kind stands nowhere in the normal set; every other frame keeps its place (R16). -/
theorem Link.withdraw_normal (k : Kind) (l : Link) (c : Content) :
    c ∈ (l.withdraw k).normal ↔ c ∈ l.normal ∧ c.kind ≠ k := by
  simp [Link.withdraw]

/-- Replacing the content of a kind keeps the kinds in their order (R14). -/
theorem replaceKind_kinds (c : Content) (l : List Content) :
    (replaceKind c l).map (fun d => d.kind) = l.map (fun d => d.kind) := by
  induction l with
  | nil => rfl
  | cons d l ih =>
    unfold replaceKind
    split
    · simp_all
    · simp [ih]

/-- Placing a single kind leaves the urgent queue and the line (R14). -/
@[simp] theorem Link.placeSingle_urgent (c : Content) (l : Link) : (l.placeSingle c).urgent = l.urgent := by
  unfold Link.placeSingle; split <;> [rfl; (split <;> rfl)]

@[simp] theorem Link.placeSingle_onLine (c : Content) (l : Link) : (l.placeSingle c).onLine = l.onLine := by
  unfold Link.placeSingle; split <;> [rfl; (split <;> rfl)]

/-- Where a single kind offered stands: held behind its own kind, in its old place, or last (R14). -/
theorem Link.placeSingle_kinds (c : Content) (l : Link) :
    (l.placeSingle c).normal.map (fun d => d.kind) =
      if l.lineKind = some c.kind ∨ l.normal.any (fun d => d.kind == c.kind) = true
      then l.normal.map (fun d => d.kind) else l.normal.map (fun d => d.kind) ++ [c.kind] := by
  unfold Link.placeSingle
  split
  · simp_all
  · split <;> simp_all [replaceKind_kinds]

/-! ### The halt set (R60) -/

theorem haltMember_insert (m : BitVec 16) (i j : StationNo) :
    haltMember (haltInsert m i) j = (haltMember m j || decide (j = i)) := by
  unfold haltMember haltInsert haltBit
  rw [BitVec.getLsbD_or, BitVec.getLsbD_ofNat, Nat.testBit_two_pow]
  simp [Fin.ext_iff, eq_comm]

theorem haltMember_erase (m : BitVec 16) (i j : StationNo) :
    haltMember (haltErase m i) j = (haltMember m j && decide (j ≠ i)) := by
  unfold haltMember haltErase haltBit
  rw [BitVec.getLsbD_and, BitVec.getLsbD_not, BitVec.getLsbD_ofNat, Nat.testBit_two_pow]
  simp [Fin.ext_iff, eq_comm]

/-! ### The order queue (R125) -/

/-- An order inserted joins the queue and nothing leaves it. -/
theorem insertOrder_perm (o : OrderRecord) (l : List OrderRecord) : (insertOrder o l).Perm (o :: l) := by
  induction l with
  | nil => exact List.Perm.refl _
  | cons p l ih =>
    unfold insertOrder
    split
    · exact (ih.cons p).trans (List.Perm.swap o p l)
    · exact List.Perm.refl _

/-- The finished list holds at most 8 (R135). -/
theorem OrderUnit.finish_length {u : OrderUnit} (h : u.finished.length ≤ 8) (o : OrderRecord) :
    (u.finish o).finished.length ≤ 8 := by
  unfold OrderUnit.finish
  simp only
  split <;> simp <;> omega

/-! ### Masses (R97, R153) -/

/-- A mass set under a hold number reads back there and leaves every other hold. -/
theorem massAt_set (v : Vector Nat 12) (i : Nat) (hi : i < 12) (x h : Nat) :
    massAt (v.set i x hi) h = if h = i + 1 then x else massAt v h := by
  unfold massAt
  split
  · rename_i hh
    rw [Vector.getElem_set]
    by_cases e : h = i + 1
    · subst e; simp
    · rw [if_neg e, if_neg (by omega)]
  · rename_i hh
    rw [if_neg (by omega)]

/-! ### The own raise (R43, R48, R50, R61) -/

@[simp] theorem Raise.underHalt_none : Raise.none.underHalt = .none := rfl
@[simp] theorem Raise.underHalt_queued (t : Nat) : (Raise.queued t).underHalt = .none := rfl
@[simp] theorem Raise.underHalt_sending (t : Nat) (b : Option YieldCause) :
    (Raise.sending t b).underHalt = .sending t (some (b.getD .halt)) := rfl
@[simp] theorem Raise.underHalt_settling (t d : Nat) : (Raise.settling t d).underHalt = .none := rfl
@[simp] theorem Raise.isSettling_none : Raise.none.isSettling = false := rfl
@[simp] theorem Raise.isSettling_queued (t : Nat) : (Raise.queued t).isSettling = false := rfl
@[simp] theorem Raise.isSettling_sending (t : Nat) (b : Option YieldCause) : (Raise.sending t b).isSettling = false := rfl
@[simp] theorem Raise.isSettling_settling (t d : Nat) : (Raise.settling t d).isSettling = true := rfl

/-- A halt leaves no raise alive. -/
theorem Raise.alive_underHalt (r : Raise) : r.underHalt.alive = false := by
  cases r <;> rfl

/-- The recomputation changes nothing while S and C are current, and otherwise sets both and gives the raise to R48 and then to
R50 (R43). -/
theorem State.recompute_cases (s : State) :
    (s.viewCurrent ∧ s.recompute = s)
      ∨ (¬ s.viewCurrent ∧ s.recompute = (State.reviewRaise false { s with share := { s.share with
        resv := s.sumReserved, capacity := s.effectiveCapacity } }).settleConflict) := by
  unfold State.recompute
  split
  · rename_i h; exact .inl ⟨⟨h.1.symm, h.2.symm⟩, rfl⟩
  · rename_i h; exact .inr ⟨fun v => h ⟨v.1.symm, v.2.symm⟩, rfl⟩

/-- The conflict test of R50 leaves every raise but a SETTLING one. -/
theorem State.settleConflict_of_not_settling (s : State) (h : s.share.raise.isSettling = false) : s.settleConflict = s := by
  unfold State.settleConflict
  split
  · rename_i t d e; simp [e] at h
  · rfl

end Sys2Proof.Machine
end

