-- ==== Sys2Proof/Tests/Slice0.lean ====
section
/-! SUPPORT. The model's own tests: ill-formed commands that WellFormed refuses, single steps and computations whose
expected results come from spec/ or from hand calculation on its rules, and for every obligation with hypotheses a
witness: a concrete state and operands that meet them, clause by clause. -/

namespace Sys2Proof.Tests

open Sys2Proof.Machine

/-! ### WellFormed: one ill-formed command for each check -/

/-- R191: HELLO is 8 bytes. -/
theorem test_illformed_hello : (Instr.helloTaken 0 1 (List.replicate 7 0#8)).wellFormed = false := by decide
/-- R191: BYE is 1 byte. -/
theorem test_illformed_bye : (Instr.byeTaken 0 1 []).wellFormed = false := by decide
/-- R191: STATUS is 28 bytes. -/
theorem test_illformed_status : (Instr.statusTaken 0 1 (List.replicate 29 0#8)).wellFormed = false := by decide
/-- R191: RAISE is 4 bytes. -/
theorem test_illformed_raise : (Instr.raiseTaken 0 1 (List.replicate 2 0#8)).wellFormed = false := by decide
/-- R191: LOWER is 2 bytes. -/
theorem test_illformed_lower : (Instr.lowerTaken 0 1 (List.replicate 3 0#8)).wellFormed = false := by decide
/-- R191: CLAIM is 6 bytes. -/
theorem test_illformed_claim : (Instr.claimTaken 0 1 (List.replicate 5 0#8)).wellFormed = false := by decide
/-- R191: RELEASE is 2 bytes. -/
theorem test_illformed_release : (Instr.releaseTaken 0 1 (List.replicate 1 0#8)).wellFormed = false := by decide
/-- R191: a TALLY of 4 + 5 n bytes has n from 1 to 12; 10 bytes hold no whole number of pairs. -/
theorem test_illformed_tally : (Instr.tallyTaken 0 1 (List.replicate 10 0#8)).wellFormed = false
    ∧ (Instr.tallyTaken 0 1 (List.replicate 4 0#8)).wellFormed = false
    ∧ (Instr.tallyTaken 0 1 (List.replicate 69 0#8)).wellFormed = false
    ∧ (Instr.tallyTaken 0 1 (List.replicate 64 0#8)).wellFormed = true := by decide
/-- R4: RECALL is for one station. -/
theorem test_illformed_recall : (Instr.recallTaken 0 1 16#5 (List.replicate 9 0#8)).wellFormed = false
    ∧ (Instr.recallTaken 0 1 2#5 (List.replicate 8 0#8)).wellFormed = false := by decide
/-- R4: CAPACITY is for a belt. -/
theorem test_illformed_capacity : (Instr.capacityTaken 0 1 31#5 [0#8, 0#8]).wellFormed = false
    ∧ (Instr.capacityTaken 0 1 16#5 [0#8]).wellFormed = false := by decide
/-- R4: HALT is for a belt or for all. -/
theorem test_illformed_halt : (Instr.haltTaken 0 1 3#5 [5#8]).wellFormed = false
    ∧ (Instr.haltTaken 0 1 31#5 []).wellFormed = false := by decide
/-- R4: CLEAR is for a belt or for all. -/
theorem test_illformed_clear : (Instr.clearTaken 0 1 18#5 [5#8]).wellFormed = false
    ∧ (Instr.clearTaken 0 1 31#5 [1#8, 2#8]).wellFormed = false := by decide
/-- R4: RESET is for one station. -/
theorem test_illformed_reset : (Instr.resetTaken 0 1 31#5 ⟨0, .unloader, .one⟩).wellFormed = false := by decide
/-- R193: MEASURE has 18 payload bytes. -/
theorem test_illformed_measure : (Instr.measure 0 (List.replicate 17 0#8)).wellFormed = false := by decide
/-- R180: the codes 1 to 20 are commands. -/
theorem test_illformed_unknown : (Instr.unknown 0 1#16 20#8).wellFormed = false
    ∧ (Instr.unknown 0 1#16 21#8).wellFormed = true ∧ (Instr.unknown 0 1#16 0#8).wellFormed = true := by decide
/-- R194: no command frame carries more than 13 bytes of arguments. -/
theorem test_illformed_args : (Instr.join 0 1#16 (List.replicate 14 0#8)).wellFormed = false
    ∧ (Instr.planBegin 0 1#16 (List.replicate 14 0#8)).wellFormed = false
    ∧ (Instr.readReport 0 1#16 (List.replicate 14 0#8)).wellFormed = false := by decide

/-! ### Small states -/

/-- A configuration record in range, remote reset enabled. -/
def config : ConfigRecord := ⟨1500, 100, 200, 600, 20000, 3, true⟩

/-- Station 0, unloader, configured and synchronised, in a station state. -/
def inState (st : StationState) : State := { State.reset with
  station := { State.reset.station with state := st, config := some config, remoteEnable := true }
  link := { State.reset.link with synced := true } }

/-- The same in the intake role. -/
def intakeIn (st : StationState) : State :=
  let s := inState st
  { s with station := { s.station with straps := ⟨0, .intake, .one⟩ } }

/-- Two holds, the first with two slots. -/
def plan : PlanRecord := ⟨7, 2, 0, 1000,
  ((Vector.replicate 12 none).set 0 (some ⟨40000, 100, 100, some 200⟩)).set 1 (some ⟨40000, -100, 300, none⟩)⟩

/-- With that plan READY. -/
def ready (s : State) : State := { s with plan := { s.plan with phase := .ready, record := some plan } }

/-- The order of tag 5 for hold 1, slot 1. -/
def order (st : OrderState) : OrderRecord := ⟨5, 1, 1, 30000, 0, 600, 2, st, Held.none, none, none, none, 0⟩

/-- An ACTIVE unloader with a READY plan and an active order. -/
def working (st : OrderState) : State :=
  let s := ready (inState .active)
  { s with
    order := { s.order with active := some (order st) }
    machine := { s.machine with silent := false } }

/-- With an own frame on the line. -/
def sending (c : Content) (s : State) : State := { s with link := { s.link with onLine := some ⟨c, 0#9, false⟩ } }

/-- With the entry of station 3 changed. -/
def peer3 (f : PeerEntry → PeerEntry) (s : State) : State :=
  { s with table := { s.table with entries := s.table.entries.set 3 (f s.table.entries[3]) } }

/-- The state after a command that runs; the state before it where it does not. -/
def after (c : Instr) (s : State) : State := match exec c s with | .next s' => s' | _ => s

/-! ### Computations the rules state -/

/-- R191's own examples: a HALT from station 3 at rank 4 is 0x143, a STATUS from station 12 at rank 12 is 0x0CC. -/
theorem test_arbitration_words :
    arbitrationWord true 4 3 = 0x143#9 ∧ arbitrationWord false 12 12 = 0x0CC#9 := by decide

set_option maxRecDepth 4000 in
/-- R2: the CRC of the nine bytes "123456789" by x^16 + x^12 + x^5 + 1 from all ones, not inverted (the published check
value of that CRC). -/
theorem test_crc : crcBytes [0x31#8, 0x32#8, 0x33#8, 0x34#8, 0x35#8, 0x36#8, 0x37#8, 0x38#8, 0x39#8] = 0x29B1#16 := by
  decide

/-- R2: a sync bit follows every 8 bits, none the bits short of that. -/
theorem test_sync_bits : insertSync 0 (List.replicate 9 false) = List.replicate 8 false ++ [true, false] := by decide

/-- R75 with K = 20 000: half the taper mass left halves D; near the end no less than 50. -/
theorem test_taper : taperTerm 600 10000 20000 = 300 ∧ taperTerm 600 1000 20000 = 50 ∧ taperTerm 40 1 20000 = 40 := by
  decide

/-- R76: 3.6 x B over Lh = 600 s, rounded down: 166 kg give 0.996, 167 kg 1.002, 100 000 kg 600 t/h. -/
theorem test_rate : rateOver 166 600 = 0 ∧ rateOver 167 600 = 1 ∧ rateOver 100000 600 = 600 := by decide

/-- R78: with Tmax 1 000 t.m, Q 0 and lever 100 dm, W is 10^7 kg.dm, 100 000 kg over 600 s. -/
theorem test_trim : trimRoom 1000 100 0 = some 10000000 ∧ trimTerm (some 10000000) 100 600 = 600
    ∧ trimRoom 1000 (-100) 10000000 = some 20000000 ∧ trimRoom 0 100 5 = none := by decide

/-- R59: S 1 000, G 600, C 1 500: E 100, share 37.5 rounded up, G_s 562. -/
theorem test_shed : shedTarget 1000 600 1500 = 562 := by decide

/-- R190: a lever of 0xFFFF is -1. -/
theorem test_signed : readSigned2 0xFF#8 0xFF#8 = -1 ∧ readSigned2 0x7F#8 0xFF#8 = 32767 := by decide

/-- R192: role bit 1 and belt bit 0 of HELLO: 0x03 is an intake of belt 2; fields are most significant byte first. -/
theorem test_hello_layout : readHello [1#8, 3#8, 0x05#8, 0xDC#8, 0#8, 0#8, 0#8, 7#8] = some ⟨1, .intake, .two, 1500, 7⟩ := by
  decide

/-- R125: an order enters after every order of equal priority and before a lower one. -/
theorem test_insert : (insertOrder ⟨9, 1, 1, 5, 0, 10, 2, .waiting, Held.none, none, none, none, 9⟩
    [{ order .waiting with priority := 3 }, order .waiting, { order .waiting with priority := 1 }]).map (·.tag)
      = [5, 5, 9, 5] := by decide

/-! ### Single commands -/

/-- R165: a POWER reset deasserts attention; the release reports STARTED with cause 1, station 2, intake 1, belt 2. -/
theorem test_power_reset : (after (.powerReset 5) State.reset).console.attention = false
    ∧ (after (.resetRelease 6 ⟨2, .intake, .two⟩) (after (.powerReset 5) State.reset)).console.reports
      = [⟨.info, .station, 31, [1#32, 2#32, 1#32, 2#32]⟩] := by decide

/-- R165: the PIN reset's cause is reported as 2. -/
theorem test_pin_reset : (after (.resetRelease 6 ⟨2, .intake, .two⟩) (after (.pinReset 5) State.reset)).console.reports
      = [⟨.info, .station, 31, [2#32, 2#32, 1#32, 2#32]⟩] := by decide

/-- R8: after an occupancy the rank is one more, at most 15; R9: after a good HELLO it is the own number. -/
theorem test_occupancy_end :
    (after (.occupancyEnd 1) { inState .active with link := { (inState .active).link with rank := 3 } }).link.rank = 4
      ∧ (after (.occupancyEnd 1)
        { inState .active with link := { (inState .active).link with rank := 9, occupancy := .hello } }).link.rank = 0 := by
  decide

/-- R13, R6: the urgent head goes first. -/
theorem test_attempt : (after (.attemptStart 1)
    { inState .active with link := { (inState .active).link with urgent := [.clear 5], normal := [.bye 1], rank := 2 } }).link.onLine
      = some ⟨.clear 5, 0x120#9, false⟩ := by decide

/-- R16, R18: a lost arbitration charges nothing, an aborted attempt 4. -/
theorem test_lost_and_fault : (after (.lostArbitration 1) (sending (.bye 1) (inState .leaving))).link.txFaults = 0
    ∧ (after (.transmitFault 1) (sending (.bye 1) (inState .leaving))).link.txFaults = 4
    ∧ (after (.transmitFault 1) (sending (.bye 1) (inState .leaving))).link.normal = [.bye 1] := by decide

/-- R11, R21: a wrong destination is driven, one more receive fault. -/
theorem test_receive_fault : (after (.receiveFault 1 (.destination true)) (inState .active)).link.ackDriven = true
    ∧ (after (.receiveFault 1 .crc) (inState .active)).link.rxFaults = 1 := by decide

/-- R39: a HELLO of another capacity on the own belt marks a mismatch. -/
theorem test_hello_mismatch :
    ((after (.helloTaken 9 3 [1#8, 0#8, 0x03#8, 0xE8#8, 0#8, 0#8, 0#8, 0#8]) (inState .active)).entry 3).mismatch
      = some 1000 := by decide

/-- R26: BYE makes the entry LEFT and drops its grant. -/
theorem test_bye : ((after (.byeTaken 9 3 [1#8]) (peer3 (fun e => { e with grant := 300 }) (inState .active))).entry 3).presence
      = .left
    ∧ ((after (.byeTaken 9 3 [1#8]) (peer3 (fun e => { e with grant := 300 }) (inState .active))).entry 3).grant = 0 := by
  decide

/-- A STATUS of an ACTIVE unloader of belt 1: sequence 3, no position, no claim, grant 400, raise target 500, capacity 1 500. -/
def statusBytes : Bytes := [0x30#8, 3#8, 0xFF#8, 0xFF#8, 0#8, 0#8, 0#8, 0#8, 0x01#8, 0x90#8, 0x01#8, 0xF4#8, 0#8, 0#8,
  0#8, 0#8, 0x05#8, 0xDC#8, 0#8, 0#8, 0#8, 0#8, 0#8, 0#8, 0#8, 0#8, 0#8, 0#8]

/-- R32: from sequence 250 to 3, eight were missed; R43: the pending target 500 is reserved. -/
theorem test_status :
    let s := after (.statusTaken 9 3 statusBytes)
      (peer3 (fun e => { e with presence := .present, lastSeq := some 250#8 }) (inState .active));
    (s.entry 3).missed = 8 ∧ s.share.resv = 500 := by decide

/-- R33: RAISE records target and grant. -/
theorem test_raise_taken :
    ((after (.raiseTaken 9 3 [0x01#8, 0x2C#8, 0#8, 100#8]) (inState .active)).entry 3).raise = some ⟨300, 9⟩ := by decide

/-- File 03, case B (R50, R57): with C 1 200, G 500 and T 700 SETTLING, a peer's RAISE(600, 400) makes S 600 and C - S - T
-100: the raise is abandoned, a yield is owed, and at a measured feed of 498 LOWER(500) is offered. -/
theorem test_conflict_abandons_the_raise :
    let b := peer3 (fun e => { e with
      presence := .present, role := some .unloader, belt := some .one, grant := 400 }) (inState .active)
    let s : State := { b with
      station := { b.station with config := some { config with capacity := 1200 } }
      share := { b.share with grant := 500, resv := 400, capacity := 1200, raise := .settling 700 900, feed := some 498 } }
    let s' := after (.raiseTaken 9 3 (bytes2 600 ++ bytes2 400)) s
    s'.share.resv = 600 ∧ s'.share.raise = .none ∧ s'.share.yieldOwed = true ∧ s'.share.grant = 500
      ∧ s'.link.normal = [.lower 500] := by decide

/-- R33: LOWER ends the pending raise. -/
theorem test_lower_taken :
    let s := after (.lowerTaken 9 3 [0#8, 100#8])
      (peer3 (fun e => { e with raise := some ⟨300, 1⟩ }) (inState .active));
    (s.entry 3).raise = none ∧ (s.entry 3).grant = 100 := by decide

/-- R34: a RELEASE of another slot leaves the claim. -/
theorem test_release_taken :
    let s := after (.releaseTaken 9 3 [1#8, 2#8])
      (peer3 (fun e => { e with claim := some ⟨1, 1, none, 0, 0⟩ }) (inState .active));
    (s.entry 3).claim.isSome = true := by decide

/-- R98: a TALLY raises a cell and never lowers it. -/
theorem test_tally : let p : Bytes := [0#8, 0#8, 0#8, 7#8, 1#8, 0#8, 0#8, 0#8, 50#8]
    (after (.tallyTaken 9 3 p) (ready (inState .active))).cell 1 3 = 50 := by decide

/-- R45: a CAPACITY of an intake bounds C. -/
theorem test_capacity : (after (.capacityTaken 9 3 16#5 [0x03#8, 0xE8#8]) (inState .active)).share.capacity = 1000
    ∧ (after (.capacityTaken 9 3 17#5 [0x03#8, 0xE8#8]) (inState .active)).share.intakeCaps[3] = none := by decide

/-- R60: HALT of reason 100 is in range, CLEAR of reason 100 is not, CLEAR of reason 99 is. -/
theorem test_halt_clear :
    let s := inState .active
    let h : State := { s with share := { s.share with halts := 8#16 } }
    (after (.haltTaken 9 3 31#5 [100#8]) s).share.halts = 8#16 ∧ (after (.clearTaken 9 3 31#5 [100#8]) h).share.halts = 8#16
      ∧ (after (.clearTaken 9 3 31#5 [99#8]) h).share.halts = 0#16 := by decide

/-- R3: after a frame or a fault nothing more is taken from the occupancy, until its end. -/
theorem test_one_judgement :
    let s := after (.haltTaken 9 3 31#5 [100#8]) (inState .active)
    (after (.clearTaken 9 3 31#5 [99#8]) s).share.halts = 8#16
      ∧ (after (.clearTaken 9 3 31#5 [99#8]) (after (.occupancyEnd 9) s)).share.halts = 0#16
      ∧ (after (.receiveFault 9 .crc) (after (.receiveFault 9 .crc) (inState .active))).link.rxFaults = 1 := by decide

/-- R1, R3: 12 recessive bits are idle, 11 are not; the first idle only synchronises. -/
theorem test_idle :
    (LineView.unsynced 0).events (List.replicate 12 false ++ [true] ++ List.replicate 12 false)
      = [.synced, .ended (List.replicate 12 false)]
    ∧ (LineView.unsynced 0).events (List.replicate 11 false ++ [true]) = [] := by decide

/-- R1, R6: dominant wins; R191: a HALT of station 3 at rank 4 beats a STATUS of station 12 at rank 12. -/
theorem test_contention :
    contend ((bitsOf 9 0x143).zip (lineLevels 9 [0x143, 0x0CC])) = .won
      ∧ contend ((bitsOf 9 0x0CC).zip (lineLevels 9 [0x143, 0x0CC])) = .lost := by decide

/-- R167: a RESET is refused where remote reset is not enabled. -/
theorem test_reset_refused : (after (.resetTaken 9 3 0#5 ⟨4, .intake, .one⟩)
    { inState .active with station := { (inState .active).station with remoteEnable := false } }).station.state = .active
    ∧ (after (.resetTaken 9 3 0#5 ⟨4, .intake, .one⟩) (inState .active)).station.state = .config := by decide

/-- R51: the raise's target becomes the grant at the settle deadline. -/
theorem test_settle : (after .raiseSettleDeadline { inState .active with
    share := { (inState .active).share with raise := .settling 200 1000, capacity := 1500 } }).share.grant = 200 := by decide

/-- R49: a RAISE that completes settles for 1 000 ms. -/
theorem test_raise_completes : (after (.raiseCompletes 50 true) (sending (.raise 200 0) { inState .active with
    share := { (inState .active).share with raise := .sending 200 none, capacity := 1500 } })).share.raise
      = .settling 200 1050 := by decide

/-- R12: the fourth consecutive unacknowledged frame reports ALONE. -/
theorem test_alone : let s := sending (.clear 5) { inState .active with link := { (inState .active).link with unheard := 3 } }
    (after (.frameCompletes 50 false) s).link.aloneReported = true
      ∧ (after (.frameCompletes 50 true) s).link.unheard = 0 := by decide

/-- R27: SILENT at 2.0 s, LOST at 10.0 s. -/
theorem test_peer_timers :
    ((after (.peerSilent 3) (peer3 (fun e => { e with presence := .present }) (inState .active))).entry 3).presence = .silent
      ∧ (after (.peerLost 3) (peer3 (fun e => { e with presence := .silent }) (inState .active))).now = 10000 := by decide

/-- R81: from F 0, with A and G above, one update raises F by 20. -/
theorem test_governor : let s := working .discharging
    let m : Measure := ⟨1#8, 0#32, 0, 0, 250, 100, 1, 1, 900, true, false, true⟩
    (after .governorUpdate { s with
      share := { s.share with grant := 500, capacity := 1500 }, gov := { s.gov with timer := some 250 }
      machine := { s.machine with last := some m } }).gov.feed = 20 := by decide

/-- R159, R82: a choke in force takes the feed to 0. -/
theorem test_choke : let s := working .discharging
    (after .choke { s with gov := { s.gov with feed := 300 }
                           machine := { s.machine with chokeEntry := some 700 } }).gov.feed = 0 := by decide

/-- R146: a repeated sequence is an error. -/
theorem test_measure_repeat : (after (.measure 5 (List.replicate 18 0#8))
    { inState .active with machine := { (inState .active).machine with lastSeq := some 0#8 } }).machine.errors = 1 := by decide

/-- R153: an increment of 1 000 kg is accepted, one of 1 001 is not. -/
theorem test_weighing :
    let s := { inState .active with machine := { (inState .active).machine with baseline := some 10#32 } }
    (after (.measure 5 (Measure.bytes ⟨1#8, 1010#32, 0, 0, 250, 100, 0, 0, 900, true, false, true⟩)) s).machine.accepted = 1000
      ∧ (after (.measure 5 (Measure.bytes ⟨1#8, 1011#32, 0, 0, 250, 100, 0, 0, 900, true, false, true⟩)) s).machine.accepted
        = 0 := by decide

set_option maxRecDepth 4000 in
/-- R168: a capacity of 50 is taken as 100, and bit 0 of the data says so. -/
theorem test_configure : let s := after (.configure 5 1#16
      [0#8, 50#8, 0#8, 100#8, 0#8, 200#8, 2#8, 88#8, 0#8, 0#8, 3#8, 1#8]) State.reset
    s.console.sending = some ⟨1#16, .clamped, [1#8]⟩ ∧ s.share.capacity = 100 ∧ s.station.state = .offline := by decide

/-- R169: the first JOIN after a POWER reset offers a HELLO of start cause 1. -/
theorem test_join : (after (.join 5 1#16 []) (inState .offline)).link.normal = [.hello ⟨1, .unloader, .one, 1500, 0⟩] := by
  decide

set_option maxRecDepth 4000 in
/-- R92: two slots of one position are named in order. -/
theorem test_plan_end : let s := inState .active
    let r : PlanRecord := { plan with holds := plan.holds.set 1 (some ⟨40000, 0, 200, none⟩) }
    (after (.planEnd 5 1#16 []) { s with plan := { s.plan with phase := .loading, record := some r } }).console.sending
      = some ⟨1#16, .badArg, [1#8, 2#8, 2#8, 1#8]⟩ := by decide

set_option maxRecDepth 4000 in
/-- R125: with no active order an ORDER is placed ACTIVE. -/
theorem test_order : (after (.order 5 1#16 [0#8, 9#8, 1#8, 2#8, 0#8, 0#8, 1#8, 0#8, 0#8, 100#8, 7#8])
    (ready (inState .active))).console.sending = some ⟨1#16, .ok, [1#8]⟩ := by decide

/-- R141: CANCEL of a tag held nowhere. -/
theorem test_cancel : (after (.cancel 5 1#16 [0#8, 9#8]) (working .claiming)).console.sending = some ⟨1#16, .notFound, []⟩
    ∧ ((after (.cancel 5 1#16 [0#8, 5#8]) (working .claiming)).order.finished.map (·.endState)) = [some .cancelled] := by
  decide

/-- R188: a report read is removed; STARTED is level 3, source 9, code 31. -/
theorem test_read_report : (after (.readReport 5 1#16 []) State.reset).console.attention = false
    ∧ (after (.readReport 5 1#16 []) State.reset).console.reports = [] := by decide

/-- R195: after the 34 bytes of the ten items before it, the intake capacity list is a count byte of 16 and 16 members of 2
bytes, each absent after a reset (R41). -/
theorem test_intake_list : (State.reset.shareItems.drop 34).take 33 = 16#8 :: List.replicate 32 0xFF#8 := by decide

/-- R70, R86 and file 04, 'The hold limit': the flag that entry to OFFLINE opens takes HOLD_LIMIT from the order it held
(log 37), and LINK then holds it (R142). -/
theorem test_offline_ends_the_hold_limit :
    let s : State := { working .discharging with
      gov := { (working .discharging).gov with limit := some .trim }
      order := { (working .discharging).order with active := some { order .discharging with
        held := { Held.none with limit := true } } } }
    let o := (after (.byeTaken 9 0 [1#8]) s)
    o.gov.limit = none ∧ o.order.active = some { order .discharging with held := { Held.none with link := true } } := by
  decide

/-- R69, R195: the limit record after a reset is r_taper 0, r_bal 1 500, r_trim 1 500, Cm 0, and Q and W absent. -/
theorem test_limit_record : State.reset.gov.limitRecord
    = [0#8, 0#8, 0#8, 0#8, 0#8, 0#8, 0x05#8, 0xDC#8, 0#8, 0#8, 0x05#8, 0xDC#8, 0#8, 0#8] ++ List.replicate 16 0xFF#8 := by
  decide

/-- R183: QUERY_PEER of the own number is BAD_ARG. -/
theorem test_query_peer_own : (after (.queryPeer 5 1#16 [0#8]) (inState .active)).console.sending
      = some ⟨1#16, .badArg, []⟩ := by decide

/-! ### Witnesses: every obligation's hypotheses are met by a concrete state and operands, clause by clause -/

/-- A state held in a PIN reset. -/
def inPin : State := after (.pinReset 5) State.reset

/-- A station state with a transmit-fault count. -/
def faults (n : Nat) (s : State) : State := { s with link := { s.link with txFaults := n } }

theorem witness_StepTakesFrontCommand :
    ({ State.reset with pending := [.lineIdle 3, .lineIdle 4] }).pending = .lineIdle 3 :: [.lineIdle 4]
      ∧ State.reset.pending = [] := by decide

theorem witness_ResetReleasesIntoResetValues : State.reset.inReset = none ∧ inPin.inReset = some .pin
    ∧ inPin.inReset.isSome = true ∧ (∀ t, Instr.lineIdle 1 ≠ .powerReset t)
    ∧ (∀ t st, Instr.lineIdle 1 ≠ .resetRelease t st) :=
  ⟨by decide, by decide, by decide, nofun, nofun⟩

theorem witness_OccupancyEndRanksTheStation :
    (State.reset.inReset = none ∧ State.reset.link.onLine = none ∧ State.reset.link.synced = false)
      ∧ ((inState .active).inReset = none ∧ (inState .active).link.onLine = none
        ∧ (inState .active).link.synced = true) := by decide

/-- Urgent and normal heads at rank 15, a station that does not transmit, and one with nothing queued. -/
theorem witness_AttemptOffersTheUrgentHeadFirst :
    let l : Link := { (inState .active).link with rank := 15, urgent := [.clear 5], normal := [.lower 3] }
    let s : State := { inState .active with link := l }
    (s.inReset = none ∧ s.link.onLine = none ∧ s.transmits = true ∧ s.link.rank ≤ 15 ∧ s.link.urgent = .clear 5 :: [])
      ∧ (let u : State := { s with link := { l with urgent := [] } }
        u.inReset = none ∧ u.link.onLine = none ∧ u.transmits = true ∧ u.link.rank ≤ 15 ∧ u.link.urgent = []
          ∧ u.link.normal = .lower 3 :: [])
      ∧ (inState .muted).transmits = false
      ∧ ((inState .active).link.urgent = [] ∧ (inState .active).link.normal = [])
      ∧ ((∀ v ∈ ([511, 0] : List Nat), v < 512) ∧ 511 ∈ ([511, 0] : List Nat) ∧ (0 : StationNo) ≠ 15) := by decide

/-- Counts 59 and 28 + 4 stay below the next state; 156 + 4 mutes; a RAISE withdrawn, one re-examined at I of exactly 10
and of 9; a CLAIM with no request, one blocked, one free to go again, and one withdrawn. -/
theorem witness_FailedAttemptReturnsTheFrame :
    let s := sending (.lower 3) (faults 59 (inState .active))
    let d := sending (.lower 3) (faults 28 (inState .degraded))
    let r (c : Nat) : State := sending (.raise 200 0) { inState .active with
      gov := { (inState .active).gov with allowed := 300 }, share := { (inState .active).share with capacity := c } }
    let b : ClaimBody := ⟨1, 1, 100, 200⟩
    let c (req : Option ClaimRequest) (x : Option Nat) : State := sending (.claim b) { inState .active with
      claim := { ClaimUnit.afterReset with request := req, own := some b, phase := .sending }
      machine := { (inState .active).machine with position := x } }
    (s.inReset = none ∧ s.link.onLine = some ⟨.lower 3, 0#9, false⟩ ∧ Kind.lower ≠ .raise ∧ Kind.lower ≠ .claim
        ∧ min 255 (s.link.txFaults + 4) < 64)
      ∧ (d.inReset = none ∧ d.station.state = .degraded ∧ 32 ≤ min 255 (d.link.txFaults + 4))
      ∧ (Content.kind (.raise 200 0) = .raise ∧ (⟨.raise 200 0, 0#9, true⟩ : Attempt).withdrawn = true)
      ∧ ((r 10).link.onLine = some ⟨.raise 200 0, 0#9, false⟩ ∧ (r 10).halted = false ∧ (r 10).share.lowering = none
        ∧ (r 10).station.state = .active ∧ (r 10).link.rxPoor = false
        ∧ (10 : Int) ≤ min (min (((r 10).gov.allowed : Int) - (r 10).share.grant) 200)
          (((r 10).share.capacity : Int) - (r 10).share.resv - (r 10).share.grant)
        ∧ ¬ (10 : Int) ≤ ((r 9).share.capacity : Int) - (r 9).share.resv - (r 9).share.grant)
      ∧ ((c none none).link.onLine = some ⟨.claim b, 0#9, false⟩ ∧ (c none none).claim.request = none)
      ∧ (c (some ⟨1, 1, 200, none⟩) none).claimBlocked ⟨1, 1, 200, none⟩ = some .viewIncomplete
      ∧ ((c (some ⟨1, 1, 200, none⟩) (some 100)).claimBlocked ⟨1, 1, 200, none⟩ = none
        ∧ (c (some ⟨1, 1, 200, none⟩) (some 100)).claim.own = some b
        ∧ (c (some ⟨1, 1, 200, none⟩) (some 100)).machine.position = some 100)
      ∧ ((⟨.claim b, 0#9, true⟩ : Attempt).withdrawn = true ∧ (c none none).claim.waitOrder = false
        ∧ (c none none).claim.waitStation = false
        ∧ (let w : State := { inState .leaving with
            claim := { ClaimUnit.afterReset with waitOrder := true, waitStation := true } }
          w.claim.waitOrder = true ∧ w.claim.waitStation = true ∧ w.station.state = .leaving))
      ∧ ((faults 156 (inState .active)).transmits = true
        ∧ 160 ≤ min 255 ((faults 156 (inState .active)).link.txFaults + 4)
        ∧ (faults 156 (inState .active)).isUnloader = true) := by decide

/-- Aborted attempts: counts 59 and 60 (63 and 64 after the charge), 155 and 156 (159 and 160) in ACTIVE, 28 in DEGRADED; a
RAISE, where no request stands; and a CLAIM whose request is queued again, and one whose request is blocked. -/
theorem witness_AbortedAttemptIsCharged :
    let b : ClaimBody := ⟨1, 1, 100, 200⟩
    let r (n : Nat) : State := sending (.raise 200 0) (faults n { inState .active with
      gov := { (inState .active).gov with allowed := 300 }, share := { (inState .active).share with capacity := 10 } })
    let c (x : Option Nat) : State := sending (.claim b) (faults 60 { inState .active with
      claim := { ClaimUnit.afterReset with request := some ⟨1, 1, 200, none⟩, own := some b, phase := .sending }
      machine := { (inState .active).machine with position := x } })
    let lost (s : State) : State := after (.lostArbitration 5) s
    let d := sending (.claim b) (faults 28 (inState .degraded))
    exec (.lostArbitration 5) (r 60) = .next (lost (r 60))
      ∧ exec (.lostArbitration 5) (c (some 100)) = .next (lost (c (some 100)))
      ∧ ((∀ n ∈ ([59, 60, 155] : List Nat), (r n).link.onLine = some ⟨.raise 200 0, 0#9, false⟩ ∧ (r n).inReset = none ∧ (r n).station.state = .active
          ∧ min 255 ((r n).link.txFaults + 4) < 160)
        ∧ min 255 ((r 59).link.txFaults + 4) < 64 ∧ 64 ≤ min 255 ((r 60).link.txFaults + 4)
        ∧ ¬ min 255 ((r 156).link.txFaults + 4) < 160)
      ∧ (d.station.state = .degraded ∧ 32 ≤ min 255 (d.link.txFaults + 4) ∧ d.link.onLine = some ⟨.claim b, 0#9, false⟩)
      ∧ ((lost (r 60)).share.lowering = none ∧ (lost (r 60)).claim.request = none)
      ∧ ((lost (c (some 100))).share.lowering = none ∧ (lost (c (some 100))).claim.request = some ⟨1, 1, 200, none⟩
        ∧ (lost (c (some 100))).claim.phase = .queued)
      ∧ ((lost (c none)).claim.request = some ⟨1, 1, 200, some .viewIncomplete⟩ ∧ (lost (c none)).claim.phase = .none) :=
  ⟨rfl, rfl, by decide, by decide, by decide, by decide, by decide⟩

/-- Counts 94 and 95, and a station that sends. -/
theorem witness_ReceiveFaultIsCounted :
    let s (n : Nat) : State := { inState .active with link := { (inState .active).link with rxFaults := n } }
    ((s 94).inReset = none ∧ (s 94).listens = true ∧ min 255 ((s 94).link.rxFaults + 1) < 96)
      ∧ ((s 95).listens = true ∧ 96 ≤ min 255 ((s 95).link.rxFaults + 1) ∧ (s 95).link.rxPoor = false)
      ∧ (sending (.bye 1) (s 0)).listens = false ∧ (after (.receiveFault 9 .crc) (s 0)).listens = false
      ∧ (Instr.byeTaken 9 3 [1#8]).frameTaken = some (9, 3, .bye) := by decide

theorem witness_GoodFrameRefreshesItsSender :
    let c : Instr := .haltTaken 7 3 31#5 [100#8]
    let r : Instr := .resetTaken 7 15 0#5 ⟨0, .unloader, .one⟩
    (c.frameTaken = some (7, 3, .halt) ∧ c.wellFormed = true ∧ (inState .active).inReset = none
        ∧ (inState .active).listens = true ∧ (3 : StationNo) ≠ (inState .active).own)
      ∧ (r.frameTaken = some (7, 15, .reset) ∧ r.wellFormed = true ∧ State.reset.station.remoteEnable = false
        ∧ (15 : StationNo) ≠ State.reset.own
        ∧ ({ State.reset with link := { State.reset.link with synced := true } } : State).listens = true) := by decide

theorem witness_OwnNumberFrameTakesTheStationOffline :
    let c : Instr := .byeTaken 7 0 [1#8]
    c.frameTaken = some (7, (inState .active).own, .bye) ∧ c.wellFormed = true ∧ (inState .active).inReset = none
      ∧ (inState .active).listens = true ∧ (inState .muted).listens = true ∧ (inState .muted).own = 0
      ∧ (inState .config).listens = true ∧ (inState .config).station.state = .config
      ∧ (inState .offline).station.state = .offline ∧ (inState .active).link.rxPoor = false
      ∧ (let q : State := { inState .active with link := { (inState .active).link with rxPoor := true, rxFaults := 65 } }
        64 ≤ q.link.rxFaults - 1)
      ∧ ((working .discharging).order.active = some (order .discharging) ∧ (working .discharging).isUnloader = true
        ∧ (working .discharging).own = 0 ∧ (working .discharging).listens = true)
      ∧ (inState .active).link.dupReported = false ∧ 1 ≤ (inState .active).station.reportLevel
      ∧ (inState .active).console.reports.length < 16 := by decide

/-- One value just out of range for each kind. -/
theorem witness_BadContentWritesNoField :
    (inState .active).inReset = none ∧ (inState .active).listens = true ∧ (3 : StationNo) ≠ (inState .active).own
      ∧ (∃ b, readHello [1#8, 0#8, 0#8, 99#8, 0#8, 0#8, 0#8, 0#8] = some b ∧ b.capacity < 100)
      ∧ (∃ b, readHello [5#8, 0#8, 0#8, 100#8, 0#8, 0#8, 0#8, 0#8] = some b ∧ 4 < b.cause)
      ∧ (∃ r, readBye [2#8] = some r ∧ r ≠ 1)
      ∧ (∃ b, readStatus (0x60#8 :: statusBytes.tail) = some b ∧ 5 < b.stateCode)
      ∧ (∃ b, readRaise [0x05#8, 0xDD#8, 0#8, 0#8] = some b ∧ 1500 < b.1)
      ∧ (∃ g, readWord [0x05#8, 0xDD#8] = some g ∧ 1500 < g)
      ∧ (∃ b, readClaim [13#8, 1#8, 0#8, 0#8, 0#8, 0#8] = some b ∧ 12 < b.hold)
      ∧ (∃ b, readRelease [1#8, 3#8] = some b ∧ 2 < b.2) :=
  ⟨by decide, by decide, by decide, ⟨_, rfl, by decide⟩, ⟨_, rfl, by decide⟩, ⟨_, rfl, by decide⟩, ⟨_, rfl, by decide⟩,
    ⟨_, rfl, by decide⟩, ⟨_, rfl, by decide⟩, ⟨_, rfl, by decide⟩, ⟨_, rfl, by decide⟩⟩

/-- Capacities 100 and 6 000; the own READY plan announced by a peer that was reset, with a column of its own and three
lists queued; one that rejoins, and one with no column. -/
theorem witness_HelloRecordsTheEntry :
    let y := ready (inState .active)
    let r : State := { y with
      plan := { y.plan with cells := y.plan.cells.set 0 ((Vector.replicate 16 0).set 3 50) }
      link := { y.link with normal := [.tally ⟨7, [(1, 1)]⟩, .tally ⟨7, [(1, 1)]⟩, .tally ⟨7, [(1, 1)]⟩] } }
    (inState .active).inReset = none ∧ (inState .active).listens = true ∧ (3 : StationNo) ≠ (inState .active).own
      ∧ (∃ b, readHello [1#8, 0#8, 0#8, 100#8, 0#8, 0#8, 0#8, 7#8] = some b ∧ b.cause = StartCause.power.code
        ∧ 100 ≤ b.capacity ∧ b.capacity ≤ 6000 ∧ b.planId = plan.id)
      ∧ (∃ b, readHello [4#8, 3#8, 0x17#8, 0x70#8, 0#8, 0#8, 0#8, 0#8] = some b ∧ b.cause = StartCause.rejoin.code
        ∧ 100 ≤ b.capacity ∧ b.capacity ≤ 6000)
      ∧ (r.readyPlan = some plan ∧ StartCause.power ≠ .rejoin ∧ r.columnPairs 3 ≠ [] ∧ r.transmits = true
        ∧ r.link.listCount < 4)
      ∧ y.columnPairs 3 = [] :=
  ⟨by decide, by decide, by decide, ⟨_, rfl, by decide⟩, ⟨_, rfl, by decide⟩, by decide, by decide⟩

/-- State code 5, position 65 000, hold 12, slot 2, grant and raise target 1 500, capacity 6 000. -/
def fullStatus : Bytes := [0x50#8, 3#8, 0xFD#8, 0xE8#8, 12#8, 2#8, 0#8, 0#8, 0x05#8, 0xDC#8, 0x05#8, 0xDC#8, 0#8, 0#8,
  0#8, 0#8, 0x17#8, 0x70#8, 0#8, 0#8, 0#8, 7#8, 0#8, 0#8, 0#8, 1#8, 0#8, 0#8]

theorem witness_StatusRecordsTheEntryAndTheMass :
    (inState .active).inReset = none ∧ (inState .active).listens = true ∧ (3 : StationNo) ≠ (inState .active).own
      ∧ (∃ b, readStatus statusBytes = some b ∧ 3 ≤ b.stateCode ∧ b.stateCode ≤ 5 ∧ b.position = none
        ∧ b.hold ≤ 12 ∧ b.slot ≤ 2 ∧ (b.hold = 0 ↔ b.slot = 0) ∧ b.grant ≤ 1500 ∧ b.raiseTarget ≤ 1500
        ∧ 100 ≤ b.capacity ∧ b.capacity ≤ 6000)
      ∧ (∃ b, readStatus fullStatus = some b ∧ 3 ≤ b.stateCode ∧ b.stateCode ≤ 5 ∧ b.position = some 65000
        ∧ b.hold ≤ 12 ∧ b.slot ≤ 2 ∧ (b.hold = 0 ↔ b.slot = 0) ∧ b.grant ≤ 1500 ∧ b.raiseTarget ≤ 1500
        ∧ 100 ≤ b.capacity ∧ b.capacity ≤ 6000) :=
  ⟨by decide, by decide, by decide, ⟨_, rfl, by decide⟩, ⟨_, rfl, by decide⟩⟩

/-- A change of S or C (by a RAISE, a LOWER and a CAPACITY): C 1 500, S 500 of station 3; a SETTLING raise of 900 at an S of 600 and
of 601, and at a C of 1 399; a QUEUED raise of 300 whose I is 10 and is 9; a frame that changes neither S nor C; and an own
claim that yields to an older one of the same slot. -/
theorem witness_RaiseFollowsTheView :
    let s (r : Raise) (g : Nat) : State :=
      let b := peer3 (fun e => { e with
        presence := .present, role := some .unloader, belt := some .one, grant := 500 }) (inState .active)
      { b with
        share := { b.share with resv := 500, capacity := 1500, raise := r, grant := g, feed := some (g + 10) }
        gov := { b.gov with allowed := 1000 } }
    let v (r : Raise) (g n : Nat) : Share := (after (.raiseTaken 9 3 (bytes2 n ++ bytes2 500)) (s r g)).share
    let c (n : Nat) : Share := (after (.capacityTaken 9 3 16#5 (bytes2 n)) (s (.settling 900 20) 100)).share
    let y : State := { s .none 100 with
      claim := { ClaimUnit.afterReset with phase := .settled, own := some ⟨1, 1, 100, 200⟩, time := some 0 }
      table := { (s .none 100).table with entries := (s .none 100).table.entries.set 3 { (s .none 100).entry 3 with
        claim := some ⟨1, 1, some 900, 50, 0⟩ } } }
    let a := after (.lowerTaken 9 3 (bytes2 400)) y
    ((v (.settling 900 20) 100 600).resv = 600 ∧ 600 ≠ (s .none 100).share.resv
        ∧ (v (.settling 900 20) 100 600).resv + 900 ≤ (v (.settling 900 20) 100 600).capacity
        ∧ (v (.settling 900 20) 100 601).capacity < (v (.settling 900 20) 100 601).resv + 900
        ∧ (c 1399).capacity = 1399 ∧ (c 1399).capacity < (c 1399).resv + 900)
      ∧ ((s (.settling 900 20) 100).transmits = true ∧ (s (.settling 900 20) 100).share.lowering = none
        ∧ (s (.settling 900 20) 100).share.feed.any (· ≤ 110) = true)
      ∧ ((10 : Int) ≤ ((v (.queued 300) 100 1390).capacity : Int) - (v (.queued 300) 100 1390).resv - 100
        ∧ ¬ (10 : Int) ≤ ((v (.queued 300) 100 1391).capacity : Int) - (v (.queued 300) 100 1391).resv - 100
        ∧ (s (.queued 300) 100).halted = false ∧ (s (.queued 300) 100).station.state = .active
        ∧ (s (.queued 300) 100).link.rxPoor = false ∧ (110 : Nat) ≠ 300)
      ∧ ((v (.settling 900 20) 100 500).resv = 500 ∧ (v (.settling 900 20) 100 500).capacity = 1500)
      ∧ (y.claim.phase ≠ .releasing ∧ a.claim.phase = .releasing)
      ∧ (after (.lowerTaken 9 3 (bytes2 400)) (s .none 100)).claim.phase ≠ .releasing := by decide

theorem witness_ShareAndClaimFramesRecordTheEntry :
    (inState .active).inReset = none ∧ (inState .active).listens = true ∧ (3 : StationNo) ≠ (inState .active).own
      ∧ readRaise [0x05#8, 0xDC#8, 0x05#8, 0xDC#8] = some (1500, 1500)
      ∧ readWord [0x05#8, 0xDC#8] = some 1500
      ∧ (∃ b, readClaim [12#8, 2#8, 0xFD#8, 0xE8#8, 0xFD#8, 0xE8#8] = some b ∧ 1 ≤ b.hold ∧ b.hold ≤ 12 ∧ 1 ≤ b.slot
        ∧ b.slot ≤ 2 ∧ b.fromPos ≤ 65000 ∧ b.toPos ≤ 65000)
      ∧ readRelease [12#8, 2#8] = some (12, 2) ∧ readBye [1#8] = some 1 :=
  ⟨by decide, by decide, by decide, by decide, by decide, ⟨_, rfl, by decide⟩, by decide, by decide⟩

/-- A list of holds 1 and 12 under the equal plan; a list that does not ascend; and no READY plan. -/
theorem witness_TallyRaisesTheSendersColumn :
    let s := ready (inState .active)
    let p : Bytes := [0#8, 0#8, 0#8, 7#8, 1#8, 0#8, 0#8, 0#8, 50#8, 12#8, 0#8, 0#8, 0#8, 60#8]
    s.inReset = none ∧ s.listens = true ∧ (3 : StationNo) ≠ s.own
      ∧ readTally p = some ⟨7, [(1, 50), (12, 60)]⟩ ∧ s.readyPlan = some plan ∧ plan.id = 7
      ∧ ([1, 12] : List Nat).Pairwise (· < ·) ∧ (∀ h ∈ ([1, 12] : List Nat), 1 ≤ h ∧ h ≤ 12)
      ∧ ¬ ([2, 2] : List Nat).Pairwise (· < ·) ∧ (inState .active).readyPlan = none
      ∧ readTally [0#8, 0#8, 0#8, 8#8, 1#8, 0#8, 0#8, 0#8, 50#8] = some ⟨8, [(1, 50)]⟩ ∧ 8 ≠ plan.id
      ∧ readTally [0#8, 0#8, 0#8, 0#8, 1#8, 0#8, 0#8, 0#8, 50#8] = some ⟨0, [(1, 50)]⟩ ∧ 0 ≠ plan.id := by decide

theorem witness_RecallAndCapacityAreAppliedWhereTheyAreFor :
    let s := ready (inState .joining)
    let p : Bytes := [0#8, 0#8, 0#8, 7#8, 1#8, 0#8, 0#8, 0#8, 50#8, 12#8, 0#8, 0#8, 0#8, 60#8]
    s.inReset = none ∧ s.listens = true ∧ (3 : StationNo) ≠ s.own
      ∧ readTally p = some ⟨7, [(1, 50), (12, 60)]⟩ ∧ s.readyPlan = some plan ∧ plan.id = 7
      ∧ ([1, 12] : List Nat).Pairwise (· < ·) ∧ (∀ h ∈ ([1, 12] : List Nat), 1 ≤ h ∧ h ≤ 12)
      ∧ (0#5).toNat = s.own.val ∧ (0#5).toNat ≤ 15 ∧ s.station.state = .joining
      ∧ (15#5).toNat ≠ s.own.val ∧ (inState .active).station.state ≠ .joining
      ∧ (State.reset.viewCurrent ∧ State.reset.unheardHoldNothing ∧ (State.reset.entry 3).presence ≠ .present)
      ∧ ((peer3 (fun e => { e with presence := .present }) s).entry 3).presence = .present
      ∧ readWord [0xFF#8, 0xFF#8] = some 65535 ∧ (16#5).toNat = Belt.dest s.station.straps.belt
      ∧ (17#5).toNat = 17 := by decide

/-- A HALT that makes the halt set non-empty (from station 3, PRESENT): every phase of the raise; no lowering at a grant of 0 and
of 1, a lowering to 0 and to 50; a feed of 10 and of 11; a station that transmits and one that does not; and a halt set that
has a member, an intake, a lost sender. -/
theorem witness_HaltEndsTheRaise :
    let h (r : Raise) (l : Option Lowering) (feed : Nat) : State :=
      peer3 (fun e => { e with presence := .present }) { inState .active with
        share := { (inState .active).share with grant := 1, raise := r, lowering := l, feed := some feed } }
    let l (n : Nat) : Lowering := ⟨n, some 9, true, false, false⟩
    let m := peer3 (fun e => { e with presence := .present }) (inState .muted)
    (((h .none none 10).entry 3).presence = .present ∧ (h .none none 10).halted = false
        ∧ (h .none none 10).isUnloader = true ∧ (h .none none 10).link.lowerPending 0 = false
        ∧ (h .none none 10).transmits = true ∧ m.transmits = false ∧ m.halted = false
        ∧ (m.share.lowering = none ∧ m.share.grant = 0))
      ∧ ((h (.queued 90) none 10).share.raise = .queued 90 ∧ (h (.settling 90 9) none 10).share.raise = .settling 90 9
        ∧ 3 ≤ ({ h (.settling 90 9) none 10 with station := { (h .none none 10).station with reportLevel := 3 } } :
          State).station.reportLevel
        ∧ (h .none none 10).console.reports.length ≤ 10
        ∧ (sending (.raise 90 1) (h (.sending 90 none) none 10)).link.onLine = some ⟨.raise 90 1, 0#9, false⟩)
      ∧ ((h .none none 10).share.grant = 1 ∧ (h .none none 10).share.feed.any (· ≤ 10) = true
        ∧ (h .none none 11).share.feed.any (· ≤ 10) = false)
      ∧ ((h .none (some (l 0)) 10).share.lowering = some (l 0) ∧ (h .none (some (l 50)) 10).share.lowering = some (l 50))
      ∧ (({ h .none none 10 with share := { (h .none none 10).share with halts := 4#16 } } : State).halted = true
        ∧ (intakeIn .active).isIntake = true ∧ ((inState .active).entry 3).presence ≠ .present) := by decide

theorem witness_HaltAndClearChangeTheHaltSet :
    let s := inState .active
    s.inReset = none ∧ s.listens = true ∧ (3 : StationNo) ≠ s.own ∧ readReason [100#8] = some 100
      ∧ readReason [99#8] = some 99 ∧ readReason [1#8] = some 1 ∧ readReason [0#8] = some 0 ∧ readReason [101#8] = some 101
      ∧ (31#5).toNat = 31 ∧ (16#5).toNat = Belt.dest s.station.straps.belt
      ∧ (17#5).toNat ≠ Belt.dest s.station.straps.belt
      ∧ haltMember s.share.halts 3 = false ∧ s.isUnloader = true := by decide

theorem witness_ResetFrameResetsWhereEnabled :
    let s := inState .active
    s.inReset = none ∧ s.listens = true ∧ (3 : StationNo) ≠ s.own ∧ (0#5).toNat ≤ 15 ∧ (15#5).toNat ≤ 15
      ∧ (0#5).toNat = s.own.val ∧ s.station.remoteEnable = true ∧ (15#5).toNat ≠ s.own.val
      ∧ State.reset.station.remoteEnable = false := by decide

/-- Counts at 160 in LEAVING, 64 in ACTIVE and 33 in DEGRADED; every completion has its kind. -/
theorem witness_CompletionCountsAndRanks :
    let s := sending (.clear 5) (inState .active)
    (Instr.frameCompletes 9 false).frameDone = some (9, false, [.tally, .recall, .capacity, .halt, .clear, .reset])
      ∧ s.inReset = none ∧ s.link.onLine = some ⟨.clear 5, 0#9, false⟩ ∧ s.link.synced = true
      ∧ Content.kind (.clear 5) ∈ ([.tally, .recall, .capacity, .halt, .clear, .reset] : List Kind)
      ∧ (faults 160 (inState .leaving)).link.txFaults ≤ 160 ∧ (faults 64 (inState .active)).link.txFaults ≤ 64
      ∧ 33 ≤ (faults 33 (inState .degraded)).link.txFaults
      ∧ (Instr.lowerCompletes 9 true).frameDone = some (9, true, [.lower])
      ∧ (let r : State := sending (.raise 200 0) { inState .active with
          share := { (inState .active).share with raise := .sending 200 none, capacity := 200 } }
        r.halted = false ∧ r.share.raise = .sending 200 none ∧ r.share.resv + 200 ≤ r.share.capacity)
      ∧ (sending (.lower 100) (inState .active)).share.lowering = none
      ∧ (let c : State := sending (.claim ⟨1, 1, 100, 200⟩) { inState .active with
          claim := { ClaimUnit.afterReset with own := some ⟨1, 1, 100, 200⟩ } }
        c.claim.own = some ⟨1, 1, 100, 200⟩ ∧ c.claim.withdrawn = false
          ∧ ∀ j, j ≠ c.own → c.conflictWith ⟨1, 1, 100, 200⟩ j = none)
      ∧ (Content.kind (.release 1 1) = .release
        ∧ ({ s with link := { s.link with held := some (.release 1 1) } } : State).link.held = some (.release 1 1))
      ∧ (let d := sending (.clear 5) (faults 32 (inState .degraded));
        d.station.state = .degraded ∧ d.link.txFaults ≤ 32 ∧ Content.kind (.clear 5) ≠ .bye ∧ 3 ≤ d.station.reportLevel
          ∧ d.console.reports.length ≤ 14 ∧ d.isUnloader = true ∧ d.share.lowering = none
          ∧ d.claim.request = none) := by
  decide

theorem witness_StationFramesComplete :
    let b : StatusBody := (inState .active).statusBody
    let h : HelloBody := ⟨1, .unloader, .one, 1500, 0⟩
    ((sending (.hello h) (faults 160 (inState .joining))).inReset = none
        ∧ (sending (.hello h) (faults 160 (inState .joining))).link.txFaults ≤ 160
        ∧ Content.kind (.hello h) = .hello ∧ (inState .joining).station.state = .joining)
      ∧ ((sending (.status b) (inState .active)).link.onLine = some ⟨.status b, 0#9, false⟩
        ∧ (inState .active).onQuay = true ∧ (inState .joining).onQuay = false)
      ∧ ((sending (.bye 1) (inState .leaving)).link.onLine = some ⟨.bye 1, 0#9, false⟩
        ∧ Content.kind (.bye 1) = .bye ∧ (inState .leaving).station.state = .leaving
        ∧ (inState .leaving).isUnloader = true) := by decide

/-- A raise whose target fills C exactly, one abandoned, one under a halt, one 1 t/h too large; a LOWER at, below and
above the lowering's target. -/
theorem witness_RaiseAndLowerComplete :
    let s (b : Option YieldCause) (c : Nat) : State := sending (.raise 200 0) { inState .active with
      share := { (inState .active).share with raise := .sending 200 b, capacity := c } }
    let w (l : Nat) : State := sending (.lower 100) { inState .active with
      share := { (inState .active).share with lowering := some ⟨l, none, false, true, false⟩ } }
    ((s none 200).inReset = none ∧ (s none 200).link.txFaults ≤ 64
        ∧ (s none 200).link.onLine = some ⟨.raise 200 0, 0#9, false⟩ ∧ (s none 200).halted = false
        ∧ (s none 200).share.resv + 200 ≤ (s none 200).share.capacity)
      ∧ ((s (some .halt) 200).share.raise = .sending 200 (some .halt))
      ∧ ((s none 199).share.capacity < (s none 199).share.resv + 200)
      ∧ ({ s none 200 with share := { (s none 200).share with halts := 8#16 } } : State).halted = true
      ∧ ((w 100).link.onLine = some ⟨.lower 100, 0#9, false⟩
        ∧ (w 100).share.lowering = some ⟨100, none, false, true, false⟩)
      ∧ (w 99).share.lowering = some ⟨99, none, false, true, false⟩
      ∧ (Content.lower 99 ∈ ({ w 99 with link := { (w 99).link with normal := [.lower 99] } } : State).link.normal
        ∧ ({ w 99 with link := { (w 99).link with held := some (.lower 99) } } : State).link.held = some (.lower 99)
        ∧ (inState .muted).transmits = false)
      ∧ ((w 99).transmits = true ∧ Content.lower 99 ∉ (w 99).link.normal ∧ (w 99).link.held ≠ some (.lower 99))
      ∧ (let f (n : Nat) : State := { w 99 with share := { (w 99).share with feed := some n } };
        (∃ n, (f 109).share.feed = some n ∧ n ≤ 99 + 10) ∧ ¬ (∃ n, (f 110).share.feed = some n ∧ n ≤ 99 + 10)
          ∧ ¬ (∃ n, (w 99).share.feed = some n ∧ n ≤ 99 + 10))
      ∧ (sending (.lower 100) (inState .active)).share.lowering = none := by
  refine ⟨by decide, by decide, by decide, by decide, by decide, by decide, by decide, by decide, ?_, by decide⟩
  exact ⟨⟨109, rfl, by decide⟩, by rintro ⟨_, ⟨⟩, h⟩; omega, by rintro ⟨_, h, _⟩; cases h⟩

/-- An own LOWER that ends a lowering: a station in LEAVING that waits with and without its release complete, one in ACTIVE;
an ENDING order whose release request waits beside a settled claim and a releasing one, whose release is out, and which is
finished with nothing behind it, a stack top, a queue head, and both of one priority and of a higher one in the queue. -/
theorem witness_LowerEndsItsLowering :
    let l (order station : Bool) : Option Lowering := some ⟨100, none, order, false, station⟩
    let v (release : Bool) : State :=
      let s := inState .leaving
      sending (.lower 100) { s with
        station := { s.station with leaveRelease := release }, share := { s.share with lowering := l false true } }
    let e (ph : ClaimPhase) (asks out : Bool) (stack queue : List OrderRecord) : State :=
      let s := working .ending
      sending (.lower 100) { s with
        share := { s.share with lowering := l true false }
        claim := { ClaimUnit.afterReset with phase := ph, own := some ⟨1, 1, 100, 200⟩ }
        order := { s.order with
          active := some { order .ending with endState := some .complete, endReason := some .target }
          stack := stack, queue := queue, endReleasePending := asks, releaseOut := out } }
    let x (p : Nat) : OrderRecord := { order .suspended with tag := 6, priority := p }
    let y (p : Nat) : OrderRecord := { order .waiting with tag := 8, priority := p }
    ((v true).share.lowering = l false true ∧ (v true).station.state = .leaving ∧ (v true).station.leaveRelease = true
        ∧ (v false).station.leaveRelease = false ∧ (v false).link.txFaults ≤ 160)
      ∧ ((working .travelling).order.active = some (order .travelling) ∧ (order .travelling).state ≠ .ending
        ∧ (e .none false false [] []).station.state ≠ .leaving)
      ∧ ((e .settled true false [] []).order.endReleasePending = true ∧ (e .settled true false [] []).claim.phase = .settled
        ∧ (e .settled true false [] []).claim.own = some ⟨1, 1, 100, 200⟩ ∧ (e .settled true false [] []).transmits = true
        ∧ (e .releasing true false [] []).claim.phase = .releasing)
      ∧ ((e .releasing false true [] []).order.endReleasePending = false
        ∧ (e .releasing false true [] []).order.releaseOut = true)
      ∧ ((e .none false false [] []).order.releaseOut = false ∧ (e .none false false [] []).order.incoming = none
        ∧ (e .none false false [] []).order.active
          = some { order .ending with endState := some .complete, endReason := some .target })
      ∧ ((e .none false false [x 2] [y 2]).order.stack = x 2 :: [] ∧ (∀ q ∈ [y 2].head?, q.priority ≤ (x 2).priority)
        ∧ (∀ q ∈ ([] : List OrderRecord).head?, q.priority ≤ (x 2).priority))
      ∧ ((e .none false false [x 2] [y 3]).order.queue = y 3 :: [] ∧ (∀ q ∈ [x 2].head?, q.priority < (y 3).priority)
        ∧ ¬ (∀ q ∈ [y 3].head?, q.priority ≤ (x 2).priority)) := by
  decide

theorem witness_ClaimAndReleaseComplete :
    let b : ClaimBody := ⟨1, 1, 100, 200⟩
    let s (w : Bool) : State := sending (.claim b) { inState .active with
      claim := { ClaimUnit.afterReset with own := some b, phase := .sending, withdrawn := w } }
    let q : ClaimRequest := ⟨1, 1, 200, none⟩
    let y := ready (inState .active)
    let r (x : Option Nat) (req : Option ClaimRequest) : State := sending (.release 1 1) { y with
      claim := { ClaimUnit.afterReset with request := req, own := some b, phase := .releasing }
      machine := { y.machine with position := x }
      plan := { y.plan with attributed := y.plan.attributed.set 0 40 } }
    ((s false).inReset = none ∧ (s false).link.txFaults ≤ 64 ∧ (s false).link.onLine = some ⟨.claim b, 0#9, false⟩
        ∧ (s false).claim.own = some b ∧ (s false).claim.phase = .sending ∧ (s false).claim.withdrawn = false
        ∧ ∀ j, j ≠ (s false).own → (s false).conflictWith b j = none)
      ∧ (s true).claim.withdrawn = true
      ∧ ((r none none).link.onLine = some ⟨.release 1 1, 0#9, false⟩ ∧ (r none none).claim.request = none
        ∧ (r none none).claim.waitOrder = false ∧ (r none none).claim.waitStation = false
        ∧ (r none none).claim.phase = .releasing)
      ∧ ((r none (some q)).claim.request = some q ∧ (r none (some q)).claimBlocked q = some .viewIncomplete)
      ∧ ((r (some 100) (some q)).claimBlocked q = none ∧ (r (some 100) (some q)).machine.position = some 100)
      ∧ ((r none none).onQuay = true ∧ (r none none).readyPlan = some plan ∧ (r none none).ownPairs ≠ []
        ∧ (r none none).link.listCount < 4) := by decide

/-- A RELEASE whose waiter is the order unit, beside a CLAIMING, an ENDING and a SUSPENDING order, with an incoming order, a
stack top and a queue head of the same and of a higher priority; and one whose waiter is the station controller. -/
theorem witness_ReleaseCompletionSignalsItsWaiters :
    let s (o : OrderRecord) (inc : Option OrderRecord) (stack queue : List OrderRecord) : State :=
      sending (.release 1 1) { ready (inState .active) with
        claim := { ClaimUnit.afterReset with own := some ⟨1, 1, 100, 200⟩, phase := .releasing, waitOrder := true }
        order := { OrderUnit.afterReset with
          active := some o, incoming := inc, stack := stack, queue := queue, releaseOut := true, endDrained := true } }
    let e : OrderRecord := { order .ending with endState := some .complete, endReason := some .target }
    let x : OrderRecord := { order .suspended with tag := 8 }
    let w (n : Nat) : OrderRecord := { order .waiting with tag := 9, priority := n }
    let l : State := sending (.release 1 1) { inState .leaving with
      station := { (inState .leaving).station with leaveDrain := true }
      claim := { ClaimUnit.afterReset with phase := .releasing, waitStation := true } }
    (let a := s (order .claiming) none [] [];
      a.inReset = none ∧ a.link.onLine = some ⟨.release 1 1, 0#9, false⟩ ∧ Content.kind (.release 1 1) = .release
        ∧ a.claim.phase = .releasing ∧ a.link.txFaults ≤ 64 ∧ a.claim.waitOrder = true
        ∧ a.order.active = some (order .claiming) ∧ (order .claiming).state = .claiming)
      ∧ (let a := s e none [] [];
        e.state = .ending ∧ e.endState = some .complete ∧ e.endReason = some .target ∧ a.order.endDrained = true
          ∧ a.order.endReleasePending = false ∧ a.order.incoming = none ∧ a.order.stack = [] ∧ a.order.queue = [])
      ∧ ({ (s e none [] []).order with endDrained := false } : OrderUnit).endDrained = false
      ∧ ((order .suspending).state = .suspending ∧ (order .suspending).endState = none
        ∧ (s (order .suspending) (some x) [] []).order.incoming = some x)
      ∧ (let a := s e none [x] [w 2];
        a.order.stack = x :: [] ∧ ∀ q ∈ a.order.queue.head?, q.priority ≤ x.priority)
      ∧ (let a := s e none [x] [w 3];
        a.order.queue = w 3 :: [] ∧ ∀ y ∈ a.order.stack.head?, y.priority < (w 3).priority)
      ∧ (l.claim.waitStation = true ∧ l.station.state = .leaving ∧ l.station.leaveDrain = true) := by decide

theorem witness_PeerTimersChangeTheEntry :
    let p := peer3 (fun e => { e with presence := .present, raise := some ⟨100, 0⟩ }) (inState .active)
    let q := peer3 (fun e => { e with presence := .silent }) (inState .active)
    p.inReset = none ∧ (p.entry 3).presence = .present ∧ (p.entry 3).presence ≠ .silent
      ∧ (p.entry 3).raise = some ⟨100, 0⟩ ∧ (q.entry 3).presence = .silent ∧ (q.entry 3).presence ≠ .present
      ∧ (q.entry 3).raise = none := by decide

theorem witness_SilenceStopsTheFeed :
    let s := inState .active
    let w : State := { s with table := { s.table with watchDeadline := some 1500 }
                              machine := { s.machine with silenceTimer := some 1000 } }
    s.inReset = none ∧ w.table.watchDeadline = some 1500 ∧ s.table.watchDeadline = none
      ∧ w.machine.silenceTimer = some 1000 ∧ s.machine.silenceTimer = none ∧ w.isUnloader = true := by decide

theorem witness_GrantRisesOnlyAtTheSettleDeadline :
    let s : State := { inState .active with share := { (inState .active).share with raise := .settling 200 1000 } }
    let l : State := sending (.lower 100) { inState .active with share := { (inState .active).share with grant := 100 } }
    (s.inReset = none ∧ s.share.raise = .settling 200 1000)
      ∧ ((∀ g ∈ l.link.lowers, g ≤ l.share.grant) ∧ l.link.lowers = [100] ∧ (∃ s', exec (.lowerCompletes 3 true) l = .next s')
        ∧ Instr.lowerCompletes 3 true ≠ .raiseSettleDeadline) :=
  ⟨by decide, by decide, by decide, ⟨_, rfl⟩, nofun⟩

theorem witness_DrainStallsAndGrantIsReleased :
    let s : State := { inState .active with
      share := { (inState .active).share with lowering := some ⟨100, some 15000, true, false, false⟩ } }
    let r : State := { inState .active with
      share := { (inState .active).share with grant := 100, releaseTimer := some 10000 } }
    (s.inReset = none ∧ s.share.lowering = some ⟨100, some 15000, true, false, false⟩)
      ∧ (r.share.releaseTimer = some 10000 ∧ r.share.lowering = none ∧ r.share.raise = .none
        ∧ r.gov.allowed < r.share.grant)
      ∧ (inState .active).share.grant ≤ (inState .active).gov.allowed := by decide

/-- One urgent frame queued; a capacity; a plan with an own mass, four lists less one; a STATUS. -/
theorem witness_PeriodicTimersOfferTheirFrame :
    let h : State := { inState .active with
      share := { (inState .active).share with
        haltTimer := some 1000, ownHalt := some ⟨.belt, 5⟩, capTimer := some 1000, beltCap := some 6000 }
      link := { (inState .active).link with urgent := [.clear 1] } }
    let y := ready (inState .active)
    let t : State := { y with
      plan := { y.plan with tallyTimer := some 1000, attributed := y.plan.attributed.set 0 40 } }
    (h.inReset = none ∧ h.share.haltTimer = some 1000 ∧ h.share.ownHalt = some ⟨.belt, 5⟩ ∧ h.transmits = true
        ∧ h.link.urgentCount < 2)
      ∧ (h.share.capTimer = some 1000 ∧ h.share.beltCap = some 6000)
      ∧ (t.plan.tallyTimer = some 1000 ∧ t.readyPlan = some plan ∧ t.ownPairs ≠ [] ∧ t.transmits = true
        ∧ t.link.listCount < 4)
      ∧ y.ownPairs = [] ∧ (inState .active).readyPlan = none
      ∧ ({ y with station := { y.station with statusTimer := some 500 } } : State).station.statusTimer = some 500
      ∧ (let c (ph : ClaimPhase) : State := { y with
          claim := { y.claim with phase := ph, own := some ⟨2, 1, 100, 300⟩, time := some 5 } };
        ((c .settling).claim.own = some ⟨2, 1, 100, 300⟩ ∧ (c .settling).claim.phase = .settling
            ∧ (c .settled).claim.phase = .settled)
          ∧ ((c .releasing).claim.phase ≠ .settling ∧ (c .releasing).claim.phase ≠ .settled))
      ∧ (let b := y.statusBody;
        ({ y with link := { y.link with normal := [.bye 1, .status b] } } : State).link.normal = [.bye 1] ++ .status b :: []
          ∧ (∀ f ∈ ([.bye 1] : List Content), f.kind ≠ .status)
          ∧ ((sending (.status b) y).link.onLine = some ⟨.status b, 0#9, false⟩
            ∧ ∀ f ∈ (sending (.status b) y).link.normal, f.kind ≠ .status)
          ∧ y.link.onLine = none) := by
  decide

/-- With S + G = C and one above it; A of 50 below G and of 49; a lowering in progress; and a hold-off. -/
theorem witness_GovernorUpdateFormsTheFeed :
    let s := working .discharging
    let m : Measure := ⟨1#8, 0#32, 0, 0, 250, 100, 1, 1, 900, true, false, true⟩
    let u (g cap cell : Nat) : State := { s with
      gov := { s.gov with timer := some 250 }, share := { s.share with grant := g, capacity := cap }
      machine := { s.machine with last := some m }
      plan := { s.plan with cells := s.plan.cells.set 1 ((Vector.replicate 16 0).set 3 cell) } }
    let l : State := { u 700 700 900 with
      share := { (u 700 700 900).share with lowering := some ⟨100, none, false, true, false⟩ } }
    (let a := u 650 650 900;
      a.inReset = none ∧ a.gov.timer = some 250 ∧ a.discharging = some (order .discharging) ∧ a.readyPlan = some plan
        ∧ a.share.resv + a.share.grant ≤ a.share.capacity ∧ a.machine.sending = none
        ∧ (a.halted = false ∧ a.onQuay = true ∧ a.table.selfSilent = false ∧ a.machine.silent = false
          ∧ a.machine.choke = false ∧ a.running = true ∧ (after .governorUpdate a).gov.balance ≠ 0
          ∧ (after .governorUpdate a).gov.trim ≠ 0)
        ∧ (a.isUnloader = true ∧ a.working = true ∧ a.share.lowering = none ∧ a.share.raise = .none
          ∧ (after .governorUpdate a).gov.allowed + 50 ≤ a.share.grant))
      ∧ (let a := u 55 649 900;
        a.share.grant < (after .governorUpdate a).gov.allowed + 50)
      ∧ (l.share.lowering = some ⟨100, none, false, true, false⟩ ∧ l.share.lowering.isSome = true)
      ∧ (let a := u 650 649 900;
        a.share.capacity < a.share.resv + a.share.grant ∧ 0 < a.share.grant ∧ a.working = true)
      ∧ (let a := u 650 650 900;
        let b (r : Raise) : State := { a with share := { a.share with raise := r } };
        (b (.queued 660)).share.raise = .queued 660
          ∧ (after .governorUpdate (b (.queued 660))).gov.allowed + 50 ≤ (b (.queued 660)).share.grant
          ∧ (b (.settling 700 9)).share.raise ≠ .none ∧ (∀ old, (b (.settling 700 9)).share.raise ≠ .queued old)
          ∧ (after .governorUpdate (b (.settling 700 9))).share.raise ≠ .none)
      ∧ (inState .muted).onQuay = false ∧ (inState .muted).working = false
      ∧ (let a : State := { u 650 650 900 with share := { (u 650 650 900).share with halts := 8#16 } };
        a.halted = true ∧ 0 < a.share.grant ∧ a.share.lowering = none ∧ a.share.resv + a.share.grant ≤ a.share.capacity) :=
  ⟨by decide, by decide, by decide, by decide, ⟨rfl, by decide, by decide, (fun _ h => by cases h), by decide⟩, by decide,
    by decide, by decide⟩

/-- The rules' own values at the boundaries (R76, R78), for hold 1 of 2 with a peer's column of `a` kg counted. With Dadj 1 000 the
room B is 1 000 - a: 166 kg give 0, 167 give 1, 0 and below give 0; one neighbour, the other hold. With Tmax 1 000 t.m and lever
100 dm, Hm is 100 000 - a: 166 kg give 0, 167 give 1. With Dadj 0, one hold, Tmax 0 or lever 0 a term is 1 500. -/
theorem witness_BalanceAndTrimInNumbers :
    let s (r : PlanRecord) (a : Nat) : State :=
      let b := peer3 (fun e => { e with planId := 7 }) (working .discharging)
      { b with
        gov := { b.gov with timer := some 250 }
        plan := { b.plan with record := some r, cells := b.plan.cells.set 0 ((Vector.replicate 16 0).set 3 a) } }
    let r : PlanRecord := { plan with dadj := 1000 }
    let g (r : PlanRecord) (a : Nat) : Nat × Nat :=
      ((after .governorUpdate (s r a)).gov.balance, (after .governorUpdate (s r a)).gov.trim)
    ((s r 5).discharging = some (order .discharging) ∧ (s r 5).readyPlan = some r ∧ r.dadj ≠ 0 ∧ r.count ≠ 1
        ∧ ((s r 5).entry 3).planId = r.id
        ∧ (1 ≤ 2 ∧ 2 ≤ r.count ∧ 2 = (order .discharging).hold + 1) ∧ r.tmax ≠ 0
        ∧ ((r.hold 1).map (fun e => e.lever)).getD 0 ≠ 0)
      ∧ ((g r 833).1 = 1 ∧ (g r 834).1 = 0 ∧ (g r 1000).1 = 0 ∧ (g r 1001).1 = 0)
      ∧ ((g r 99833).2 = 1 ∧ (g r 99834).2 = 0 ∧ (g r 100000).2 = 0 ∧ (g r 100001).2 = 0)
      ∧ (g plan 834).1 = 1500 ∧ (g { r with tmax := 0 } 99834).2 = 1500 := by decide

/-- A balance term of 0 (the other hold has no mass), one above 0 with the limit closed, and no discharging order. -/
theorem witness_HoldLimitFollowsBalanceAndTrim :
    let s := working .discharging
    let t (l : Option ClosedLimit) : State := { s with gov := { s.gov with timer := some 250, limit := l } }
    let u : State := { t (some .trim) with
      plan := { s.plan with cells := s.plan.cells.set 1 ((Vector.replicate 16 0).set 3 900) } }
    ((t none).inReset = none ∧ (t none).gov.timer = some 250 ∧ (t none).discharging = some (order .discharging)
        ∧ (t none).readyPlan = some plan ∧ (t none).gov.limit = none)
      ∧ ((after .governorUpdate u).gov.balance ≠ 0 ∧ (after .governorUpdate u).gov.trim ≠ 0 ∧ u.gov.limit ≠ none)
      ∧ (inState .active).discharging = none := by decide

theorem witness_TaperSlowsTheFeedNearTheTarget :
    ((0 : Nat) < 600 ∧ (20000 : Nat) ≤ 20000) ∧ ((0 : Nat) < 600 ∧ (0 : Nat) < 20000 ∧ (19999 : Nat) < 20000)
      ∧ (49 : Nat) < 50 := by decide

/-- I is exactly 10, the headroom, with no raise and with one QUEUED; a headroom of 9. -/
theorem witness_RaiseStartsUnderEveryCondition :
    let s := working .discharging
    let m : Measure := ⟨1#8, 0#32, 0, 0, 250, 100, 1, 1, 900, true, false, true⟩
    let u (r : Raise) (cap : Nat) : State := { s with
      gov := { s.gov with timer := some 250 }, share := { s.share with raise := r, grant := 10, capacity := cap }
      machine := { s.machine with last := some m }
      plan := { s.plan with cells := s.plan.cells.set 1 ((Vector.replicate 16 0).set 3 900) } }
    let a := u .none 20;
    (a.inReset = none ∧ a.gov.timer = some 250 ∧ a.isUnloader = true ∧ a.station.state = .active ∧ a.link.rxPoor = false
        ∧ a.share.raise = .none ∧ a.share.yieldOwed = false ∧ a.share.lowering = none ∧ a.halted = false
        ∧ a.share.grant < (after .governorUpdate a).gov.allowed
        ∧ (10 : Int) ≤ min (min (((after .governorUpdate a).gov.allowed : Int) - a.share.grant) 200)
          ((a.share.capacity : Int) - a.share.resv - a.share.grant))
      ∧ (u (.queued 15) 20).share.raise = .queued 15
      ∧ ¬ (10 : Int) ≤ ((u .none 19).share.capacity : Int) - (u .none 19).share.resv - (u .none 19).share.grant := by decide

theorem witness_SettledClaimStartsTravelOrDischarge :
    let s (st : OrderState) : State := { working st with
      claim := { ClaimUnit.afterReset with phase := .settling, settle := some 1000 } }
    let m : Measure := ⟨1#8, 0#32, 0, 0, 250, 100, 1, 1, 900, true, false, true⟩
    let d : State := { s .claiming with machine := { (s .claiming).machine with last := some m } }
    (d.inReset = none ∧ d.claim.settle = some 1000 ∧ d.claim.phase = .settling
        ∧ d.order.active = some (order .claiming) ∧ d.machine.last = some m ∧ m.hold = 1 ∧ m.slot = 1)
      ∧ ((s .claiming).machine.sending = none ∧ (s .claiming).machine.last = none)
      ∧ (order .travelling).state ≠ .claiming := by decide

/-- One state for each blocked reason of an ORDER's claim, and one where all conditions hold; a request that waits in NONE;
and a QUEUED claim at a HALT of reason 1 and of reason 100. -/
theorem witness_ClaimIsOfferedOrBlocked :
    let y := ready (inState .active)
    let s (x : Option Nat) : State := { y with machine := { y.machine with position := x } }
    let p : Bytes := [255#8, 255#8, 1#8, 1#8, 0x02#8, 0x62#8, 0x5A#8, 0#8, 0#8, 10#8, 7#8]
    let near (h : Nat) (c : Option PeerClaim) := peer3 (fun e => { e with
      presence := .present, role := some .unloader, position := some h, claim := c }) (s (some 100))
    let q : ClaimRequest := ⟨1, 1, 100, none⟩
    let w (s : State) : State := { s with claim := { s.claim with request := some q } }
    ((s none).inReset = none ∧ (s none).console.waiting.length < 4 ∧ (s none).isUnloader = true
        ∧ (s none).station.state ≠ .leaving ∧ (s none).readyPlan = some plan
        ∧ (∃ a, readOrder p = some a ∧ a.tag ≠ 0 ∧ 1 ≤ a.hold ∧ a.hold ≤ plan.count
          ∧ ((s none).planPos a.hold a.slot).isSome = true ∧ 1 ≤ a.target ∧ a.target ≤ 40000000 ∧ a.priority ≤ 7
          ∧ (s none).tagHeld a.tag = false)
        ∧ (s none).order.active = none ∧ (s none).order.releaseOut = false ∧ (s none).claim.phase = .none)
      ∧ ((inState .degraded).station.state ≠ .active)
      ∧ ((s none).station.state = .active ∧ (s none).link.rxPoor = false ∧ (s none).halted = false
        ∧ (s none).machine.position.isSome = false)
      ∧ ({ s none with share := { (s none).share with halts := 8#16 } } : State).halted = true
      ∧ ((near 65000 (some ⟨1, 1, some 65000, 0, 0⟩)).entry 3).claim.map (fun c => (c.hold, c.slot)) = some (1, 1)
      ∧ ((near 200 none).claimBlocked q = some .pathBlocked ∧ (near 201 none).claimBlocked q = none
        ∧ (near 201 none).machine.position = some 100)
      ∧ ((w (s none)).claim.phase = .none ∧ (w (s none)).claim.request = some q
        ∧ (s none).claimBlocked q = some .viewIncomplete ∧ (s (some 100)).claimBlocked q = none)
      ∧ (let h : State := { w (s none) with claim := { (w (s none)).claim with phase := .queued } }
        h.listens = true ∧ (3 : StationNo) ≠ h.own ∧ readReason [1#8] = some 1 ∧ readReason [100#8] = some 100
          ∧ haltMember h.share.halts 3 = false ∧ h.claim.phase = .queued) :=
  ⟨⟨by decide, by decide, by decide, by decide, by decide, ⟨_, rfl, by decide⟩, by decide, by decide, by decide⟩,
    by decide, by decide, by decide, by decide, by decide, by decide, by decide⟩

/-- A conflict by same slot at the completion of the own CLAIM; at a STATUS a claim of equal age from a lower and from a
higher number, and a peer in the path with none; and a peer's CLAIM taken while SETTLED with no other conflict. -/
theorem witness_ClaimYieldsToConflicts :
    let b : ClaimBody := ⟨1, 1, 100, 200⟩
    let y := working .travelling
    let s (ph : ClaimPhase) (j : StationNo) (c : Option PeerClaim) : State :=
      { y with
        station := { y.station with straps := ⟨j, .unloader, .one⟩ }
        machine := { y.machine with position := some 100 }
        claim := { ClaimUnit.afterReset with own := some b, phase := ph, time := some 0 }
        table := { y.table with entries := y.table.entries.set 3 ({ y.table.entries[3] with
          presence := .present, role := some .unloader, position := some 300, claim := c }) } }
    let o := sending (.claim b) (s .sending 0 (some ⟨1, 1, none, 0, 0⟩))
    let equal (j : StationNo) : State := s .settled j (some ⟨1, 1, some 100, 0, 0⟩)
    (o.inReset = none ∧ o.link.onLine = some ⟨.claim b, 0#9, false⟩ ∧ o.claim.own = some b ∧ o.claim.phase = .sending
        ∧ o.claim.withdrawn = false ∧ o.link.txFaults ≤ 64 ∧ (3 : StationNo) ≠ o.own ∧ o.conflictWith b 3 ≠ none
        ∧ o.share.lowering = none ∧ o.machine.position = some 100 ∧ o.machine.sending = none
        ∧ (order .claiming).state = .claiming)
      ∧ ((equal 4).listens = true ∧ (∃ r, readStatus statusBytes = some r ∧ r.good = true)
        ∧ (equal 4).claim.phase = .settled ∧ (equal 4).claim.own = some b ∧ (equal 4).claim.time = some 0
        ∧ (equal 4).conflictWith b 3 ≠ none ∧ (3 : StationNo) < (equal 4).own ∧ ¬ (3 : StationNo) < (equal 2).own
        ∧ (equal 4).order.active = some (order .travelling))
      ∧ ((s .settling 0 none).conflictWith b 3 ≠ none ∧ ((s .settling 0 none).entry 3).claim = none)
      ∧ ((∃ r, readClaim [1#8, 1#8, 0#8, 100#8, 0#8, 200#8] = some r ∧ r.good = true)
        ∧ ∀ i, i ≠ (equal 0).own → i ≠ 3 → (equal 0).conflictWith b i = none) :=
  ⟨by decide, ⟨by decide, ⟨_, rfl, by decide⟩, by decide, by decide, by decide, by decide, by decide, by decide, by decide⟩,
    by decide, ⟨_, rfl, by decide⟩, by decide⟩

theorem witness_TravelAndExhaustionEndTheOrder :
    let s (st : OrderState) : State := { working st with
      claim := { ClaimUnit.afterReset with phase := .settled }
      share := { (working st).share with grant := 100 }
      order := { (working st).order with travelTimer := some 600000, exhaustTimer := some 60000 } }
    ((s .travelling).inReset = none ∧ (s .travelling).order.active = some (order .travelling)
        ∧ (s .travelling).order.travelTimer = some 600000 ∧ (s .travelling).claim.phase = .settled
        ∧ (s .travelling).share.lowering = none ∧ 0 < (s .travelling).share.grant
        ∧ (s .travelling).share.raise = .none)
      ∧ ((s .discharging).order.active = some (order .discharging)
        ∧ (s .discharging).order.exhaustTimer = some 60000 ∧ (s .discharging).running = true
        ∧ (s .discharging).isUnloader = true) := by decide

theorem witness_ListenEndsInActive :
    let s (n : Nat) : State :=
      { faults n (inState .joining) with station := { (inState .joining).station with listen := some 2000 } }
    (s 159).inReset = none ∧ (s 159).station.listen = some 2000 ∧ (s 159).station.state = .joining
      ∧ (s 159).link.txFaults < 160 ∧ (s 63).link.txFaults = 63 ∧ (s 63).link.onLine = none
      ∧ ((s 63).station.helloCause = none ∧ (s 63).isUnloader = true) := by decide

/-- An intake at the end of its listen: a belt capacity announced and none, a CAPACITY on the line; the belt found stopped, running
and never reported, an own halt in force, the urgent queue with room and full; and a HELLO's start cause. -/
theorem witness_IntakeAtTheEndOfItsListen :
    let s (cap : Option Nat) (belt : Option Bool) (own : Option OwnHalt) (urgent : List Content) : State :=
      let b := intakeIn .joining
      { b with
        station := { b.station with listen := some 2000, helloCause := some .power, reportLevel := 3 }
        share := { b.share with beltCap := cap, beltRunning := belt, ownHalt := own }
        link := { b.link with urgent := urgent } }
    ((s (some 900) none none []).inReset = none ∧ (s (some 900) none none []).station.listen = some 2000
        ∧ (s (some 900) none none []).station.state = .joining ∧ (s (some 900) none none []).isIntake = true
        ∧ (s (some 900) none none []).share.beltCap = some 900 ∧ (s none none none []).share.beltCap.isSome = false
        ∧ (sending (.capacity 5) (s (some 900) none none [])).link.onLine = some ⟨.capacity 5, 0#9, false⟩)
      ∧ ((s none (some false) none []).share.beltRunning = some false ∧ (s none (some false) none []).share.ownHalt = none
        ∧ (s none (some false) none []).link.urgentCount < 2
        ∧ ¬ (s none (some false) none [.clear 1, .clear 2]).link.urgentCount < 2
        ∧ (s none (some true) none []).share.beltRunning ≠ some false ∧ (s none none none []).share.beltRunning ≠ some false
        ∧ (s none (some false) (some ⟨.quay, 4⟩) []).share.ownHalt ≠ none)
      ∧ ((s none none none []).station.helloCause = some .power ∧ 3 ≤ (s none none none []).station.reportLevel
        ∧ (s none none none []).console.reports.length ≤ 12) := by decide

/-- R67, R68: at the end of its listen an intake offers its CAPACITY, and halts the belt it had found stopped. -/
theorem test_intake_enters_active :
    let b := intakeIn .joining
    let s := after .listenTimerExpiry { b with
      station := { b.station with listen := some 2000 }
      share := { b.share with beltCap := some 900, beltRunning := some false } }
    s.share.capTimer = some 7000 ∧ .capacity 900 ∈ s.link.normal ∧ s.share.ownHalt = some ⟨.belt, 100⟩
      ∧ s.link.urgent = [.halt .belt 100] ∧ s.share.halts = 1#16 := by decide

/-- The third choke exactly 600 s after the first, the same after an older one, one 1 ms later, and one cleared. -/
theorem witness_ChokeStopsTheFeedAndClears :
    let s := working .discharging
    let h (x : List Nat) : State := { s with
      claim := { ClaimUnit.afterReset with phase := .settled }
      machine := { s.machine with chokeEntry := some 600700, history := x, chokeRecovery := some 605700 } }
    let c := h [700, 900]
    ((h [20, 700, 900]).machine.history = [20] ++ [700, 900] ∧ [20].length ≤ 1 ∧ c.machine.history = [] ++ [700, 900]
        ∧ (h [20, 699, 900]).machine.history = [20] ++ [699, 900] ∧ 699 + 600000 < max c.now 600700
        ∧ (h [900]).machine.history.length ≤ 1) ∧
    c.inReset = none ∧ c.isUnloader = true ∧ c.machine.chokeEntry = some 600700 ∧ c.claim.phase = .settled
      ∧ c.order.active = some (order .discharging) ∧ c.machine.history = [700, 900]
      ∧ max c.now 600700 ≤ 700 + 600000 ∧ c.machine.chokeRecovery = some 605700 := by decide

theorem witness_SerialFramesAreCountedAndSentInTurn :
    State.reset.inReset = none
      ∧ (∃ m, readMeasure (List.replicate 18 0#8) = some m
        ∧ ({ State.reset.machine with lastSeq := some 0#8 } : MachineIf).lastSeq = some m.seq)
      ∧ (∃ m, readMeasure (List.replicate 13 0#8 ++ [13#8, 1#8, 0#8, 0#8, 0#8]) = some m ∧ 12 < m.hold) :=
  ⟨by decide, ⟨_, rfl, by decide⟩, ⟨_, rfl, by decide⟩⟩

/-- Hold 12, slot 2, position 65 000, 700 kg in the receiver; a carry queue of 3 records and of 4; velocity at Vmin + 20
and just below Vmin. -/
theorem witness_GoodMeasureIsRecordedAndWeighed :
    let m : Measure := ⟨1#8, 1010#32, 700, 0, 220, 65000, 12, 2, 900, true, false, true⟩
    let four : List (Nat × Nat) := [(1, 10), (2, 10), (3, 10), (4, 10)]
    let s (c : List (Nat × Nat)) : State := { inState .active with
      machine := { (inState .active).machine with carry := c, attrHold := 5, choke := true } }
    (State.reset.inReset = none ∧ State.reset.isUnloader = true ∧ (intakeIn .active).isIntake = true
        ∧ readMeasure m.bytes = some m ∧ State.reset.machine.lastSeq ≠ some m.seq ∧ m.hold ≤ 12 ∧ m.slot ≤ 2
        ∧ (m.hold = 0 ↔ m.slot = 0) ∧ m.position ≤ 65000)
      ∧ (m.hold ≠ 0 ∧ m.hold ≠ (s four.tail).machine.attrHold
        ∧ m.receiver - ((spendCarry four.tail 0).2.1.map (fun r => r.2)).sum ≠ 0
        ∧ (spendCarry four.tail 0).2.1.length < 4 ∧ 4 ≤ (spendCarry four 0).2.1.length
        ∧ (spendCarry four 0).2.1 = [(1, 10), (2, 10), (3, 10)] ++ [(4, 10)])
      ∧ ((s four).machine.choke = true ∧ (s four).configNat (·.vmin) + 20 ≤ m.velocity)
      ∧ ((working .discharging).machine.choke = false ∧ 199 < (working .discharging).configNat (·.vmin)) := by decide

/-- The other blocks' part of it: a feed of L + 10 and of L + 11 with a lowering to 100, of G + 10 with a yield owed; a
TRAVELLING order's own slot, another and none; a DISCHARGING order whose 1 000 kg reach its target, and one of 1 kg more;
a SUSPENDING one, and one whose feed comes to 10 and to 11; an intake's belt that stops. -/
theorem witness_GoodMeasureInTheOtherBlocks :
    let m (feed hold slot : Nat) : Measure := ⟨1#8, 1000#32, 0, feed, 220, 100, hold, slot, 900, true, false, false⟩
    let l (n : Option Nat) (y : Bool) : State := { inState .active with
      share := { (inState .active).share with
        grant := 100, yieldOwed := y, lowering := n.map (fun x => ⟨x, none, false, true, false⟩) } }
    let w (st : OrderState) (target : Nat) : State := { working st with
      order := { (working st).order with active := some { order st with target := target } }
      claim := { ClaimUnit.afterReset with phase := .settled, own := some ⟨1, 1, 100, 100⟩ }
      machine := { (working st).machine with baseline := some 0#32, attrHold := 1 } }
    let i : State := { intakeIn .active with share := { (intakeIn .active).share with beltRunning := some true } }
    ((l (some 100) false).share.lowering = some ⟨100, none, false, true, false⟩ ∧ (l (some 100) false).transmits = true
        ∧ (m 110 0 0).feed ≤ 100 + 10 ∧ ¬ (m 111 0 0).feed ≤ 100 + 10 ∧ (l (some 100) false).link.lowerPending 100 = false
        ∧ (after (.measure 9 (m 110 0 0).bytes) (l (some 100) false)).share.lowering = some ⟨100, none, false, true, false⟩)
      ∧ ((l none true).share.yieldOwed = true ∧ (l none true).share.lowering = none ∧ (l none true).share.grant = 100
        ∧ (after (.measure 9 (m 110 0 0).bytes) (l none true)).share.yieldOwed = true
        ∧ (after (.measure 9 (m 110 0 0).bytes) (l none true)).share.lowering = none)
      ∧ ((l none true).isUnloader = true ∧ (l none true).order.active = none ∧ (l none true).claim.phase = .none
        ∧ (l none true).claim.request = none)
      ∧ ((w .travelling 30000).order.active = some (order .travelling) ∧ (order .travelling).hold = 1
        ∧ (order .travelling).slot = 1 ∧ (w .travelling 30000).claim.own = some ⟨1, 1, 100, 100⟩
        ∧ (∀ j, j ≠ (w .travelling 30000).own → (w .travelling 30000).conflictWith ⟨1, 1, 100, 100⟩ j = none)
        ∧ (w .travelling 30000).claim.phase = .settled ∧ ¬ ((m 0 1 2).hold = 1 ∧ (m 0 1 2).slot = 1) ∧ (m 0 1 2).hold ≠ 0)
      ∧ (attributions 1 [] 1000 = [(1, 1000)] ∧ (w .discharging 1000).order.active = some { order .discharging with target := 1000 }
        ∧ (order .discharging).done < 1000 ∧ (w .discharging 1001).readyPlan = some plan
        ∧ massAt (w .discharging 1001).plan.attributed 1 = 0 ∧ (w .discharging 1001).running = true)
      ∧ ((w .suspending 1000).order.active = some { order .suspending with target := 1000 }
        ∧ (w .suspending 1000).order.releaseOut = false ∧ (w .suspending 1000).claim.phase = .settled
        ∧ (w .suspending 1000).transmits = true ∧ (m 10 0 0).feed ≤ 10 ∧ 10 < (m 11 0 0).feed
        ∧ (order .suspending).endState = none ∧ (order .ending).done ≤ 4294967295)
      ∧ (i.isIntake = true ∧ i.share.beltRunning = some true ∧ (m 0 0 0).running = false ∧ i.transmits = true
        ∧ i.share.ownHalt = none ∧ i.link.urgentCount < 2 ∧ (intakeIn .active).share.beltRunning ≠ some true) := by
  decide

/-- 25 kg end within the second record, 20 with the first, 50 (the whole queue) with the last, 51 go beyond. -/
theorem witness_IncrementIsSpentWhole :
    let c : List (Nat × Nat) := [(1, 20), (2, 30)]
    let sum (l : List (Nat × Nat)) : Nat := (l.map (fun r => r.2)).sum
    (∀ r ∈ c, 0 < r.2) ∧ (c = [(1, 20)] ++ (2, 30) :: [] ∧ 0 < 5 ∧ 5 < 30 ∧ 25 = sum [(1, 20)] + 5)
      ∧ (c = [(1, 20)] ++ [(2, 30)] ∧ 20 = sum [(1, 20)]) ∧ (c = c ++ [] ∧ 50 = sum c) ∧ 50 ≤ sum c ∧ sum c < 51 := by decide

/-- R157: 25 kg over records of 20 and 30 kg: 20 to the older, 5 to the newer, which keeps 25; 50 kg spend both. -/
theorem test_carry_is_spent_oldest_first :
    attributions 9 [(1, 20), (2, 30)] 25 = [(1, 20), (2, 5)] ∧ (spendCarry [(1, 20), (2, 30)] 25).2.1 = [(2, 25)]
      ∧ attributions 9 [(1, 20), (2, 30)] 50 = [(1, 20), (2, 30)] ∧ (spendCarry [(1, 20), (2, 30)] 50).2.1 = [] := by decide

theorem witness_RefusedCommandsChangeNothing :
    let full : State := { State.reset with console := { State.reset.console with
      sending := some ⟨1#16, .ok, []⟩, waiting := List.replicate 4 ⟨2#16, .ok, []⟩ } }
    let three : State := { State.reset with console := { State.reset.console with
      sending := some ⟨1#16, .ok, []⟩, waiting := List.replicate 3 ⟨2#16, .ok, []⟩ } }
    State.reset.inReset = none ∧ three.console.waiting.length < 4 ∧ 4 ≤ full.console.waiting.length
      ∧ (Instr.join 5 1#16 [7#8]).consoleCommand = some (5, 1#16, [7#8], 0) ∧ [7#8].length ≠ 0
      ∧ (Instr.leave 5 1#16 []).consoleCommand = some (5, 1#16, [], 0)
      ∧ (∃ s', exec (.leave 5 1#16 []) three = .next s' ∧ s'.console = three.console.respond ⟨1#16, .badState, []⟩
        ∧ Result.badState ≠ .ok ∧ Result.badState ≠ .clamped) :=
  ⟨by decide, by decide, by decide, by decide, by decide, by decide, ⟨_, rfl, by decide, by decide, by decide⟩⟩

/-- Every field at the top of its range, then capacity one above it, then a remote reset enable of 2. -/
theorem witness_ConfigureSetsTheRecordOnce :
    State.reset.inReset = none ∧ State.reset.console.waiting.length < 4 ∧ State.reset.station.state = .config
      ∧ State.reset.console.sending = none ∧ (inState .offline).station.state ≠ .config
      ∧ (∃ a, readConfigure [0x17#8, 0x70#8, 1#8, 0x90#8, 1#8, 44#8, 7#8, 8#8, 0xC3#8, 0x50#8, 3#8, 1#8] = some a
        ∧ a.remoteEnable ≤ 1 ∧ a.capacity = 6000 ∧ a.taperMass = 50000)
      ∧ (∃ a, readConfigure [0x17#8, 0x71#8, 1#8, 0x90#8, 1#8, 44#8, 7#8, 8#8, 0xC3#8, 0x50#8, 3#8, 0#8] = some a
        ∧ a.remoteEnable ≤ 1 ∧ a.capacity = 6001)
      ∧ (∃ a, readConfigure [0x17#8, 0x70#8, 1#8, 0x90#8, 1#8, 44#8, 7#8, 8#8, 0xC3#8, 0x50#8, 3#8, 2#8] = some a
        ∧ 1 < a.remoteEnable) :=
  ⟨by decide, by decide, by decide, by decide, by decide, ⟨_, rfl, by decide⟩, ⟨_, rfl, by decide⟩, ⟨_, rfl, by decide⟩⟩

/-- JOIN from OFFLINE and MUTED, with a kept lowering whose feed is 10 above its target, 11 above it and not known, an own
halt and an owed RELEASE; LEAVE with a grant of 0 and of 1. -/
theorem witness_JoinAndLeaveEnterTheirStates :
    let g : State := { inState .degraded with share := { (inState .degraded).share with grant := 1 } }
    let j (feed : Option Nat) : State := { inState .muted with
      share := { (inState .muted).share with
        grant := 300, feed := feed, lowering := some ⟨100, some 4, false, true, false⟩, ownHalt := some ⟨.belt, 5⟩ }
      claim := { ClaimUnit.afterReset with own := some ⟨1, 1, 100, 200⟩, phase := .releasing, releaseOwed := true } }
    ((j (some 110)).share.lowering = some ⟨100, some 4, false, true, false⟩ ∧ (j (some 110)).share.feed.any (· ≤ 110) = true
        ∧ (j (some 111)).share.feed.any (· ≤ 110) = false ∧ (j none).share.feed = none
        ∧ (j none).share.ownHalt = some ⟨.belt, 5⟩ ∧ (j none).link.urgentCount < 2
        ∧ ({ j none with link := { (j none).link with urgent := [.halt .belt 5, .clear 5] } } : State).link.urgentCount = 2
        ∧ (j none).claim.phase = .releasing ∧ (j none).claim.releaseOwed = true
        ∧ (j none).claim.own = some ⟨1, 1, 100, 200⟩ ∧ (j none).link.normal = [] ∧ (j none).link.held = none
        ∧ (j none).link.onLine = none ∧ (j none).isUnloader = true ∧ (j none).gov.timer = none
        ∧ ({ j none with gov := { (j none).gov with timer := some 9 } } : State).gov.timer ≠ none
        ∧ (inState .offline).share.ownHalt = none) ∧
    (inState .offline).inReset = none ∧ (inState .offline).console.waiting.length < 4
      ∧ (inState .offline).station.state = .offline ∧ (inState .muted).station.state = .muted
      ∧ (inState .offline).link.normal = [] ∧ (inState .offline).link.onLine = none
      ∧ ((inState .active).station.state ≠ .offline ∧ (inState .active).station.state ≠ .muted)
      ∧ ((inState .active).working = true ∧ (inState .active).order.active = none
        ∧ (inState .active).order.incoming = none ∧ (inState .active).claim.phase = .none
        ∧ (inState .active).share.lowering = none ∧ (inState .active).share.raise = .none
        ∧ (inState .active).share.grant = 0)
      ∧ (g.working = true ∧ 0 < g.share.grant)
      ∧ ((working .claiming).working = true ∧ (working .claiming).order.active.isSome = true)
      ∧ (inState .leaving).working = false := by decide

/-- Every field at the top of its range, then 13 holds. -/
theorem witness_PlanBeginAndDropClearTheAccounts :
    (inState .active).inReset = none ∧ (inState .active).console.waiting.length < 4 ∧ (inState .active).isUnloader = true
      ∧ (inState .active).anyOrder = false ∧ (working .claiming).anyOrder = true ∧ (intakeIn .active).isIntake = true
      ∧ (∃ a, readPlanBegin [255#8, 255#8, 255#8, 255#8, 12#8, 0x02#8, 0x62#8, 0x5A#8, 0#8, 0#8, 0x1E#8, 0x84#8, 0x80#8]
          = some a ∧ a.id ≠ 0 ∧ 1 ≤ a.count ∧ a.count ≤ 12 ∧ a.dadj ≤ 40000000 ∧ a.tmax ≤ 2000000)
      ∧ (∃ a, readPlanBegin [0#8, 0#8, 0#8, 1#8, 13#8, 0#8, 0#8, 0#8, 0#8, 0#8, 0#8, 0#8, 0#8] = some a ∧ 12 < a.count) :=
  ⟨by decide, by decide, by decide, by decide, by decide, by decide, ⟨_, rfl, by decide⟩, ⟨_, rfl, by decide⟩⟩

/-- Hold 2 of 2, mass 40 000 000, lever -1 500, positions 65 000; and a plan whose hold 1 is not given. -/
theorem witness_PlanIsGivenAndMadeReady :
    let s := inState .active
    let l : State := { s with plan := { s.plan with phase := .loading, record := some plan } }
    l.inReset = none ∧ l.console.waiting.length < 4 ∧ l.isUnloader = true ∧ l.plan.phase = .loading
      ∧ l.plan.record = some plan ∧ plan.count ≤ 12 ∧ s.plan.phase ≠ .loading ∧ (intakeIn .active).isIntake = true
      ∧ (∃ a, readPlanHold [2#8, 0x02#8, 0x62#8, 0x5A#8, 0#8, 0xFA#8, 0x24#8, 2#8, 0xFD#8, 0xE8#8, 0xFD#8, 0xE8#8] = some a
        ∧ 1 ≤ a.hold ∧ a.hold ≤ plan.count ∧ 1 ≤ a.mass ∧ a.mass ≤ 40000000 ∧ -1500 ≤ a.lever ∧ a.lever ≤ 1500
        ∧ (a.slots = 1 ∨ a.slots = 2 ∧ a.pos2 ≤ 65000) ∧ a.pos1 ≤ 65000)
      ∧ (∃ a, readPlanHold [2#8, 0x02#8, 0x62#8, 0x5A#8, 0#8, 0xFA#8, 0x24#8, 2#8, 0xFD#8, 0xE8#8, 0xFD#8, 0xE9#8] = some a
        ∧ ¬ (a.slots = 1 ∨ a.slots = 2 ∧ a.pos2 ≤ 65000))
      ∧ ((plan.hold 1).isSome = true ∧ (plan.hold 2).isSome = true)
      ∧ (({ plan with holds := Vector.replicate 12 none } : PlanRecord).hold 1) = none :=
  ⟨by decide, by decide, by decide, by decide, by decide, by decide, by decide, by decide, ⟨_, rfl, by decide⟩,
    ⟨_, rfl, by decide⟩, by decide, by decide⟩

/-- Slots (1, 2) and (2, 1) at 200 dm, slot (1, 1) at 100: the first shared slot and the first later one. -/
theorem witness_PlanEndNamesTheSharedSlots :
    let r : PlanRecord := { plan with holds := plan.holds.set 1 (some ⟨40000, 0, 200, none⟩) }
    let given := ∀ h, 1 ≤ h → h ≤ r.count → (r.hold h).isSome = true
    let posOf (h l : Nat) : Option Nat := if h ≤ r.count then (r.hold h).bind (fun e => e.slotPos l) else none
    let first (h l h' l' : Nat) : Prop := h < h' ∨ h = h' ∧ l < l'
    let shared (h l h' l' : Nat) : Prop := first h l h' l' ∧ ∃ x, posOf h l = some x ∧ posOf h' l' = some x
    given ∧ shared 1 2 2 1 ∧ (∀ k i k' i', first k i 1 2 → ¬ shared k i k' i') ∧ (∀ k i, first k i 2 1 → ¬ shared 1 2 k i) := by
  intro r given posOf first shared
  have holds (h : Nat) (h1 : 1 ≤ h) (h2 : h ≤ 2) : h = 1 ∨ h = 2 := by omega
  have pos (h l x : Nat) (hp : posOf h l = some x) :
      (h = 1 ∧ l = 1 ∧ x = 100) ∨ (h = 1 ∧ l = 2 ∧ x = 200) ∨ (h = 2 ∧ l = 1 ∧ x = 200) := by
    by_cases h2 : h ≤ 2
    · by_cases h0 : h = 0
      · subst h0; simp [posOf, PlanRecord.hold] at hp
      · rcases holds h (by omega) h2 with rfl | rfl
        · simp [posOf, r, plan, PlanRecord.hold, HoldEntry.slotPos] at hp
          split at hp <;> simp_all
        · simp [posOf, r, plan, PlanRecord.hold, HoldEntry.slotPos] at hp
          omega
    · simp [posOf, r, plan, h2] at hp
  refine ⟨fun h h1 h2 => ?_, ⟨by decide, 200, by decide, by decide⟩, ?_, ?_⟩
  · rcases holds h h1 h2 with rfl | rfl <;> decide
  · rintro k i k' i' hf ⟨hs, x, ha, hb⟩
    have := pos _ _ _ ha
    have := pos _ _ _ hb
    simp only [first] at hf hs
    omega
  · rintro k i hf ⟨hs, x, ha, hb⟩
    have := pos _ _ _ ha
    have := pos _ _ _ hb
    simp only [first] at hf hs
    omega

/-- Tag 65 535, hold 2 of 2, target 40 000 000, priority 7; a priority of 8; a tag held; then priorities 2 and 3 beside an
active order of 2. -/
theorem witness_OrderIsAcceptedAndPlaced :
    let s := ready (inState .active)
    let w := working .ending
    let q : State := { w with order := { w.order with
      queue := [{ order .waiting with tag := 11 }, { order .waiting with tag := 12 }, { order .waiting with tag := 13 },
        { order .waiting with tag := 14 }, { order .waiting with tag := 15 }, { order .waiting with tag := 16 },
        { order .waiting with tag := 17 }, { order .waiting with tag := 18 }] } }
    s.inReset = none ∧ s.console.waiting.length < 4 ∧ s.isUnloader = true ∧ s.station.state ≠ .leaving
      ∧ s.readyPlan = some plan ∧ s.order.active = none ∧ s.order.releaseOut = false ∧ s.claim.phase = .none
      ∧ (∃ a, readOrder [255#8, 255#8, 2#8, 1#8, 0x02#8, 0x62#8, 0x5A#8, 0#8, 0#8, 10#8, 7#8] = some a ∧ a.tag ≠ 0
        ∧ 1 ≤ a.hold ∧ a.hold ≤ plan.count ∧ (s.planPos a.hold a.slot).isSome = true ∧ 1 ≤ a.target
        ∧ a.target ≤ 40000000 ∧ a.priority ≤ 7 ∧ a.tag ∉ s.order.tags ++ s.order.finished.map (fun q => q.tag)
        ∧ a.tag ∉ q.order.tags ++ q.order.finished.map (fun q => q.tag))
      ∧ ((working .claiming).order.active = some (order .claiming) ∧ (order .claiming).priority ≥ 2
        ∧ (working .claiming).order.queue.length < 8)
      ∧ (w.order.active = some (order .ending) ∧ (order .ending).state = .ending)
      ∧ 8 ≤ q.order.queue.length
      ∧ ((intakeIn .active).isIntake = true ∧ (inState .leaving).station.state = .leaving
        ∧ (inState .active).readyPlan = none)
      ∧ (∃ a, readOrder [0#8, 5#8, 2#8, 1#8, 0x02#8, 0x62#8, 0x5A#8, 0#8, 0#8, 10#8, 8#8] = some a ∧ ¬ a.priority ≤ 7)
      ∧ (5 : Nat) ∈ w.order.tags ++ w.order.finished.map (fun q => q.tag) :=
  ⟨by decide, by decide, by decide, by decide, by decide, by decide, by decide, by decide, ⟨_, rfl, by decide⟩,
    by decide, by decide, by decide, by decide, ⟨_, rfl, by decide⟩, by decide⟩

/-- Priority 3 over an active order of 2, with 3 and with 4 on the stack; a CLAIMING one QUEUED, one whose CLAIM is on the line,
one SETTLING and one whose release is outstanding; a TRAVELLING one SETTLED; a DISCHARGING one at a measured feed of 11 and of 10. -/
theorem witness_PreemptionSuspendsTheActiveOrder :
    let x (n : Nat) : OrderRecord := { order .suspended with tag := n }
    let s (st : OrderState) (ph : ClaimPhase) (f : Nat) (stack : List OrderRecord) : State := { working st with
      order := { (working st).order with stack := stack }
      share := { (working st).share with feed := some f }
      machine := { (working st).machine with position := some 100 }
      claim := { ClaimUnit.afterReset with phase := ph } }
    let p : Bytes := [255#8, 255#8, 2#8, 1#8, 0x02#8, 0x62#8, 0x5A#8, 0#8, 0#8, 10#8, 3#8]
    (let a := s .claiming .queued 0 [x 8, x 9, x 10];
      a.inReset = none ∧ a.console.waiting.length < 4 ∧ a.isUnloader = true ∧ a.station.state ≠ .leaving
        ∧ a.readyPlan = some plan
        ∧ (∃ b, readOrder p = some b ∧ b.tag ≠ 0 ∧ 1 ≤ b.hold ∧ b.hold ≤ plan.count
          ∧ (a.planPos b.hold b.slot).isSome = true ∧ 1 ≤ b.target ∧ b.target ≤ 40000000 ∧ b.priority ≤ 7
          ∧ b.tag ∉ a.order.tags ++ a.order.finished.map (fun q => q.tag) ∧ (order .claiming).priority < b.priority)
        ∧ a.order.active = some (order .claiming) ∧ a.order.stack.length < 4 ∧ a.claim.phase = .queued)
      ∧ ((s .claiming .queued 0 [x 8, x 9, x 10, x 11]).order.stack.length = 4 ∧ (order .claiming).state ≠ .suspending
        ∧ (order .claiming).state ≠ .ending)
      ∧ ((s .claiming .releasing 0 []).claim.phase = .releasing ∧ (s .claiming .settling 0 []).claim.phase = .settling
        ∧ (let b : ClaimBody := ⟨1, 1, 100, 200⟩;
          let a := sending (.claim b) (s .claiming .sending 0 []);
          a.claim.phase = .sending ∧ a.link.onLine = some ⟨.claim b, 0#9, false⟩ ∧ Content.kind (.claim b) = .claim
            ∧ ({ a with claim := { a.claim with own := some b } } : State).claim.own = some b ∧ a.transmits = true))
      ∧ (let a := s .travelling .settled 0 [];
        a.claim.phase = .settled ∧ a.machine.position = some 100 ∧ a.machine.sending = none)
      ∧ (let a := s .discharging .settled 11 [];
        a.running = true ∧ a.claim.phase = .settled ∧ a.share.feed = some 11)
      ∧ (let a := s .discharging .settled 10 [];
        a.share.feed = some 10 ∧ a.order.releaseOut = false) :=
  ⟨⟨by decide, by decide, by decide, by decide, by decide, ⟨_, rfl, by decide⟩, by decide, by decide, by decide⟩,
    by decide, by decide, by decide, by decide, by decide⟩

theorem witness_CancelEndsTheOrderWhereItStands :
    let w := working .discharging
    let s : State := { w with
      share := { w.share with grant := 1 }
      order := { w.order with stack := [{ order .suspended with tag := 8 }], queue := [{ order .waiting with tag := 9 }] } }
    let u (e : Option EndState) : OrderUnit := { OrderUnit.afterReset with
      active := some { order .suspending with endState := e }, incoming := some { order .waiting with tag := 7 } }
    (s.inReset = none ∧ s.console.waiting.length < 4 ∧ readWord [0#8, 9#8] = some 9 ∧ readWord [0#8, 8#8] = some 8
        ∧ readWord [0#8, 5#8] = some 5 ∧ s.order.ok ∧ s.order.queue = [] ++ { order .waiting with tag := 9 } :: []
        ∧ s.order.stack = [] ++ { order .suspended with tag := 8 } :: [])
      ∧ (s.order.active = some (order .discharging) ∧ (order .discharging).tag = 5 ∧ s.share.lowering = none
        ∧ 0 < s.share.grant)
      ∧ ((u none).ok ∧ (u none).incoming = some { order .waiting with tag := 7 })
      ∧ ((u none).active = some (order .suspending) ∧ (order .suspending).state = .suspending ∧ (u (some .failed)).ok)
      ∧ ((working .claiming).order.ok ∧ (working .claiming).order.active = some (order .claiming)
        ∧ (working .claiming).claim.phase = .none ∧ (working .claiming).share.lowering = none
        ∧ (working .claiming).share.grant = 0 ∧ (working .claiming).order.stack = []
        ∧ (working .claiming).order.queue = [])
      ∧ ((working .travelling).order.active = some (order .travelling)
        ∧ ({ ClaimUnit.afterReset with phase := .settled } : ClaimUnit).phase = .settled)
      ∧ ((working .ending).order.active = some (order .ending) ∧ (working .ending).order.ok) ∧ 10 ∉ s.order.tags :=
  ⟨by decide, by decide, by decide, by decide, by decide, by decide, by decide, by decide⟩

theorem witness_HostHaltAndClear :
    let s := inState .active
    let two : State := { s with link := { s.link with urgent := [.clear 1, .clear 2] } }
    s.inReset = none ∧ s.console.waiting.length < 4 ∧ (1 ≤ (99#8).toNat ∧ (99#8).toNat ≤ 99)
      ∧ ¬ (1 ≤ (100#8).toNat ∧ (100#8).toNat ≤ 99) ∧ ¬ (1 ≤ (0#8).toNat) ∧ ¬ ((3#8 : Byte) = 1#8 ∨ (3#8 : Byte) = 2#8)
      ∧ s.transmits = true ∧ (inState .offline).transmits = false ∧ 2 ≤ two.link.urgentCount ∧ s.link.urgentCount < 2
      ∧ s.isUnloader = true ∧ haltMember s.share.halts s.own = false ∧ s.halted = false
      ∧ (intakeIn .active).isIntake = true := by decide

theorem witness_OverrideClearEmptiesTheHaltSet :
    (inState .config).inReset = none ∧ (inState .config).console.waiting.length < 4 := by decide

theorem witness_BeltcapAndRemoteReset :
    let s := inState .active
    let two : State := { s with link := { s.link with urgent := [.clear 1, .clear 2] } }
    s.inReset = none ∧ s.console.waiting.length < 4 ∧ readWord [0x17#8, 0x71#8] = some 6001
      ∧ readWord [0x17#8, 0x70#8] = some 6000 ∧ s.isUnloader = true ∧ (intakeIn .active).isIntake = true
      ∧ (15 < (16#8).toNat ∧ (0#8).toNat = s.own.val ∧ (15#8).toNat = (15 : StationNo).val ∧ (15 : StationNo) ≠ s.own)
      ∧ (inState .offline).transmits = false ∧ s.transmits = true ∧ 2 ≤ two.link.urgentCount ∧ s.link.urgentCount < 2 := by
  decide

/-- Peer numbers 15 and 16, and the own number. -/
theorem witness_QueriesChangeNothing :
    (inState .config).inReset = none ∧ (inState .config).console.waiting.length < 4
      ∧ (15#8).toNat = (15 : StationNo).val ∧ (15 : StationNo) ≠ (inState .config).own ∧ 15 < (16#8).toNat
      ∧ (0#8).toNat = (inState .config).own.val := by decide

theorem witness_ReadReportTakesTheOldest :
    State.reset.inReset = none ∧ State.reset.console.waiting.length < 4
      ∧ State.reset.console.reports = ⟨.info, .station, 31, [1#32, 0#32, 0#32, 1#32]⟩ :: []
      ∧ (after (.readReport 5 1#16 []) State.reset).console.reports = [] := by decide

/-- A HALT at rank 15; a STATUS, a TALLY and a MEASURE with every field at the top of its width; 13 argument bytes. -/
theorem witness_FramesAreJudgedAsSent :
    (15 : Nat) ≤ 15 ∧ (Content.kind (.halt .quay 5)).permitsLength (Content.payload (.halt .quay 5)).length = true
      ∧ (let b : StatusBody := ⟨15, .intake, .two, 255#8, some 65534, 255, 255, 65535, 65535, 65535, 65535, 65535, 65535,
            4294967295, 4294967295, 0xFFFF#16⟩
        b.stateCode < 16 ∧ (65534 : Nat) < 65535 ∧ b.hold < 256 ∧ b.age < 65536 ∧ b.planId < 4294967296)
      ∧ (let b : TallyBody := ⟨4294967295, List.replicate 12 (255, 4294967295)⟩
        b.planId < 4294967296 ∧ 1 ≤ b.pairs.length ∧ b.pairs.length ≤ 12
          ∧ ∀ q ∈ b.pairs, q.1 < 256 ∧ q.2 < 4294967296)
      ∧ (List.replicate 13 7#8).length ≤ 13 ∧ (List.replicate 18 7#8).length = 18
      ∧ (let m : Measure := ⟨255#8, 0xFFFFFFFF#32, 65535, 65535, 65535, 65535, 255, 255, 65535, true, true, true⟩
        m.receiver < 65536 ∧ m.feed < 65536 ∧ m.velocity < 65536 ∧ m.position < 65536 ∧ m.hold < 256 ∧ m.slot < 256
          ∧ m.capacity < 65536) := by decide

/-- A feeding station with a grant, a frame queued, and a command waiting. -/
def feeding : State :=
  let s := working .discharging
  { s with
    pending := [.attemptStart 3, .governorUpdate]
    link := { s.link with urgent := [.clear 5], normal := [.lower 100] }
    share := { s.share with
      grant := 400, capacity := 1500, lowering := some ⟨100, some 15000, true, false, false⟩ }
    gov := { s.gov with feed := 100, timer := some 250 }
    machine := { s.machine with sending := some (.setpoint 300), waiting := [.setpoint 280], carry := [(1, 20)] } }

theorem witness_ConsoleMachineAndOrderQueuesAreKept :
    feeding.console.ok ∧ feeding.machine.ok ∧ feeding.order.ok ∧ feeding.order.active.isSome = true
      ∧ ∃ s', step feeding = .next s' := ⟨by decide, by decide, by decide, by decide, ⟨_, rfl⟩⟩

theorem witness_AcceptedMassIsDeliveredAndCellsAreKept :
    (feeding.massesBalance ∧ ∃ s', step feeding = .next s')
      ∧ ((∃ s', exec (.lineIdle 3) State.reset = .next s') ∧ (Instr.lineIdle 3).resets = false
        ∧ (∀ t tag p, Instr.lineIdle 3 ≠ .planBegin t tag p) ∧ (∀ t tag p, Instr.lineIdle 3 ≠ .planDrop t tag p)) :=
  ⟨⟨by decide, ⟨_, rfl⟩⟩, ⟨_, rfl⟩, by decide, nofun, nofun⟩

theorem witness_TransmitQueuesInvariantIsKept : feeding.lineOk ∧ ∃ s', step feeding = .next s' := ⟨by decide, ⟨_, rfl⟩⟩

/-- A lowering in progress, its LOWER queued. -/
theorem witness_LowersNeverRaiseTheGrant :
    feeding.lineOk ∧ feeding.lowersOk ∧ feeding.link.lowers = [100] ∧ ∃ s', step feeding = .next s' :=
  ⟨by decide, by decide, by decide, ⟨_, rfl⟩⟩

theorem witness_FeedIsZeroUnderEveryHoldOff :
    feeding.feedSafe ∧ 0 < feeding.gov.feed ∧ ∃ s', step feeding = .next s' := ⟨by decide, by decide, ⟨_, rfl⟩⟩

theorem witness_ReservationsAndCapacityStayCurrent :
    feeding.viewCurrent ∧ feeding.unheardHoldNothing ∧ feeding.share.capacity = 1500 ∧ ∃ s', step feeding = .next s' :=
  ⟨by decide, by decide, by decide, ⟨_, rfl⟩⟩

end Sys2Proof.Tests
end

/-! ## Transmit queues: what keeps `Link.ok` (R13 to R16) -/

namespace Sys2Proof.Machine

/-- `Link.ok` reads the normal set by its kinds, in any order, and the attempt on the line by its kind. -/
theorem Link.ok_of_kinds {l l' : Link} (h : l.ok) (hu : l'.urgent = l.urgent)
    (hn : (l'.normal.map (fun c => c.kind)).Perm (l.normal.map (fun c => c.kind))) (hk : l'.lineKind = l.lineKind)
    (hh : ∀ c ∈ l'.held, c.kind.single = true ∧ l.lineKind = some c.kind) : l'.ok := by
  obtain ⟨urgents, normals, count, list, nodup, line, -⟩ := h
  have kinds : ∀ p : Kind → Prop, (∀ c ∈ l.normal, p c.kind) → ∀ c ∈ l'.normal, p c.kind := by
    intro p hp c hc
    obtain ⟨d, hd, e⟩ := List.mem_map.mp (hn.subset (List.mem_map_of_mem hc))
    exact e ▸ hp d hd
  have listed : ∀ m : List Content,
      (m.filter (fun c => c.kind.listed)).length = ((m.map (fun c => c.kind)).filter Kind.listed).length := by
    intro m; rw [List.filter_map, List.length_map]; rfl
  have singles : l'.singles.Perm l.singles := hn.filter _
  refine ⟨hu ▸ urgents, kinds (fun k => k.urgent = false) normals, ?_, ?_, singles.nodup_iff.mpr nodup, ?_, ?_⟩
  · simpa only [Link.urgentCount, hu, hk] using count
  · rw [Link.listCount, listed, (hn.filter _).length_eq, hk, ← listed]; exact list
  · rw [hk]; exact fun k e m => line k e (singles.subset m)
  · rw [hk]; exact hh

/-- A kind withdrawn leaves the other kinds in order, and the queues as `Link.ok` asks (R16). -/
theorem Link.withdraw_ok {l : Link} (h : l.ok) (k : Kind) : (l.withdraw k).ok := by
  obtain ⟨urgents, normals, count, list, nodup, line, held⟩ := h
  have sub : (l.withdraw k).singles.Sublist l.singles :=
    ((List.filter_sublist ..).map _).filter _
  refine ⟨urgents, fun c hc => normals c (List.mem_of_mem_filter hc), ?_, ?_, nodup.sublist sub, ?_, ?_⟩
  · rw [Link.withdraw_urgentCount]; exact count
  · have := ((List.filter_sublist (p := fun c => c.kind != k) (l := l.normal)).filter
      (fun c => c.kind.listed)).length_le
    rw [Link.listCount, Link.withdraw_lineKind]
    exact (Nat.add_le_add_right this _).trans list
  · rw [Link.withdraw_lineKind]
    exact fun j hj hs => line j hj (sub.subset hs)
  · intro c hc
    rw [Link.withdraw_lineKind]
    refine held c ?_
    simp only [Link.withdraw, Option.mem_def] at hc
    split at hc
    · split at hc <;> simp_all
    · cases hc

theorem Kind.single_urgent {k : Kind} (h : k.single = true) : k.urgent = false := by
  cases k <;> first | rfl | cases h

theorem Kind.single_listed {k : Kind} (h : k.single = true) : k.listed = false := by
  cases k <;> first | rfl | cases h

/-- The normal set with one more kind that is not urgent, not on the line where it is single, and not there already. -/
theorem Link.append_ok {l : Link} (h : l.ok) (c : Content) (hu : c.kind.urgent = false)
    (hl : c.kind.listed = true → l.listCount < 4)
    (hs : c.kind.single = true → l.lineKind ≠ some c.kind ∧ ∀ d ∈ l.normal, d.kind ≠ c.kind) :
    ({ l with normal := l.normal ++ [c] } : Link).ok := by
  obtain ⟨urgents, normals, count, list, nodup, line, held⟩ := h
  have singles : ({ l with normal := l.normal ++ [c] } : Link).singles
      = l.singles ++ (if c.kind.single then [c.kind] else []) := by
    simp only [Link.singles, List.map_append, List.filter_append, List.map_cons, List.map_nil]
    simp only [List.filter_cons, List.filter_nil]
  refine ⟨urgents, ?_, count, ?_, ?_, ?_, held⟩
  · simp only [List.mem_append, List.mem_singleton]
    rintro d (hd | rfl)
    exacts [normals d hd, hu]
  · simp only [Link.listCount, List.filter_append, List.length_append, Link.lineKind] at list hl ⊢
    cases e : c.kind.listed
    · simpa [List.filter_cons, e] using list
    · have := hl e
      simp only [List.filter_cons, e, if_true, List.filter_nil, List.length_singleton]
      omega
  · rw [singles]
    split
    · rename_i e
      refine List.nodup_append.mpr ⟨nodup, List.nodup_singleton _, ?_⟩
      rintro a ha b hb rfl
      obtain rfl := List.mem_singleton.mp hb
      obtain ⟨d, hd, e'⟩ := List.mem_map.mp (List.mem_of_mem_filter ha)
      exact (hs e).2 d hd e'
    · simpa using nodup
  · intro k hk
    rw [singles]
    split
    · rename_i e
      simp only [List.mem_append, List.mem_singleton, not_or]
      exact ⟨line k hk, fun e' => (hs e).1 (e' ▸ hk)⟩
    · simpa using line k hk

/-- The same, the new kind first. -/
theorem Link.cons_ok {l : Link} (h : l.ok) (c : Content) (hu : c.kind.urgent = false)
    (hl : c.kind.listed = true → l.listCount < 4)
    (hs : c.kind.single = true → l.lineKind ≠ some c.kind ∧ ∀ d ∈ l.normal, d.kind ≠ c.kind) :
    ({ l with normal := c :: l.normal } : Link).ok :=
  Link.ok_of_kinds (Link.append_ok h c hu hl hs) rfl ((List.perm_append_singleton c l.normal).symm.map _) rfl
    h.2.2.2.2.2.2

/-- The line cleared, with what was held behind it. -/
theorem Link.clear_ok {l : Link} (h : l.ok) : ({ l with onLine := none, held := none } : Link).ok := by
  obtain ⟨urgents, normals, count, list, nodup, -, -⟩ := h
  refine ⟨urgents, normals, (Nat.le_add_right ..).trans count, (Nat.le_add_right ..).trans list, nodup, ?_, ?_⟩
  · intro k hk; cases hk
  · intro k hk; cases hk

/-- A single kind that is on the line stands nowhere in the normal set (R14). -/
theorem Link.normal_ne_line {l : Link} (h : l.ok) {k : Kind} (hk : l.lineKind = some k) (hs : k.single = true) :
    ∀ d ∈ l.normal, d.kind ≠ k := by
  intro d hd e
  exact h.2.2.2.2.2.1 k hk (List.mem_filter.mpr ⟨List.mem_map.mpr ⟨d, hd, e⟩, hs⟩)

/-- The frame on the line completes: held content joins the normal set (R14). -/
theorem Link.finishFrame_ok {l : Link} (h : l.ok) : l.finishFrame.ok := by
  unfold Link.finishFrame
  split
  · rename_i c hc
    obtain ⟨single, line⟩ := h.2.2.2.2.2.2 c hc
    exact Link.append_ok (Link.clear_ok h) c (Kind.single_urgent single)
      (fun e => by rw [Kind.single_listed single] at e; cases e)
      (fun _ => ⟨(fun e => by cases e), Link.normal_ne_line h line single⟩)
  · simpa using Link.clear_ok h

/-- The attempt on the line ends without completing: its frame returns, or held content in its place (R7, R14, R16). -/
theorem Link.returnFrame_ok {l : Link} (h : l.ok) : l.returnFrame.ok := by
  have clear := Link.clear_ok h
  unfold Link.returnFrame
  split
  · exact h
  · rename_i a ha
    have line : l.lineKind = some a.content.kind := by simp [Link.lineKind, ha]
    split
    · split
      · rename_i c hc
        obtain ⟨single, line'⟩ := h.2.2.2.2.2.2 c hc
        exact Link.cons_ok clear c (Kind.single_urgent single)
          (fun e => by rw [Kind.single_listed single] at e; cases e)
          (fun _ => ⟨(fun e => by cases e), Link.normal_ne_line h line' single⟩)
      · exact clear
    · split
      · rename_i hu
        obtain ⟨urgents, normals, count, list, nodup, -, -⟩ := h
        refine ⟨List.forall_mem_cons.mpr ⟨hu, urgents⟩, normals, ?_, clear.2.2.2.1, nodup, ?_, ?_⟩
        · simpa [Link.urgentCount, Link.lineKind, ha, hu] using count
        · intro k hk; cases hk
        · intro k hk; cases hk
      · rename_i hu
        simp only [Bool.not_eq_true] at hu
        have kind : (l.held.getD a.content).kind = a.content.kind := by
          cases hh : l.held with
          | none => rfl
          | some c =>
            have := (h.2.2.2.2.2.2 c hh).2
            rw [line] at this
            exact (Option.some.inj this).symm
        refine Link.cons_ok clear (l.held.getD a.content) (kind ▸ hu) (fun e => ?_) (fun e => ?_)
        · have list := h.2.2.2.1
          rw [kind] at e
          simp only [Link.listCount, Link.lineKind, ha, Option.map_some, e, if_true, Option.map_none] at list ⊢
          omega
        · rw [kind] at e ⊢
          exact ⟨(fun e => by cases e), Link.normal_ne_line h line e⟩

/-- Which frame is offered: the head of the urgent queue, or else of the normal set (R6). -/
theorem Link.choose_cases {l l' : Link} {c : Content} (h : l.choose = some (c, l')) :
    (∃ us, l.urgent = c :: us ∧ l' = { l with urgent := us })
      ∨ (l.urgent = [] ∧ ∃ ns, l.normal = c :: ns ∧ l' = { l with normal := ns }) := by
  unfold Link.choose at h
  split at h
  · rename_i us hu
    obtain ⟨rfl, rfl⟩ := Prod.mk.inj (Option.some.inj h)
    exact .inl ⟨us, hu, rfl⟩
  · rename_i hu
    split at h
    · rename_i ns hn
      obtain ⟨rfl, rfl⟩ := Prod.mk.inj (Option.some.inj h)
      exact .inr ⟨hu, ns, hn, rfl⟩
    · cases h

theorem Link.ok.held_none {l : Link} (h : l.ok) (line : l.onLine = none) : l.held = none := by
  cases e : l.held with
  | none => rfl
  | some c =>
    have := (h.2.2.2.2.2.2 c e).2
    rw [Link.lineKind, line] at this; cases this

/-- An attempt starts: the chosen frame leaves its place for the line (R6). -/
theorem Link.choose_ok {l l' : Link} {c : Content} (h : l.ok) (ho : l.onLine = none) (hc : l.choose = some (c, l'))
    (w : BitVec 9) : ({ l' with onLine := some ⟨c, w, false⟩ } : Link).ok := by
  have unheld := h.held_none ho
  obtain ⟨urgents, normals, count, list, nodup, -, -⟩ := h
  obtain ⟨us, hu, rfl⟩ | ⟨hu, ns, hn, rfl⟩ := Link.choose_cases hc
  · rw [hu] at urgents
    obtain ⟨urgent, urgents⟩ := List.forall_mem_cons.mp urgents
    refine ⟨urgents, normals, ?_, ?_, nodup, ?_, by simp [unheld]⟩
    · simpa [Link.urgentCount, Link.lineKind, hu, urgent, ho] using count
    · have : c.kind.listed = false := by revert urgent; cases c.kind <;> simp [Kind.urgent, Kind.listed]
      simpa [Link.listCount, Link.lineKind, this, ho] using list
    · intro k hk m
      obtain rfl := Option.some.inj hk
      have := Kind.single_urgent (List.mem_filter.mp m).2
      dsimp only at this urgent
      rw [urgent] at this; cases this
  · rw [hn] at normals
    obtain ⟨urgent, normals⟩ := List.forall_mem_cons.mp normals
    have singles : l.singles = (if c.kind.single then [c.kind] else []) ++ Link.singles { l with normal := ns } := by
      simp only [Link.singles, hn, List.map_cons, List.filter_cons]
      split <;> rfl
    rw [singles] at nodup
    refine ⟨urgents, normals, ?_, ?_, (List.nodup_append.mp nodup).2.1, ?_, by simp [unheld]⟩
    · simpa [Link.urgentCount, Link.lineKind, urgent, ho] using count
    · simp only [Link.listCount, hn, List.filter_cons, Link.lineKind, Option.map_some, ho] at list ⊢
      split at list <;> simp_all
    · intro k hk m
      obtain rfl := Option.some.inj hk
      have single := (List.mem_filter.mp m).2
      dsimp only at single
      exact (List.nodup_append.mp nodup).2.2 _ (by simp [single]) _ m rfl

/-- A single kind placed keeps the queues (R14). -/
theorem Link.placeSingle_ok {l : Link} (h : l.ok) (c : Content) (hc : c.kind.single = true) : (l.placeSingle c).ok := by
  unfold Link.placeSingle
  split
  · rename_i e
    exact Link.ok_of_kinds h rfl (.refl _) rfl (fun d hd => by cases hd; exact ⟨hc, e⟩)
  · rename_i e
    split
    · exact Link.ok_of_kinds h rfl (.of_eq (replaceKind_kinds c l.normal)) rfl h.2.2.2.2.2.2
    · rename_i a
      refine Link.append_ok h c (Kind.single_urgent hc) (fun l => by simp [Kind.single_listed hc] at l) (fun _ => ⟨e, ?_⟩)
      simpa using a

/-- An urgent frame appended where fewer than 2 stand (R13). -/
theorem Link.appendUrgent_ok {l : Link} (h : l.ok) (c : Content) (hc : c.kind.urgent = true) (hl : l.urgentCount < 2) :
    ({ l with urgent := l.urgent ++ [c] } : Link).ok := by
  obtain ⟨urgents, normals, count, list, nodup, line, held⟩ := h
  refine ⟨?_, normals, ?_, list, nodup, line, held⟩
  · simp only [List.mem_append, List.mem_singleton]
    rintro d (hd | rfl)
    exacts [urgents d hd, hc]
  · simp only [Link.urgentCount, List.length_append, List.length_singleton, Link.lineKind] at hl ⊢
    omega

end Sys2Proof.Machine

/-! ## The signals between blocks: what they can do to the transmit queues and to the own grant -/

namespace Sys2Proof.Machine

/-- What `State.lineOk` and `State.lowersOk` rest on, and the reports. -/
structure Core where
  transmits : Bool
  urgent : List Content
  normal : List Content
  held : Option Content
  onLine : Option Attempt
  txFaults : Nat
  grant : Nat
  raise : Raise
  yieldOwed : Bool
  target : Option Nat
  reports : List Report

def State.core (s : State) : Core :=
  ⟨s.transmits, s.link.urgent, s.link.normal, s.link.held, s.link.onLine, s.link.txFaults, s.share.grant, s.share.raise,
    s.share.yieldOwed, s.share.lowering.map (·.target), s.console.reports⟩

/-- The single kinds other than RAISE and LOWER. -/
def Kind.plain (k : Kind) : Bool := k.single && k != .raise && k != .lower

/-- The second state comes of the first by changes that the transmit queues, the own grant and the reports do not see, by
reports, and by the operations on the queues and the grant in the circumstances in which the rules run them: kinds other than RAISE and LOWER offered and CLAIMs
withdrawn at any time; a LOWER offered for a yield or a drain (R53, R57); a raise offered, withdrawn or abandoned (R47,
R48, R50); a lowering started or deepened (R52). -/
inductive State.Reaches (s : State) : State → Prop
  | refl : s.Reaches s
  | frame {t u : State} : s.Reaches t → u.core = t.core → s.Reaches u
  | report {t : State} (l : Level) (b : Source) (c : Nat) (as : List Nat) : s.Reaches t → s.Reaches (t.report l b c as)
  | withdrawClaim {t : State} : s.Reaches t → s.Reaches (t.withdraw .claim)
  | offerPlain {t : State} {c : Content} : s.Reaches t → c.kind.plain = true → s.Reaches (t.offerSingle c)
  | offerListed {t : State} {c : Content} : s.Reaches t → c.kind.listed = true → s.Reaches (t.offerListed c)
  | offerUrgent {t : State} {c : Content} : s.Reaches t → c.kind.urgent = true → s.Reaches (t.offerUrgent c)
  | offerYield {t : State} : s.Reaches t → t.share.yieldOwed = true → t.share.lowering = none →
      s.Reaches (t.offerSingle (.lower t.share.grant))
  | offerDrain {t : State} {l : Lowering} : s.Reaches t → t.share.lowering = some l →
      s.Reaches (t.offerSingle (.lower l.target))
  | endQueued {t : State} {x : Nat} : s.Reaches t → t.share.raise = .queued x →
      s.Reaches ((t.withdraw .raise).setRaise .none)
  | abandonSending {t : State} {x : Nat} (c : YieldCause) : s.Reaches t → t.share.raise = .sending x none →
      s.Reaches ((t.withdraw .raise).setRaise (.sending x (some c)))
  | endSettling {t : State} {x d : Nat} : s.Reaches t → t.share.raise = .settling x d →
      s.Reaches { t with share := { t.share with raise := .none, yieldOwed := t.share.yieldOwed || t.transmits } }
  | offerRaise {t : State} (x : Nat) : s.Reaches t → t.transmits = true →
      t.share.raise.isQueued = true ∨ (t.share.raise = .none ∧ t.share.yieldOwed = false ∧ t.share.lowering = none) →
      s.Reaches (t.offerRaise x)
  | lower {t : State} {l : Lowering} {y : Bool} : s.Reaches t → t.share.raise.alive = false → l.target ≤ t.share.floor →
      (y = true → t.share.yieldOwed = true) →
      s.Reaches { t with share := { t.share with lowering := some l, yieldOwed := y } }

namespace State.Reaches

variable {s t : State}

theorem trans {u : State} (h : s.Reaches t) (h' : t.Reaches u) : s.Reaches u := by
  induction h' with
  | refl => exact h
  | frame _ e ih => exact ih.frame e
  | report l b c as _ ih => exact ih.report l b c as
  | withdrawClaim _ ih => exact ih.withdrawClaim
  | offerPlain _ e ih => exact ih.offerPlain e
  | offerListed _ e ih => exact ih.offerListed e
  | offerUrgent _ e ih => exact ih.offerUrgent e
  | offerYield _ e e' ih => exact ih.offerYield e e'
  | offerDrain _ e ih => exact ih.offerDrain e
  | endQueued _ e ih => exact ih.endQueued e
  | abandonSending c _ e ih => exact ih.abandonSending c e
  | endSettling _ e ih => exact ih.endSettling e
  | offerRaise x _ e e' ih => exact ih.offerRaise x e e'
  | lower _ e e' e'' ih => exact ih.lower e e' e''

/-! ### Operations of Ops.lean -/

theorem handMachine (f : MachineFrame) (h : s.Reaches t) : s.Reaches (t.handMachine f) :=
  h.frame (by simp only [State.handMachine]; split <;> rfl)

theorem stopTravel (h : s.Reaches t) : s.Reaches t.stopTravel := by
  simp only [State.stopTravel]
  split
  · exact h.handMachine _
  · exact h

/-! ### Operations of Feed.lean -/

theorem setFeed (f : Nat) (h : s.Reaches t) : s.Reaches (t.setFeed f) :=
  h.frame (by simp only [State.setFeed]; split <;> rfl)

theorem holdOffClamp (c : HoldOff) (h : s.Reaches t) : s.Reaches (t.holdOffClamp c) := by
  simp only [State.holdOffClamp]
  split
  · split
    · exact ((h.setFeed 0).handMachine (.setpoint 0)).frame (by rfl)
    · exact h.frame (by rfl)
  · exact h

theorem loweringClamp (l : Nat) (h : s.Reaches t) : s.Reaches (t.loweringClamp l) := by
  simp only [State.loweringClamp]
  split
  · exact (h.setFeed l).handMachine _
  · exact h

theorem tryBye (h : s.Reaches t) : s.Reaches t.tryBye := by
  simp only [State.tryBye]
  split
  · exact h.offerPlain rfl
  · exact h

theorem leaveDrained (h : s.Reaches t) : s.Reaches t.leaveDrained := by
  simp only [State.leaveDrained]
  split
  · exact (h.frame (by rfl)).tryBye
  · exact h

theorem leaveReleased (h : s.Reaches t) : s.Reaches t.leaveReleased := by
  simp only [State.leaveReleased]
  split
  · exact (h.frame (by rfl)).tryBye
  · exact h

/-! ### Operations of Claims.lean -/

theorem setBlocked (b : Option BlockedReason) (h : s.Reaches t) : s.Reaches (t.setBlocked b) := h.frame (by rfl)

theorem dropClaim (h : s.Reaches t) : s.Reaches t.dropClaim := h.frame (by rfl)

theorem offerClaim (r : ClaimRequest) (h : s.Reaches t) : s.Reaches (t.offerClaim r) :=
  offerPlain (c := .claim _) (h.frame (by rfl)) rfl

theorem examineRequest (h : s.Reaches t) : s.Reaches t.examineRequest := by
  simp only [State.examineRequest]
  split
  · exact h
  · split
    · exact h.setBlocked _
    · exact (h.setBlocked none).offerClaim _

theorem retestQueued (h : s.Reaches t) : s.Reaches t.retestQueued := by
  simp only [State.retestQueued]
  split
  · exact h
  · split
    · exact h.withdrawClaim.dropClaim.setBlocked _
    · split
      · split
        · exact h
        · exact h.offerClaim _
      · exact h.offerClaim _

theorem claimRetest (h : s.Reaches t) : s.Reaches t.claimRetest := by
  simp only [State.claimRetest]
  split
  · exact h.examineRequest
  · exact h.retestQueued
  · exact h

theorem makeRequest (a b : Nat) (h : s.Reaches t) : s.Reaches (t.makeRequest a b) := by
  simp only [State.makeRequest]
  split
  · exact (h.frame (by rfl)).examineRequest
  · exact h.frame (by rfl)

theorem withdrawRequest (h : s.Reaches t) : s.Reaches t.withdrawRequest := by
  simp only [State.withdrawRequest]
  split
  · exact (h.frame (by rfl)).withdrawClaim.dropClaim
  · exact (h.frame (by rfl)).withdrawClaim
  · exact h.frame (by rfl)

theorem enterReleasing (h : s.Reaches t) : s.Reaches t.enterReleasing := by
  simp only [State.enterReleasing]
  split
  · exact (h.frame (by rfl)).offerPlain rfl
  · exact h.frame (by rfl)

theorem joinRelease (w : Waiter) (h : s.Reaches t) : s.Reaches (t.joinRelease w) := by
  cases w <;> exact h.frame (by rfl)

theorem startRelease (w : Waiter) (h : s.Reaches t) : s.Reaches (t.startRelease w).1 := by
  simp only [State.startRelease]
  split
  · exact h
  · exact h.withdrawClaim.dropClaim
  · exact ((h.joinRelease w).frame (by rfl)).withdrawClaim
  · exact (h.joinRelease w).enterReleasing
  · exact (h.joinRelease w).enterReleasing
  · exact h.joinRelease w

/-! ### Operations of Orders.lean -/

theorem setActive (o : Option OrderRecord) (h : s.Reaches t) : s.Reaches (t.setActive o) := h.frame (by rfl)

theorem activate (o : OrderRecord) (h : s.Reaches t) : s.Reaches (t.activate o) := by
  simp only [State.activate]
  split
  · exact h.frame (by rfl)
  · exact (h.frame (by rfl)).makeRequest _ _

theorem nextOrder (h : s.Reaches t) : s.Reaches t.nextOrder := by
  simp only [State.nextOrder]
  split
  · exact h
  · exact (h.frame (by rfl)).activate _
  · exact (h.frame (by rfl)).activate _
  · split
    · exact (h.frame (by rfl)).activate _
    · exact (h.frame (by rfl)).activate _

theorem followOn (h : s.Reaches t) : s.Reaches t.followOn := by
  simp only [State.followOn]
  split
  · exact (h.frame (by rfl)).activate _
  · exact h.nextOrder

theorem recordEnd (o : OrderRecord) (e : EndState) (r : EndReason) (h : s.Reaches t) : s.Reaches (t.recordEnd o e r) :=
  (h.frame (by rfl)).report ..

theorem finishActive (o : OrderRecord) (h : s.Reaches t) : s.Reaches (t.finishActive o) :=
  ((h.recordEnd _ _ _).setActive none).followOn

theorem suspendActive (o : OrderRecord) (h : s.Reaches t) : s.Reaches (t.suspendActive o) :=
  (h.frame (by rfl)).followOn

theorem orderReleased (h : s.Reaches t) : s.Reaches t.orderReleased := by
  have h1 : s.Reaches { t with order := { t.order with releaseOut := false } } := h.frame (by rfl)
  simp only [State.orderReleased]
  split
  · exact h1
  · split
    · exact h1.makeRequest _ _
    · split
      · exact h1.finishActive _
      · exact h1
    · split
      · exact h1.finishActive _
      · exact h1.suspendActive _
    · exact h1

theorem orderRelease (h : s.Reaches t) : s.Reaches t.orderRelease := by
  simp only [State.orderRelease]
  split
  · exact ((h.frame (by rfl)).startRelease .order).orderReleased
  · exact (h.frame (by rfl)).startRelease .order

theorem orderDrained (h : s.Reaches t) : s.Reaches t.orderDrained := by
  simp only [State.orderDrained]
  split
  · exact h
  · split
    · split
      · exact (h.frame (by rfl)).orderRelease
      · split
        · exact h.frame (by rfl)
        · exact (h.frame (by rfl)).finishActive _
    · exact h

theorem stationRelease (h : s.Reaches t) : s.Reaches t.stationRelease := by
  simp only [State.stationRelease]
  split
  · exact (h.startRelease .station).leaveReleased
  · exact h.startRelease .station

theorem signalReleased (h : s.Reaches t) : s.Reaches t.signalReleased := by
  have h1 : s.Reaches { t with claim := { t.claim with waitOrder := false, waitStation := false } } := h.frame (by rfl)
  simp only [State.signalReleased]
  split <;> split
  · exact h1.orderReleased.leaveReleased
  · exact h1.leaveReleased
  · exact h1.orderReleased
  · exact h1

/-! ### Operations of Shares.lean -/

theorem yieldTest (h : s.Reaches t) : s.Reaches t.yieldTest := by
  simp only [State.yieldTest]
  split
  · rename_i e
    simp only [Bool.and_eq_true, Option.isNone_iff_eq_none] at e
    exact h.offerYield e.1.1 e.1.2
  · exact h

theorem abandonSettling (c : YieldCause) (h : s.Reaches t) : s.Reaches (t.abandonSettling c) := by
  simp only [State.abandonSettling]
  split
  · rename_i x d e
    have h1 := (h.endSettling e).report .info .share 12 [x, c.code]
    rw [State.report_eq] at h1
    split
    · rename_i tx
      refine yieldTest (h1.frame ?_)
      rw [State.reportRaiseYielded, State.report_eq, tx]
      simp [State.core, State.transmits]
    · rename_i tx
      refine h1.frame ?_
      rw [State.reportRaiseYielded, State.report_eq]
      simp only [Bool.not_eq_true] at tx
      simp [State.core, State.transmits] at tx ⊢
      simp [tx]
  · exact h

theorem abandonRaise (c : YieldCause) (h : s.Reaches t) : s.Reaches (t.abandonRaise c) := by
  simp only [State.abandonRaise]
  split
  · exact h
  · exact h.endQueued ‹_›
  · exact h.abandonSending c ‹_›
  · exact h
  · exact h.abandonSettling c

theorem settleConflict (h : s.Reaches t) : s.Reaches t.settleConflict := by
  simp only [State.settleConflict]
  split
  · split
    · exact h.abandonSettling _
    · exact h
  · exact h

theorem reviewRaise (u : Bool) (h : s.Reaches t) : s.Reaches (t.reviewRaise u) := by
  simp only [State.reviewRaise]
  split
  · rename_i x e
    split
    · exact h.endQueued e
    · rename_i g
      split
      · exact h
      · refine h.offerRaise _ ?_ (.inl (by rw [e]; rfl))
        simp only [Bool.or_eq_true, not_or, bne_iff_ne, ne_eq, not_not] at g
        simp [State.transmits, g.1.1.1.2, StationState.transmits]
  · exact h

theorem recompute (h : s.Reaches t) : s.Reaches t.recompute := by
  simp only [State.recompute]
  split
  · exact h
  · exact ((h.frame (by rfl)).reviewRaise false).settleConflict

theorem startRaise (h : s.Reaches t) : s.Reaches t.startRaise := by
  simp only [State.startRaise]
  split
  · rename_i g
    simp only [Bool.and_eq_true, beq_iff_eq, Bool.not_eq_true', Option.isNone_iff_eq_none] at g
    obtain ⟨⟨⟨⟨⟨⟨⟨⟨-, active⟩, -⟩, raise⟩, owed⟩, lowering⟩, -⟩, -⟩, -⟩ := g
    exact h.offerRaise _ (by simp [State.transmits, active, StationState.transmits]) (.inr ⟨raise, owed, lowering⟩)
  · exact h

theorem signalDrained (c : LowerCause) (h : s.Reaches t) : s.Reaches (t.signalDrained c) := by
  cases c
  case order => exact h.orderDrained
  case leave => exact h.leaveDrained
  all_goals exact h

/-- A lowering in progress changes in its deadline and its requesters alone. -/
theorem sameTarget {l l' : Lowering} (e : t.share.lowering = some l) (e' : l'.target = l.target) (h : s.Reaches t) :
    s.Reaches (t.setLowering (some l')) :=
  h.frame (by simp [State.core, State.transmits, e, e'])

theorem drainTest (h : s.Reaches t) : s.Reaches t.drainTest := by
  simp only [State.drainTest]
  split
  · rename_i l e
    split
    · exact (h.sameTarget (l' := { l with deadline := none }) e rfl).offerDrain (l := { l with deadline := none }) rfl
    · exact h
  · exact h

theorem armDrain (h : s.Reaches t) : s.Reaches t.armDrain := by
  simp only [State.armDrain]
  split
  · split
    · rename_i e _
      exact h.sameTarget e rfl
    · exact h
  · exact h

theorem startLowering (c : LowerCause) {x : Nat} (h : s.Reaches t) (hr : t.share.raise.alive = false)
    (hl : t.share.lowering = none) (hx : x < t.share.grant) : s.Reaches (t.startLowering c x) := by
  have floor : t.share.floor = t.share.grant := by simp [Share.floor, hl]
  have target : (Lowering.join c ⟨x, none, false, false, false⟩).target = x := by cases c <;> rfl
  have h1 := h.lower (l := Lowering.join c ⟨x, none, false, false, false⟩) (y := false) hr (by omega) (by simp)
  exact ((h1.frame (by rfl)).loweringClamp x).drainTest.armDrain

theorem deepenLowering (c : LowerCause) {l : Lowering} {x : Nat} (h : s.Reaches t) (hr : t.share.raise.alive = false)
    (hl : t.share.lowering = some l) (hx : x < l.target) : s.Reaches (t.deepenLowering l c x) := by
  have floor : t.share.floor = l.target := by simp [Share.floor, hl]
  have h1 := h.lower (l := { l.join c with target := x }) (y := t.share.yieldOwed) hr (by simp [floor]; omega) id
  exact ((h1.frame (by rfl)).loweringClamp x).drainTest.armDrain

end State.Reaches

/-- After any raise is abandoned none is alive (R48, R50). -/
theorem State.abandonRaise_alive (c : YieldCause) (s : State) : (s.abandonRaise c).share.raise.alive = false := by
  have yield : ∀ u : State, u.yieldTest.share = u.share := by
    intro u; simp only [State.yieldTest]; split
    · simp only [State.offerSingle]; split <;> rfl
    · rfl
  simp only [State.abandonRaise]
  split
  · rename_i e; rw [e]; rfl
  · rfl
  · rfl
  · rename_i e; rw [e]; rfl
  · rename_i e
    simp only [State.abandonSettling, e, State.reportRaiseYielded, State.report_eq]
    split
    · rw [yield]; rfl
    · rfl

namespace State.Reaches

variable {s t : State}

theorem lowerRequest (c : LowerCause) (x : Nat) (h : s.Reaches t) : s.Reaches (t.lowerRequest c x) := by
  have h1 := h.abandonRaise .lower
  have dead := t.abandonRaise_alive .lower
  simp only [State.lowerRequest]
  split
  · split
    · exact h1.startLowering c dead ‹_› ‹_›
    · exact h1.signalDrained c
  · split
    · exact h1.deepenLowering c dead ‹_› ‹_›
    · exact h1.sameTarget ‹_› (by cases c <;> rfl)

theorem signalWaiters (l : Lowering) (h : s.Reaches t) : s.Reaches (t.signalWaiters l) := by
  simp only [State.signalWaiters]
  split <;> split
  · exact h.orderDrained.leaveDrained
  · exact h.leaveDrained
  · exact h.orderDrained
  · exact h

theorem reviewRelease (h : s.Reaches t) : s.Reaches t.reviewRelease := by
  simp only [State.reviewRelease]
  split
  · split
    · exact h.frame (by rfl)
    · exact h
  · exact h.frame (by rfl)

theorem shed (h : s.Reaches t) : s.Reaches t.shed := by
  simp only [State.shed]
  split
  · split
    · split
      · split
        · exact h.lowerRequest _ _
        · exact ((h.lowerRequest _ _).frame (by rfl)).report ..
      · exact h
    · exact h.frame (by rfl)
  · exact h

theorem refreshHeld (h : s.Reaches t) : s.Reaches t.refreshHeld := by
  simp only [State.refreshHeld]
  split
  · split
    · exact h.frame (by rfl)
    · exact h
  · exact h

theorem setLimitHeld (b : Bool) (h : s.Reaches t) : s.Reaches (t.setLimitHeld b) := by
  simp only [State.setLimitHeld]
  split
  · exact h.frame (by rfl)
  · exact h

theorem haltGained (e : Bool) (h : s.Reaches t) : s.Reaches (t.haltGained e) := by
  simp only [State.haltGained]
  split
  · exact (((h.holdOffClamp .halt).abandonRaise .halt).lowerRequest .halt 0).refreshHeld.claimRetest
  · exact (h.holdOffClamp .halt).refreshHeld.claimRetest

theorem haltLost (h : s.Reaches t) : s.Reaches t.haltLost := h.refreshHeld.claimRetest

theorem haltLower (h : s.Reaches t) : s.Reaches t.haltLower := by
  simp only [State.haltLower]
  split
  · exact h.lowerRequest _ _
  · exact h

theorem offerHalt (h : s.Reaches t) : s.Reaches t.offerHalt := by
  simp only [State.offerHalt]
  split
  · exact h.offerUrgent rfl
  · exact h

theorem originateHalt (o : OwnHalt) (h : s.Reaches t) : s.Reaches (t.originateHalt o) := by
  simp only [State.originateHalt]
  refine (frame (offerHalt ?_) (by rfl)).report _ _ _ _
  split
  · exact h.frame (by rfl)
  · exact (h.frame (by rfl)).haltGained _

theorem beltTrip (h : s.Reaches t) : s.Reaches t.beltTrip := by
  simp only [State.beltTrip]
  split
  · exact h.originateHalt _
  · exact h

/-! ### Operations of OrderEvents.lean and Conflicts.lean -/

theorem clampIfRan (b : Bool) (h : s.Reaches t) : s.Reaches (t.clampIfRan b) := by
  cases b
  · exact h
  · exact h.holdOffClamp _

theorem markEnding (o : OrderRecord) (e : EndState) (r : EndReason) (h : s.Reaches t) :
    s.Reaches (t.markEnding o e r) := h.frame (by rfl)

theorem decideEnd (e : EndState) (r : EndReason) (h : s.Reaches t) : s.Reaches (t.decideEnd e r) := by
  simp only [State.decideEnd]
  split
  · exact h
  · rename_i o _
    have h1 := h.markEnding o e r
    split
    · exact h1.withdrawRequest.orderRelease.lowerRequest _ _
    · exact h1.stopTravel.orderRelease.lowerRequest _ _
    · exact (h1.clampIfRan _).lowerRequest _ _
    · exact h

theorem enterDischarging (o : OrderRecord) (h : s.Reaches t) : s.Reaches (t.enterDischarging o) := h.frame (by rfl)

theorem orderSettled (h : s.Reaches t) : s.Reaches t.orderSettled := by
  simp only [State.orderSettled]
  split
  · exact h
  · split
    · split
      · exact h.enterDischarging _
      · exact (h.frame (by rfl)).handMachine _
    · exact h

theorem orderNozzle (a b : Nat) (h : s.Reaches t) : s.Reaches (t.orderNozzle a b) := by
  simp only [State.orderNozzle]
  split
  · exact h
  · split
    · split
      · exact h.enterDischarging _
      · split
        · exact h.decideEnd _ _
        · exact h
    · split
      · exact h.decideEnd _ _
      · exact h
    · exact h

theorem orderAttributed (a m : Nat) (h : s.Reaches t) : s.Reaches (t.orderAttributed a m) := by
  simp only [State.orderAttributed]
  split
  · exact h
  · split
    · split
      · split
        · exact (h.setActive _).decideEnd _ _
        · exact h.setActive _
      · split <;> exact h.setActive _
      · exact h.setActive _
      · exact h
    · exact h

theorem exhaustionTest (h : s.Reaches t) : s.Reaches t.exhaustionTest := by
  simp only [State.exhaustionTest]
  split
  · split
    · exact h.frame (by rfl)
    · exact h
  · exact h.frame (by rfl)

theorem feedDrain (h : s.Reaches t) : s.Reaches t.feedDrain := by
  simp only [State.feedDrain]
  split
  · exact h
  · split
    · exact h.orderRelease
    · exact h

theorem chokeRepeated (h : s.Reaches t) : s.Reaches t.chokeRepeated := by
  simp only [State.chokeRepeated]
  split
  · exact h.decideEnd _ _
  · exact h

theorem orderYield (h : s.Reaches t) : s.Reaches t.orderYield := by
  simp only [State.orderYield]
  split
  · exact h
  · split
    · exact (h.frame (by rfl)).orderRelease
    · exact ((h.frame (by rfl)).clampIfRan _).orderRelease
    · exact h.orderRelease
    · exact h.orderRelease
    · exact h.orderRelease
    · exact h

theorem suspendAtOnce (a : OrderRecord) (h : s.Reaches t) : s.Reaches (t.suspendAtOnce a) := by
  simp only [State.suspendAtOnce]
  split
  · exact (h.withdrawRequest.frame (by rfl)).orderRelease
  · exact (h.stopTravel.frame (by rfl)).orderRelease

theorem enterSuspending (a i : OrderRecord) (h : s.Reaches t) : s.Reaches (t.enterSuspending a i) :=
  ((h.frame (by rfl)).clampIfRan _).feedDrain

theorem place (p : Placement) (o : OrderRecord) (h : s.Reaches t) : s.Reaches (t.place p o) := by
  simp only [State.place]
  split
  · exact h.frame (by rfl)
  · split
    · exact h.enterSuspending _ _
    · exact h.activate _
  · split
    · exact (h.suspendAtOnce _).activate _
    · exact h.activate _

theorem cancelActive (x : Nat) (h : s.Reaches t) : s.Reaches (t.cancelActive x).1 := by
  simp only [State.cancelActive]
  split
  · split
    · split
      · split
        · exact h
        · exact h.setActive _
      · exact h
      · exact h.decideEnd _ _
    · split <;> exact h
  · split <;> exact h

theorem cancelOrder (x : Nat) (h : s.Reaches t) : s.Reaches (t.cancelOrder x).1 := by
  simp only [State.cancelOrder]
  split
  · dsimp only; exact (h.frame (by rfl)).recordEnd _ _ _
  · split
    · dsimp only; exact (h.frame (by rfl)).recordEnd _ _ _
    · split
      · split
        · exact ((h.frame (by rfl)).recordEnd _ _ _).lowerRequest _ _
        · exact h.cancelActive x
      · exact h.cancelActive x

theorem yieldClaim (c : ClaimBody) (j : StationNo) (k : Conflict) (h : s.Reaches t) : s.Reaches (t.yieldClaim c j k) :=
  (report _ _ _ _ (h.stopTravel.lowerRequest _ _).enterReleasing).orderYield

theorem conflictTest (f : Found) (h : s.Reaches t) : s.Reaches (t.conflictTest f) := by
  simp only [State.conflictTest]
  split
  · split
    · split
      · exact h.yieldClaim _ _ _
      · exact h
    · exact h
  · exact h

end State.Reaches

end Sys2Proof.Machine

namespace Sys2Proof.Machine

namespace State.Reaches

variable {s t : State}

/-! ### Plans.lean and Peers.lean -/

theorem addUnattributed (m : Nat) (h : s.Reaches t) : s.Reaches (t.addUnattributed m) := h.frame (by rfl)

theorem attributeMass (a m : Nat) (h : s.Reaches t) : s.Reaches (t.attribute a m) := by
  simp only [State.attribute]
  split
  · split
    · exact (h.frame (by rfl)).orderAttributed _ _
    · exact h.addUnattributed m
  · exact h.addUnattributed m

theorem planMark (j : StationNo) (a b : Nat) (h : s.Reaches t) : s.Reaches (t.planMark j a b) := by
  simp only [State.planMark]
  split
  · exact h.frame (by rfl)
  · split
    · exact h
    · exact (h.frame (by rfl)).report ..

theorem applyTally (j : StationNo) (b : TallyBody) (h : s.Reaches t) : s.Reaches (t.applyTally j b) := by
  simp only [State.applyTally]
  split
  · split
    · exact h
    · split
      · exact (h.planMark j _ _).frame (by rfl)
      · exact h.planMark j _ _
  · exact h.report ..

theorem applyStatusMass (j : StationNo) (b : StatusBody) (h : s.Reaches t) : s.Reaches (t.applyStatusMass j b) := by
  simp only [State.applyStatusMass]
  split
  · exact h
  · split
    · exact h
    · split
      · exact (h.planMark j _ _).frame (by rfl)
      · exact h.planMark j _ _

theorem offerTally (h : s.Reaches t) : s.Reaches t.offerTally := by
  simp only [State.offerTally]
  split
  · split
    · exact h
    · exact h.offerListed rfl
  · exact h

theorem offerRecall (j : StationNo) (c : StartCause) (i : Nat) (h : s.Reaches t) : s.Reaches (t.offerRecall j c i) := by
  simp only [State.offerRecall]
  split
  · split
    · exact h.offerListed rfl
    · exact h
  · exact h

theorem applyRecall (j : StationNo) (b : TallyBody) (h : s.Reaches t) : s.Reaches (t.applyRecall j b) := by
  simp only [State.applyRecall]
  split
  · split
    · split
      · exact h.frame (by rfl)
      · exact h.report ..
    · exact h.report ..
  · exact h.report ..

theorem setEntry (j : StationNo) (e : PeerEntry) (h : s.Reaches t) : s.Reaches (t.setEntry j e) := h.frame (by rfl)

theorem tableChanged (f : Found) (h : s.Reaches t) : s.Reaches (t.tableChanged f) :=
  h.recompute.claimRetest.conflictTest f

theorem capCheck (j : StationNo) (h : s.Reaches t) : s.Reaches (t.capCheck j) := by
  simp only [State.capCheck]
  split
  · split
    · exact h
    · split
      · split
        · exact h.setEntry _ _
        · split
          · exact h
          · exact (h.setEntry _ _).report ..
      · exact h.setEntry _ _
  · exact h

theorem capCheckAll (h : s.Reaches t) : s.Reaches t.capCheckAll := by
  have all : ∀ (js : List StationNo) (u : State), s.Reaches u → s.Reaches (js.foldl (fun u j => u.capCheck j) u) := by
    intro js
    induction js with
    | nil => exact fun _ hu => hu
    | cons j js ih => exact fun u hu => ih _ (hu.capCheck j)
  exact all _ _ h

theorem signalIfChanged (old : PeerEntry) (j : StationNo) (f : Found) (h : s.Reaches t) :
    s.Reaches (t.signalIfChanged old j f) := by
  simp only [State.signalIfChanged]
  split
  · exact h.tableChanged f
  · exact h

theorem tableTake (j : StationNo) (bye : Bool) (record : PeerEntry → PeerEntry) (check : Bool) (f : Found)
    (h : s.Reaches t) : s.Reaches (t.tableTake j bye record check f) := by
  simp only [State.tableTake]
  split
  · exact ((h.setEntry _ _).capCheck j).signalIfChanged _ _ _
  · exact (h.setEntry _ _).signalIfChanged _ _ _

theorem tableReject (j : StationNo) (k : Kind) (h : s.Reaches t) : s.Reaches (t.tableReject j k) :=
  ((h.setEntry _ _).report ..).signalIfChanged _ _ _

/-! ### Stations.lean -/

theorem offerStatus (h : s.Reaches t) : s.Reaches t.offerStatus := h.offerPlain rfl

/-- A change of state that leaves whether the station transmits. -/
theorem setStation (st : StationState) (e : st.transmits = t.transmits) (h : s.Reaches t) : s.Reaches (t.setStation st) :=
  h.frame (by rw [State.core, State.core, ← e]; rfl)

theorem claimSilenced (h : s.Reaches t) : s.Reaches t.claimSilenced := by
  simp only [State.claimSilenced]
  split <;> exact h.frame (by rfl)

theorem governorStop (h : s.Reaches t) : s.Reaches t.governorStop := by
  simp only [State.governorStop]
  split
  · exact (((h.setFeed 0).handMachine (.setpoint 0)).setLimitHeld false).frame (by rfl)
  · exact h

theorem tripAtActive (h : s.Reaches t) : s.Reaches t.tripAtActive := by
  simp only [State.tripAtActive]
  split
  · exact h.beltTrip
  · exact h

theorem countRxFault (h : s.Reaches t) : s.Reaches t.countRxFault := by
  simp only [State.countRxFault]
  split
  · exact ((h.frame (by rfl)).report ..).claimRetest
  · exact h.frame (by rfl)

theorem countRxGood (h : s.Reaches t) : s.Reaches t.countRxGood := by
  simp only [State.countRxGood]
  split
  · exact ((h.frame (by rfl)).report ..).claimRetest
  · exact h.frame (by rfl)

theorem governorStart (h : s.Reaches t) : s.Reaches t.governorStart := by
  simp only [State.governorStart]
  split
  · exact h.frame (by rfl)
  · exact h

theorem offerOwedRelease (h : s.Reaches t) : s.Reaches t.offerOwedRelease := by
  simp only [State.offerOwedRelease]
  split
  · split
    · exact (h.frame (by rfl)).offerPlain rfl
    · exact h
  · exact h

theorem resumeHalt (h : s.Reaches t) : s.Reaches t.resumeHalt := by
  simp only [State.resumeHalt]
  split
  · exact h.offerHalt.frame (by rfl)
  · exact h

theorem resumeDrain (h : s.Reaches t) : s.Reaches t.resumeDrain := by
  have h1 : s.Reaches (t.setLowering (t.share.lowering.map (fun l => { l with deadline := none }))) :=
    h.frame (by cases e : t.share.lowering <;> simp [State.core, State.transmits, e])
  exact h1.drainTest.armDrain

theorem offerCapacity (h : s.Reaches t) : s.Reaches t.offerCapacity := by
  simp only [State.offerCapacity]
  split
  · exact (h.offerPlain rfl).frame (by rfl)
  · exact h

/-- R19 below the count that mutes. -/
theorem judgeTxFaults (e : t.transmits = true → t.link.txFaults < 160) (h : s.Reaches t) : s.Reaches t.judgeTxFaults := by
  simp only [State.judgeTxFaults]
  split
  · rename_i g
    simp only [Bool.and_eq_true, decide_eq_true_eq] at g
    exact absurd (e g.1) (by omega)
  · split
    · rename_i g
      exact ((h.setStation .degraded (by rw [State.transmits, g.1]; rfl)).report ..).drainTest.claimRetest
    · split
      · rename_i g
        exact ((h.setStation .active (by rw [State.transmits, g.1]; rfl)).report ..).tripAtActive.drainTest.claimRetest
      · exact h

theorem enterLeaving (e : t.transmits = true) (h : s.Reaches t) : s.Reaches t.enterLeaving := by
  have tail : ∀ u : State, s.Reaches u →
      s.Reaches ((u.claimRetest.drainTest).lowerRequest .leave 0).stationRelease :=
    fun u hu => (hu.claimRetest.drainTest.lowerRequest .leave 0).stationRelease
  have h1 : s.Reaches { t with
      station := { t.station with state := .leaving, leaveDrain := false, leaveRelease := false }
      plan := { t.plan with tallyTimer := none }
      share := { t.share with releaseTimer := none, capTimer := none } } :=
    h.frame (by rw [State.core, State.core, e]; rfl)
  simp only [State.enterLeaving]
  refine tail _ ?_
  split
  · exact h1.abandonRaise .state
  · exact h1.abandonRaise .state
  · exact h1

/-! ### Governor.lean -/

theorem judgeLimit (a b : Nat) (h : s.Reaches t) : s.Reaches (t.judgeLimit a b) := by
  simp only [State.judgeLimit]
  split
  · split
    · split
      · exact ((h.frame (by rfl)).setLimitHeld true).report ..
      · exact h.frame (by rfl)
    · split
      · exact h
      · exact (h.frame (by rfl)).setLimitHeld false
  · exact h.frame (by rfl)

theorem shareUpdate (h : s.Reaches t) : s.Reaches t.shareUpdate :=
  (h.startRaise.reviewRaise true).reviewRelease.shed.haltLower

theorem recordUpdate (g : GovTerms) (h : s.Reaches t) : s.Reaches (t.recordUpdate g) := by
  simp only [State.recordUpdate]
  exact (h.frame (by rfl)).setFeed _

theorem governorUpdate (h : s.Reaches t) : s.Reaches t.governorUpdate := by
  simp only [State.governorUpdate]
  exact ((((h.recordUpdate _).handMachine _).shareUpdate).judgeLimit _ _).exhaustionTest

/-! ### Weighing.lean -/

theorem machineError (h : s.Reaches t) : s.Reaches t.machineError := h.frame (by rfl)

theorem measureHeard (m : Measure) (h : s.Reaches t) : s.Reaches (t.measureHeard m) := by
  simp only [State.measureHeard]
  split
  · exact (h.frame (by rfl)).report ..
  · exact h.frame (by rfl)

theorem deliver (parts : List (Nat × Nat)) (h : s.Reaches t) : s.Reaches (t.deliver parts) := by
  induction parts generalizing t with
  | nil => exact h
  | cons p parts ih => exact ih (h.attributeMass p.1 p.2)

theorem weigh (m : Measure) (h : s.Reaches t) : s.Reaches (t.weigh m) := by
  simp only [State.weigh]
  split
  · exact h.frame (by rfl)
  · split
    · exact (h.frame (by rfl)).report ..
    · exact (h.frame (by rfl)).deliver _

theorem carryRecord (m : Nat) (h : s.Reaches t) : s.Reaches (t.carryRecord m) := by
  simp only [State.carryRecord]
  split
  · exact h
  · split
    · exact h.frame (by rfl)
    · exact (h.frame (by rfl)).report ..

theorem nozzleStep (m : Measure) (h : s.Reaches t) : s.Reaches (t.nozzleStep m) := by
  simp only [State.nozzleStep]
  split
  · exact h
  · exact (h.carryRecord _).frame (by rfl)

theorem deliverFeed (f : Nat) (h : s.Reaches t) : s.Reaches (t.deliverFeed f) :=
  (h.frame (by rfl)).drainTest.yieldTest.exhaustionTest.feedDrain

theorem deliverPosition (old : Option Nat) (h : s.Reaches t) : s.Reaches (t.deliverPosition old) := by
  simp only [State.deliverPosition]
  split
  · exact h
  · exact h.claimRetest.conflictTest _

theorem deliverFault (h : s.Reaches t) : s.Reaches t.deliverFault := h.refreshHeld.clampIfRan _

theorem faultMark (m : Measure) (h : s.Reaches t) : s.Reaches (t.faultMark m) := by
  simp only [State.faultMark]
  split
  · split
    · exact h
    · exact (h.frame (by rfl)).report ..
  · exact h.frame (by rfl)

theorem beltFlag (b : Bool) (h : s.Reaches t) : s.Reaches (t.beltFlag b) := by
  simp only [State.beltFlag]
  split
  · exact (h.frame (by rfl)).beltTrip
  · exact h.frame (by rfl)

theorem entryTiming (m : Measure) (h : s.Reaches t) : s.Reaches (t.entryTiming m) := by
  simp only [State.entryTiming]
  split
  · split
    · exact h.frame (by rfl)
    · exact h
  · exact h.frame (by rfl)

theorem recoveryTiming (m : Measure) (h : s.Reaches t) : s.Reaches (t.recoveryTiming m) := by
  simp only [State.recoveryTiming]
  split
  · split
    · exact h.frame (by rfl)
    · exact h
  · exact h.frame (by rfl)

theorem observeAir (m : Measure) (h : s.Reaches t) : s.Reaches (t.observeAir m) := by
  simp only [State.observeAir]
  split
  · exact h.recoveryTiming m
  · exact h.entryTiming m

theorem recordAndDeliver (m : Measure) (h : s.Reaches t) : s.Reaches (t.recordAndDeliver m) :=
  ((((h.frame (by rfl)).deliverFeed _).deliverPosition _).orderNozzle _ _).deliverFault

theorem takeMeasure (m : Measure) (h : s.Reaches t) : s.Reaches (t.takeMeasure m) := by
  simp only [State.takeMeasure]
  split
  · exact h.machineError
  · split
    · exact ((((((h.frame (by rfl)).measureHeard m).weigh m).nozzleStep m).recordAndDeliver m).faultMark m).observeAir m
    · exact ((((h.frame (by rfl)).measureHeard m).recordAndDeliver m).faultMark m).beltFlag _

/-! ### Line.lean -/

theorem lineFault (b : Bool) (h : s.Reaches t) : s.Reaches (t.lineFault b) := (h.frame (by rfl)).countRxFault

theorem applyHello (j : StationNo) (b : HelloBody) (h : s.Reaches t) : s.Reaches (t.applyHello j b) := by
  simp only [State.applyHello]
  split
  · split
    · exact (h.tableTake ..).offerRecall _ _ _
    · exact h.tableReject _ _
  · exact h.tableReject _ _

theorem applyBye (j : StationNo) (r : Nat) (h : s.Reaches t) : s.Reaches (t.applyBye j r) := by
  simp only [State.applyBye]
  split
  · exact h.tableTake ..
  · exact h.tableReject _ _

theorem applyStatus (j : StationNo) (b : StatusBody) (h : s.Reaches t) : s.Reaches (t.applyStatus j b) := by
  simp only [State.applyStatus]
  split
  · exact ((h.tableTake ..).conflictTest _).applyStatusMass _ _
  · exact h.tableReject _ _

theorem applyRaise (j : StationNo) (b : Nat × Nat) (h : s.Reaches t) : s.Reaches (t.applyRaise j b) := by
  simp only [State.applyRaise]
  split
  · exact h.tableTake ..
  · exact h.tableReject _ _

theorem applyLower (j : StationNo) (g : Nat) (h : s.Reaches t) : s.Reaches (t.applyLower j g) := by
  simp only [State.applyLower]
  split
  · exact h.tableTake ..
  · exact h.tableReject _ _

theorem applyClaim (j : StationNo) (b : ClaimBody) (h : s.Reaches t) : s.Reaches (t.applyClaim j b) := by
  simp only [State.applyClaim]
  split
  · exact (h.tableTake ..).claimRetest.conflictTest _
  · exact h.tableReject _ _

theorem applyRelease (j : StationNo) (b : Nat × Nat) (h : s.Reaches t) : s.Reaches (t.applyRelease j b) := by
  simp only [State.applyRelease]
  split
  · exact (h.tableTake ..).claimRetest
  · exact h.tableReject _ _

theorem applyTallyFrame (j : StationNo) (b : TallyBody) (h : s.Reaches t) : s.Reaches (t.applyTallyFrame j b) :=
  (h.tableTake ..).applyTally _ _

theorem applyPlain (j : StationNo) (d : Nat) {hand : State → State} (hh : ∀ u, s.Reaches u → s.Reaches (hand u))
    (h : s.Reaches t) : s.Reaches (t.applyPlain j d hand) := by
  simp only [State.applyPlain]
  split
  · exact hh _ (h.tableTake ..)
  · exact h.tableTake ..

theorem recordCapacity (j : StationNo) (c : Nat) (h : s.Reaches t) : s.Reaches (t.recordCapacity j c) :=
  (h.frame (by rfl)).recompute

theorem haltIn (j : StationNo) (r : Nat) (h : s.Reaches t) : s.Reaches (t.haltIn j r) := by
  simp only [State.haltIn]
  split
  · exact h
  · exact ((h.frame (by rfl)).report ..).haltGained _

theorem haltRemove (j : StationNo) (h : s.Reaches t) : s.Reaches (t.haltRemove j) := by
  simp only [State.haltRemove]
  split
  · exact ((h.frame (by rfl)).report ..).haltLost
  · exact h

theorem applyRecallFrame (j : StationNo) (d : Nat) (b : TallyBody) (h : s.Reaches t) :
    s.Reaches (t.applyRecallFrame j d b) := h.applyPlain j d fun _ hu => hu.applyRecall j b

theorem applyCapacity (j : StationNo) (d c : Nat) (h : s.Reaches t) : s.Reaches (t.applyCapacity j d c) :=
  h.applyPlain j d fun _ hu => hu.recordCapacity j c

theorem applyHalt (j : StationNo) (d r : Nat) (h : s.Reaches t) : s.Reaches (t.applyHalt j d r) := by
  simp only [State.applyHalt]
  split
  · exact h.tableReject _ _
  · exact h.applyPlain j d fun _ hu => hu.haltIn j r

theorem applyClear (j : StationNo) (d r : Nat) (h : s.Reaches t) : s.Reaches (t.applyClear j d r) := by
  simp only [State.applyClear]
  split
  · exact h.tableReject _ _
  · exact h.applyPlain j d fun _ hu => hu.haltRemove j

theorem countUnheard (b : Bool) (h : s.Reaches t) : s.Reaches (t.countUnheard b) := by
  simp only [State.countUnheard]
  split
  · exact h.frame (by rfl)
  · split
    · exact (h.frame (by rfl)).report ..
    · exact h.frame (by rfl)

theorem helloDone (h : s.Reaches t) : s.Reaches t.helloDone := by
  simp only [State.helloDone]
  split
  · exact h.frame (by rfl)
  · exact h

theorem statusDone (q : BitVec 8) (h : s.Reaches t) : s.Reaches (t.statusDone q) := by
  simp only [State.statusDone]
  split
  · exact (h.frame (by rfl)).refreshHeld
  · exact h.frame (by rfl)

theorem claimDone (h : s.Reaches t) : s.Reaches t.claimDone := by
  simp only [State.claimDone]
  split
  · exact (h.frame (by rfl)).enterReleasing
  · exact (h.frame (by rfl)).conflictTest _

theorem releaseDone (h : s.Reaches t) : s.Reaches t.releaseDone := by
  have h1 : s.Reaches { t with
      claim := { t.claim with phase := .none, own := none, time := none, releaseOwed := false } } := h.frame (by rfl)
  have h2 : s.Reaches (State.tallyOnRelease
      { t with claim := { t.claim with phase := .none, own := none, time := none, releaseOwed := false } }) := by
    simp only [State.tallyOnRelease]
    split
    · exact h1.offerTally
    · exact h1
  exact h2.signalReleased.claimRetest

theorem endOccupancy (h : s.Reaches t) : s.Reaches t.endOccupancy := by
  simp only [State.endOccupancy]
  split
  · exact h
  · split <;> exact h.frame (by rfl)

/-! ### Timers, console commands -/

theorem becomeSelfSilent (h : s.Reaches t) : s.Reaches t.becomeSelfSilent :=
  (((h.frame (by rfl)).report ..).holdOffClamp _).refreshHeld

theorem stallDrain (h : s.Reaches t) : s.Reaches t.stallDrain := by
  simp only [State.stallDrain]
  split
  · rename_i l e
    exact (h.sameTarget (l' := { l with deadline := some (t.now + Config.drainDeadline) }) e rfl).report ..
  · exact h

theorem settleClaim (h : s.Reaches t) : s.Reaches t.settleClaim := by
  simp only [State.settleClaim]
  split
  · exact (h.frame (by rfl)).orderSettled
  · exact h.frame (by rfl)

theorem becomeMachineSilent (h : s.Reaches t) : s.Reaches t.becomeMachineSilent :=
  ((((h.report ..).frame (by rfl)).holdOffClamp _).refreshHeld).claimRetest

theorem setChoke (h : s.Reaches t) : s.Reaches t.setChoke := by
  simp only [State.setChoke]
  split
  · exact (((h.frame (by rfl)).report ..).holdOffClamp _).refreshHeld.chokeRepeated
  · exact (((h.frame (by rfl)).report ..).holdOffClamp _).refreshHeld

theorem clearChoke (h : s.Reaches t) : s.Reaches t.clearChoke := ((h.frame (by rfl)).report ..).refreshHeld

theorem consoleFrameFault (h : s.Reaches t) : s.Reaches t.consoleFrameFault := (h.frame (by rfl)).report ..

theorem clearHalt (r : Nat) (h : s.Reaches t) : s.Reaches (t.clearHalt r) :=
  ((h.offerUrgent rfl).frame (by rfl)).haltRemove _

theorem overrideClear (h : s.Reaches t) : s.Reaches t.overrideClear := ((h.frame (by rfl)).report ..).haltLost

theorem takeBeltcap (c : Nat) (h : s.Reaches t) : s.Reaches (t.takeBeltcap c) := by
  simp only [State.takeBeltcap]
  split
  · exact (h.frame (by rfl)).offerCapacity
  · exact h.frame (by rfl)

theorem takeConfigure (c : ConfigRecord) (e : t.transmits = false) (h : s.Reaches t) : s.Reaches (t.takeConfigure c) :=
  (((h.frame (u := { t with station := { t.station with
    config := some c, reportLevel := c.reportLevel, remoteEnable := c.remoteEnable, state := .offline } })
      (by rw [State.core, State.core, e]; rfl)).holdOffClamp .state).capCheckAll).tableChanged _

end State.Reaches
end Sys2Proof.Machine

/-! ## The invariants of the transmit queues over the signals between blocks (R13 to R17) -/

namespace Sys2Proof.Machine

/-- `State.lineOk` without the bound on the transmit-fault count, which stands only after R19 has judged it. -/
def State.queuesOk (s : State) : Prop :=
  s.link.ok
    ∧ (s.transmits = false → s.link.urgent = [] ∧ s.link.normal = [] ∧ s.link.held = none ∧ s.link.onLine = none)

theorem State.lineOk_iff (s : State) : s.lineOk ↔ s.queuesOk ∧ (s.transmits = true → s.link.txFaults < 160) :=
  ⟨fun ⟨a, b, c⟩ => ⟨⟨a, b⟩, c⟩, fun ⟨⟨a, b⟩, c⟩ => ⟨a, b, c⟩⟩

theorem State.lineOk.queues {s : State} (h : s.lineOk) : s.queuesOk := ⟨h.1, h.2.1⟩

/-- Two links with the same queues and the same frame on the line. -/
theorem Link.ok_of_queues {l l' : Link} (h : l.ok) (hu : l'.urgent = l.urgent) (hn : l'.normal = l.normal)
    (hh : l'.held = l.held) (hk : l'.lineKind = l.lineKind) : l'.ok :=
  Link.ok_of_kinds h hu (by rw [hn]) hk (fun c hc => h.2.2.2.2.2.2 c (hh ▸ hc))

/-- Nothing queued and nothing on the line. -/
theorem Link.ok_of_empty {l : Link} (hu : l.urgent = []) (hn : l.normal = []) (hh : l.held = none)
    (ho : l.onLine = none) : l.ok := by
  simp [Link.ok, Link.urgentCount, Link.listCount, Link.singles, Link.lineKind, hu, hn, hh, ho]

theorem State.queuesOk_of_core {s t : State} (h : s.queuesOk) (e : t.core = s.core) : t.queuesOk := by
  simp only [State.core, Core.mk.injEq] at e
  obtain ⟨transmits, urgent, normal, held, line, -⟩ := e
  refine ⟨Link.ok_of_queues h.1 urgent normal held (by simp only [Link.lineKind, line]), fun ht => ?_⟩
  rw [urgent, normal, held, line]
  exact h.2 (transmits ▸ ht)

theorem State.queuesOk.report {s : State} (h : s.queuesOk) (l : Level) (b : Source) (c : Nat) (as : List Nat) :
    (s.report l b c as).queuesOk := by
  rw [State.report_eq]; exact h

theorem State.queuesOk.withdraw {s : State} (h : s.queuesOk) (k : Kind) : (s.withdraw k).queuesOk := by
  refine ⟨Link.withdraw_ok h.1 k, fun ht => ?_⟩
  obtain ⟨urgent, normal, held, line⟩ := h.2 ht
  simp [Link.withdraw, urgent, normal, held, line]

theorem State.queuesOk.offerSingle {s : State} (h : s.queuesOk) (c : Content) (hc : c.kind.single = true) :
    (s.offerSingle c).queuesOk := by
  unfold State.offerSingle
  split
  · rename_i tx
    refine ⟨?_, fun ht => by simp_all [State.transmits]⟩
    dsimp only
    split
    · exact Link.placeSingle_ok (Link.withdraw_ok h.1 .raise) c hc
    · exact Link.placeSingle_ok h.1 c hc
  · exact h

theorem Kind.listed_urgent {k : Kind} (h : k.listed = true) : k.urgent = false ∧ k.single = false := by
  cases k <;> first | exact ⟨rfl, rfl⟩ | cases h

theorem State.queuesOk.offerListed {s : State} (h : s.queuesOk) (c : Content) (hc : c.kind.listed = true) :
    (s.offerListed c).queuesOk := by
  unfold State.offerListed
  split
  · rename_i tx
    split
    · rename_i room
      exact ⟨Link.append_ok h.1 c (Kind.listed_urgent hc).1 (fun _ => room)
        (fun e => by rw [(Kind.listed_urgent hc).2] at e; cases e), fun ht => by simp_all [State.transmits]⟩
    · exact h.report ..
  · exact h

theorem State.queuesOk.offerUrgent {s : State} (h : s.queuesOk) (c : Content) (hc : c.kind.urgent = true) :
    (s.offerUrgent c).queuesOk := by
  unfold State.offerUrgent
  split
  · rename_i g
    simp only [State.urgentFull, Bool.and_eq_true, Bool.not_eq_true', decide_eq_false_iff_not, Nat.not_le] at g
    exact ⟨Link.appendUrgent_ok h.1 c hc g.2, fun ht => by simp_all [State.transmits]⟩
  · exact h

theorem Kind.plain_single {k : Kind} (h : k.plain = true) : k.single = true := by
  simp only [Kind.plain, Bool.and_eq_true] at h
  exact h.1.1

/-- The signals between blocks keep the transmit queues (R13 to R17). -/
theorem State.Reaches.queuesOk {s t : State} (h : s.Reaches t) (hs : s.queuesOk) : t.queuesOk := by
  induction h with
  | refl => exact hs
  | frame _ e ih => exact State.queuesOk_of_core ih e
  | report l b c as _ ih => exact ih.report l b c as
  | withdrawClaim _ ih => exact ih.withdraw .claim
  | offerPlain _ e ih => exact ih.offerSingle _ (Kind.plain_single e)
  | offerListed _ e ih => exact ih.offerListed _ e
  | offerUrgent _ e ih => exact ih.offerUrgent _ e
  | offerYield _ _ _ ih => exact ih.offerSingle _ rfl
  | offerDrain _ _ ih => exact ih.offerSingle _ rfl
  | endQueued _ _ ih => exact ih.withdraw .raise
  | abandonSending _ _ _ ih => exact ih.withdraw .raise
  | endSettling _ _ ih => exact ih
  | offerRaise x _ _ _ ih => exact State.queuesOk.offerSingle (s := State.setRaise (.queued x) _) ih (.raise x _) rfl
  | lower _ _ _ _ ih => exact ih

/-! ### What the signals leave of the line -/

theorem Link.withdraw_line (k : Kind) (l : Link) :
    (l.withdraw k).onLine.map (fun a => a.content) = l.onLine.map (fun a => a.content) := by
  unfold Link.withdraw
  cases l.onLine with
  | none => rfl
  | some a => simp only [Option.map_some]; split <;> rfl

/-- What an offer to the normal set leaves: everything but the queues, and a withdrawal recorded on the line. -/
theorem State.offerSingle_keeps (c : Content) (s : State) :
    (s.offerSingle c).transmits = s.transmits ∧ (s.offerSingle c).link.txFaults = s.link.txFaults
      ∧ (s.offerSingle c).share = s.share
      ∧ (s.offerSingle c).link.onLine.map (fun a => a.content) = s.link.onLine.map (fun a => a.content) := by
  have place : ∀ l : Link, (l.placeSingle c).txFaults = l.txFaults := by
    intro l; unfold Link.placeSingle; split <;> [rfl; (split <;> rfl)]
  unfold State.offerSingle
  split
  · refine ⟨rfl, ?_, rfl, ?_⟩
    · dsimp only; rw [place]; split <;> rfl
    · dsimp only; rw [Link.placeSingle_onLine]
      split
      · exact Link.withdraw_line .raise s.link
      · rfl
  · exact ⟨rfl, rfl, rfl, rfl⟩

/-- The signals leave whether the station transmits, the transmit-fault count, the grant and the content on the line. -/
theorem State.Reaches.keeps {s t : State} (h : s.Reaches t) :
    t.transmits = s.transmits ∧ t.link.txFaults = s.link.txFaults ∧ t.share.grant = s.share.grant
      ∧ t.link.onLine.map (fun a => a.content) = s.link.onLine.map (fun a => a.content) := by
  have offer : ∀ (c : Content) (u : State), u.transmits = s.transmits ∧ u.link.txFaults = s.link.txFaults
      ∧ u.share.grant = s.share.grant ∧ u.link.onLine.map (fun a => a.content) = s.link.onLine.map (fun a => a.content) →
      (u.offerSingle c).transmits = s.transmits ∧ (u.offerSingle c).link.txFaults = s.link.txFaults
      ∧ (u.offerSingle c).share.grant = s.share.grant
      ∧ (u.offerSingle c).link.onLine.map (fun a => a.content) = s.link.onLine.map (fun a => a.content) := by
    intro c u hu
    obtain ⟨tx, faults, share, line⟩ := u.offerSingle_keeps c
    rw [tx, faults, share, line]; exact hu
  induction h with
  | refl => exact ⟨rfl, rfl, rfl, rfl⟩
  | frame _ e ih =>
    simp only [State.core, Core.mk.injEq] at e
    obtain ⟨tx, -, -, -, line, faults, grant, -⟩ := e
    rw [tx, faults, grant, line]; exact ih
  | report => rw [State.report_eq]; assumption
  | withdrawClaim _ ih => exact ⟨ih.1, ih.2.1, ih.2.2.1, (Link.withdraw_line _ _).trans ih.2.2.2⟩
  | offerPlain _ _ ih => exact offer _ _ ih
  | @offerListed t c _ _ ih =>
    unfold State.offerListed
    split
    · split
      · exact ih
      · rw [State.reportTxqFull, State.report_eq]; exact ih
    · exact ih
  | offerUrgent _ _ ih => unfold State.offerUrgent; split <;> exact ih
  | offerYield _ _ _ ih => exact offer _ _ ih
  | offerDrain _ _ ih => exact offer _ _ ih
  | endQueued _ _ ih => exact ⟨ih.1, ih.2.1, ih.2.2.1, (Link.withdraw_line _ _).trans ih.2.2.2⟩
  | abandonSending _ _ _ ih => exact ⟨ih.1, ih.2.1, ih.2.2.1, (Link.withdraw_line _ _).trans ih.2.2.2⟩
  | endSettling _ _ ih => exact ih
  | offerRaise x _ _ _ ih => exact offer _ (State.setRaise _ _) ih
  | lower _ _ _ _ ih => exact ih

namespace State.Reaches

variable {s t : State}

theorem transmits_eq (h : s.Reaches t) : t.transmits = s.transmits := h.keeps.1

theorem txFaults_eq (h : s.Reaches t) : t.link.txFaults = s.link.txFaults := h.keeps.2.1

theorem grant_eq (h : s.Reaches t) : t.share.grant = s.share.grant := h.keeps.2.2.1

theorem line_none (h : s.Reaches t) (e : s.link.onLine = none) : t.link.onLine = none := by
  have := h.keeps.2.2.2
  rw [e] at this
  exact Option.map_eq_none_iff.mp this

theorem lineOk (h : s.Reaches t) (hs : s.lineOk) : t.lineOk := by
  rw [State.lineOk_iff] at hs ⊢
  rw [h.transmits_eq, h.txFaults_eq]
  exact ⟨h.queuesOk hs.1, hs.2⟩

end State.Reaches

/-! ### Entry to a state that does not transmit (R17) -/

/-- The share unit's part of the silence leaves the link in a state that does not transmit. -/
theorem State.shareSilenced_link {s : State} (h : s.transmits = false) : s.shareSilenced.link = s.link := by
  unfold State.shareSilenced
  split
  · rfl
  · rename_i e
    have : (s.abandonSettling .state).link = s.link := by
      simp only [State.abandonSettling, e, State.reportRaiseYielded, State.report_eq]
      split
      · rename_i tx; simp [State.transmits] at h tx; simp [h] at tx
      · rfl
    exact this
  · rfl

theorem State.shareSilenced_station (s : State) : s.shareSilenced.transmits = s.transmits := by
  have : (s.abandonSettling .state).transmits = s.transmits :=
    (State.Reaches.refl.abandonSettling .state).transmits_eq
  unfold State.shareSilenced
  split <;> [rfl; exact this; rfl]

/-- After the share unit's part of the silence nothing the queues see happens. -/
theorem State.silence_reaches (s : State) : s.emptyQueues.shareSilenced.Reaches s.silence := by
  have h : s.emptyQueues.shareSilenced.Reaches s.emptyQueues.shareSilenced.claimSilenced.timersSilenced :=
    State.Reaches.refl.claimSilenced.frame (by rfl)
  exact h.refreshHeld.claimRetest

theorem State.silence_lineOk {s : State} (ht : s.transmits = false) (ho : s.link.onLine = none) :
    s.silence.lineOk := by
  have tx : s.emptyQueues.transmits = false := ht
  have link := State.shareSilenced_link tx
  refine s.silence_reaches.lineOk ⟨?_, fun _ => ?_, fun h => ?_⟩
  · rw [link]; exact Link.ok_of_empty rfl rfl rfl ho
  · rw [link]; exact ⟨rfl, rfl, rfl, ho⟩
  · rw [State.shareSilenced_station, tx] at h; cases h

/-- What stands before `silence` at an entry to MUTED or OFFLINE: the state is set and the line is as it was. -/
theorem State.enterMuted_eq (s : State) : ∃ u, s.enterMuted = u.silence ∧ (s.setStation .muted).Reaches u :=
  ⟨_, rfl, (State.Reaches.refl.report ..).holdOffClamp _⟩

theorem State.enterOffline_reaches (s : State) :
    ∃ u, (s.setStation .offline).Reaches u ∧ u.silence.Reaches s.enterOffline :=
  ⟨_, State.Reaches.refl.governorStop, (State.Reaches.refl.frame (by rfl)).recompute⟩

theorem State.enterMuted_lineOk {s : State} (h : s.link.onLine = none) : s.enterMuted.lineOk := by
  obtain ⟨u, e, hu⟩ := s.enterMuted_eq
  rw [e]
  exact State.silence_lineOk hu.transmits_eq (hu.line_none h)

theorem State.enterOffline_lineOk {s : State} (h : s.link.onLine = none) : s.enterOffline.lineOk := by
  obtain ⟨u, hu, e⟩ := s.enterOffline_reaches
  exact e.lineOk (State.silence_lineOk hu.transmits_eq (hu.line_none h))

/-- R19 leaves a transmitting station with a count below 160. -/
theorem State.judgeTxFaults_lineOk {s : State} (h : s.queuesOk)
    (ho : s.transmits = true → 160 ≤ s.link.txFaults → s.link.onLine = none) : s.judgeTxFaults.lineOk := by
  by_cases g : s.transmits = true ∧ 160 ≤ s.link.txFaults
  · unfold State.judgeTxFaults
    rw [if_pos (by simpa using g)]
    exact State.enterMuted_lineOk (ho g.1 g.2)
  · have low : s.transmits = true → s.link.txFaults < 160 := fun tx => by
      by_contra c; exact g ⟨tx, by omega⟩
    exact (State.Reaches.refl.judgeTxFaults low).lineOk (s.lineOk_iff.mpr ⟨h, low⟩)

end Sys2Proof.Machine

/-! ## An invariant of the link over every command -/

namespace Sys2Proof.Machine

/-- What keeps a property of the link and the grant over every command: it is kept by the signals between blocks, it holds of a
cleared state, and each event that acts on the line, the raise or the station state otherwise keeps it. -/
structure KeptByEvents (P : State → Prop) : Prop where
  reaches : ∀ {s t : State}, s.Reaches t → P s → P t
  console : ∀ {s : State} (c : Console), P s → P { s with console := c }
  cleared : ∀ pending now cause straps, P (State.cleared pending now cause straps)
  started : ∀ {s : State}, P s → P s.startAttempt
  failed : ∀ {s : State}, P s → P s.attemptFailed
  aborted : ∀ {s : State}, P s → P s.abortAttempt
  offline : ∀ {s : State}, P s → s.link.onLine = none → P s.enterOffline
  completed : ∀ {s : State} (hello acked : Bool), P s → s.link.onLine.isSome = true → P (s.completed hello acked)
  raised : ∀ {s : State} {a : Attempt} {x g : Nat} (hello acked : Bool), P s → s.link.onLine = some a →
    a.content = .raise x g → P ((s.completed hello acked).raiseDone x)
  lowered : ∀ {s : State} {a : Attempt} {g : Nat} (hello acked : Bool), P s → s.link.onLine = some a →
    a.content = .lower g → P ((s.completed hello acked).lowerDone g)
  settled : ∀ {s : State}, P s → P s.settleRaise
  active : ∀ {s : State}, P s → P s.enterActive
  joining : ∀ {s : State}, P s → s.transmits = false → P s.enterJoining

/-- The judging of the transmit-fault count puts nothing on the line. -/
theorem State.judgeTxFaults_line_none {s : State} (line : s.link.onLine = none) : s.judgeTxFaults.link.onLine = none := by
  by_cases g : s.transmits = true ∧ 160 ≤ s.link.txFaults
  · obtain ⟨v, e, hv⟩ := s.enterMuted_eq
    have tx : v.emptyQueues.transmits = false := hv.transmits_eq
    unfold State.judgeTxFaults
    rw [if_pos (by simpa using g), e]
    refine v.silence_reaches.line_none ?_
    rw [State.shareSilenced_link tx]
    exact hv.line_none line
  · exact (State.Reaches.refl.judgeTxFaults fun tx => by by_contra c; exact g ⟨tx, by omega⟩).line_none line

/-- The frame that completed has left the line. -/
theorem State.completed_line_none (hello acked : Bool) (s : State) : (s.completed hello acked).link.onLine = none :=
  State.judgeTxFaults_line_none ((State.Reaches.refl.countUnheard acked).line_none rfl)

namespace KeptByEvents

variable {P : State → Prop} (k : KeptByEvents P) {s : State}

include k

theorem live {t : Nat} {f : State → State} (h : P s) (hf : ∀ u : State, P u → P (f u)) : P (s.live t f) := by
  have ha : P (s.advance t) := k.reaches (State.Reaches.refl.frame (by rfl)) h
  unfold State.live
  split
  · exact ha
  · exact hf _ ha

theorem expire {d : Option Nat} {f : State → State} (h : P s) (hf : ∀ u : State, P u → P (f u)) : P (s.expire d f) := by
  unfold State.expire
  split
  · exact k.live h hf
  · exact h

/-- A command that the signals alone carry out. -/
theorem liveReaches {t : Nat} {f : State → State} (h : P s) (hf : ∀ u : State, u.Reaches (f u)) : P (s.live t f) :=
  k.live h fun u hu => k.reaches (hf u) hu

theorem expireReaches {d : Option Nat} {f : State → State} (h : P s) (hf : ∀ u : State, u.Reaches (f u)) :
    P (s.expire d f) :=
  k.expire h fun u hu => k.reaches (hf u) hu

theorem command {t : Nat} {tag : BitVec 16} {handle : State → Handled} (h : P s)
    (hf : ∀ u : State, P u → P (handle u).1) : P (s.live t (·.command tag handle)) := by
  refine k.live h fun u hu => ?_
  unfold State.command
  split
  · exact k.reaches ((State.Reaches.refl.frame (by rfl)).report ..) hu
  · exact k.console _ (hf u hu)

theorem consoleReaches {t : Nat} {tag : BitVec 16} {handle : State → Handled} (h : P s)
    (hf : ∀ u : State, u.Reaches (handle u).1) : P (s.live t (·.command tag handle)) :=
  k.command h fun u hu => k.reaches (hf u) hu

theorem dupNumber (kind : Kind) (h : P s) (ho : s.link.onLine = none) : P (s.dupNumber kind) := by
  have h1 : s.Reaches (if s.link.dupReported then s
      else State.reportDupNumber kind { s with link := { s.link with dupReported := true } }) := by
    split
    · exact .refl
    · exact (State.Reaches.refl.frame (by rfl)).report ..
  simp only [State.dupNumber]
  split
  · exact k.reaches h1 h
  · exact k.offline (k.reaches h1 h) (h1.line_none ho)

/-- A frame taken from the line. -/
theorem receive {α : Type} {t : Nat} {j : StationNo} {kind : Kind} {dest : Nat} {payload : Option α}
    {apply : α → State → State} (h : P s) (hf : ∀ (b : α) (u : State), P u → P (apply b u)) :
    P (s.live t (·.receive j kind dest payload apply)) := by
  refine k.live h fun u hu => ?_
  unfold State.receive
  split
  · rename_i listens
    have line : u.link.onLine = none := by
      simp only [State.listens, Bool.and_eq_true, Option.isNone_iff_eq_none] at listens
      exact listens.1.2
    split
    · split
      · have h1 : ∀ o : Occupancy, u.Reaches ((u.markOccupancy true o).countRxGood) :=
          fun o => (State.Reaches.refl.frame (by rfl)).countRxGood
        simp only [State.takeGood]
        generalize (if kind = Kind.hello then Occupancy.hello else Occupancy.taken) = o
        split
        · exact k.dupNumber _ (k.reaches (h1 _) hu) ((h1 _).line_none line)
        · exact hf _ _ (k.reaches (h1 _) hu)
      · exact k.reaches (State.Reaches.refl.lineFault _) hu
    · exact k.reaches (State.Reaches.refl.lineFault _) hu
  · exact hu

theorem receiveReaches {α : Type} {t : Nat} {j : StationNo} {kind : Kind} {dest : Nat} {payload : Option α}
    {apply : α → State → State} (h : P s) (hf : ∀ (b : α) (u : State), u.Reaches (apply b u)) :
    P (s.live t (·.receive j kind dest payload apply)) :=
  k.receive h fun b u hu => k.reaches (hf b u) hu

theorem beginReset (c : ResetCause) (u : State) : P (u.beginReset c) :=
  k.reaches ((State.Reaches.refl (s := State.cleared u.pending u.now c u.station.straps)).frame (by rfl)) (k.cleared ..)

theorem releaseReset (c : ResetCause) (straps : Straps) (u : State) : P (u.releaseReset c straps) := by
  have h : (State.cleared u.pending u.now c straps).Reaches (u.releaseReset c straps) := by
    unfold State.releaseReset
    exact State.Reaches.refl.report ..
  exact k.reaches h (k.cleared ..)

theorem applyReset (j : StationNo) (d : Nat) (straps : Straps) (h : P s) : P (s.applyReset j d straps) := by
  have h1 : s.Reaches (s.tableTake j false id false .other) := State.Reaches.refl.tableTake ..
  simp only [State.applyReset]
  split
  · split
    · exact k.reaches (State.Reaches.refl.frame (by rfl)) (k.releaseReset .remote straps (s.tableTake j false id false .other))
    · exact k.reaches (h1.report ..) h
  · exact k.reaches h1 h

/-- An own frame that completes, where its block's part is carried out by the signals alone. -/
theorem complete {t : Nat} {p : Kind → Bool} {acked : Bool} {signal : Content → State → State} (h : P s)
    (hf : ∀ (u : State) (a : Attempt) (hello : Bool), P u → u.link.onLine = some a → p a.content.kind = true →
      P (signal a.content (u.completed hello acked))) :
    P (s.live t (·.complete p acked signal)) := by
  refine k.live h fun u hu => ?_
  unfold State.complete
  split
  · rename_i a line
    split
    · exact hf u a _ hu line ‹_›
    · exact hu
  · exact hu

theorem completeReaches {t : Nat} {p : Kind → Bool} {acked : Bool} {signal : Content → State → State} (h : P s)
    (hf : ∀ (c : Content) (u : State), u.Reaches (signal c u)) : P (s.live t (·.complete p acked signal)) :=
  k.complete h fun u a hello hu line _ => k.reaches (hf _ _) (k.completed hello acked hu (by rw [line]; rfl))

/-! ### The commands -/

theorem handleConfigure (a : ConfigureArgs) (h : P s) : P (handleConfigure a s).1 := by
  unfold Machine.handleConfigure refuse
  split
  · exact h
  · rename_i config
    have tx : s.transmits = false := by
      simp only [not_not, ne_eq] at config
      simp [State.transmits, config, StationState.transmits]
    split
    · exact h
    · have h1 : s.Reaches (s.takeConfigure a.record) := State.Reaches.takeConfigure a.record tx .refl
      split
      · dsimp only; exact k.reaches h1 h
      · dsimp only; exact k.reaches h1 h

theorem handleJoin (h : P s) : P (handleJoin s).1 := by
  unfold Machine.handleJoin refuse
  split
  · exact k.joining h (by simp [State.transmits, StationState.transmits, *])
  · exact k.joining h (by simp [State.transmits, StationState.transmits, *])
  · exact h

theorem handleLeave (h : P s) : P (handleLeave s).1 := by
  unfold Machine.handleLeave refuse
  split
  · rename_i working
    split
    · exact h
    · refine k.reaches (State.Reaches.refl.enterLeaving ?_) h
      revert working
      simp only [State.working, State.transmits]
      cases s.station.state <;> simp [StationState.working, StationState.transmits]
  · exact h

omit k in
theorem withArgs_reaches {α : Type} {args : Option α} {f : α → State → Handled} {u : State}
    (hf : ∀ a, u.Reaches (f a u).1) : u.Reaches (withArgs args f u).1 := by
  unfold withArgs refuse
  split
  · exact hf _
  · exact .refl

omit k in
theorem withArgs_keeps {α : Type} {args : Option α} {f : α → State → Handled} {u : State} (h : P u)
    (hf : ∀ a, P (f a u).1) : P (withArgs args f u).1 := by
  unfold withArgs refuse
  split
  · exact hf _
  · exact h

end KeptByEvents

/-! ### What the signals carry out of the console commands -/

namespace State.Reaches

variable (s : State)

theorem handlePlanBegin (a : PlanBeginArgs) : s.Reaches (handlePlanBegin a s).1 := by
  unfold Machine.handlePlanBegin refuse
  split <;> [exact refl; (split <;> [exact refl; (split <;> [exact refl.frame (by rfl); exact refl])])]

theorem handlePlanHold (a : PlanHoldArgs) : s.Reaches (handlePlanHold a s).1 := by
  unfold Machine.handlePlanHold refuse
  split
  · exact refl
  · split
    · split <;> [exact refl.frame (by rfl); exact refl]
    · exact refl

theorem handlePlanEnd : s.Reaches (handlePlanEnd s).1 := by
  unfold Machine.handlePlanEnd refuse
  split
  · exact refl
  · split
    · split
      · exact refl
      · split <;> [exact refl; exact refl.frame (by rfl)]
    · exact refl

theorem handlePlanDrop : s.Reaches (handlePlanDrop s).1 := by
  unfold Machine.handlePlanDrop refuse
  split <;> [exact refl; (split <;> [exact refl; exact refl.frame (by rfl)])]

theorem handleOrder (a : OrderArgs) : s.Reaches (handleOrder a s).1 := by
  unfold Machine.handleOrder refuse
  split
  · exact refl
  · split
    · exact refl
    · split
      · exact refl
      · split
        · split
          · exact refl
          · split
            · exact refl
            · exact (refl.frame (by rfl)).place _ _
        · exact refl

theorem handleHalt (a : Nat × Nat) : s.Reaches (handleHalt a s).1 := by
  unfold Machine.handleHalt refuse
  split
  · exact refl
  · split
    · split
      · split
        · exact refl
        · exact refl.originateHalt _
      · exact refl
    · exact refl

theorem handleClear (r : Nat) : s.Reaches (handleClear r s).1 := by
  unfold Machine.handleClear refuse
  split
  · split
    · split
      · exact refl
      · exact refl.clearHalt r
    · exact refl
  · exact refl

theorem handleBeltcap (c : Nat) : s.Reaches (handleBeltcap c s).1 := by
  unfold Machine.handleBeltcap refuse
  split
  · exact refl
  · exact refl.takeBeltcap _

theorem handleRemoteReset (n : Nat) : s.Reaches (handleRemoteReset n s).1 := by
  unfold Machine.handleRemoteReset refuse
  split
  · split
    · exact refl
    · split
      · split
        · exact refl
        · exact refl.offerUrgent rfl
      · exact refl
  · exact refl

end State.Reaches

end Sys2Proof.Machine

namespace Sys2Proof.Machine

namespace State.Reaches

theorem handleQueryPeer (n : Nat) (s : State) : s.Reaches (handleQueryPeer n s).1 := by
  unfold Machine.handleQueryPeer refuse
  split <;> [(split <;> exact refl); exact refl]

theorem handleQueryHold (n : Nat) (s : State) : s.Reaches (handleQueryHold n s).1 := by
  unfold Machine.handleQueryHold refuse
  split <;> exact refl

theorem becomeSilent (j : StationNo) {s t : State} (h : s.Reaches t) : s.Reaches (t.becomeSilent j) :=
  (h.setEntry _ _).tableChanged _

theorem becomeLost (j : StationNo) {s t : State} (h : s.Reaches t) : s.Reaches (t.becomeLost j) :=
  ((h.setEntry _ _).report ..).tableChanged _

theorem dropPendingRaise (j : StationNo) {s t : State} (h : s.Reaches t) : s.Reaches (t.dropPendingRaise j) :=
  (h.setEntry _ _).tableChanged _

end State.Reaches

open State.Reaches in
/-- A property kept by the signals and by the events of the line is kept by every command. -/
theorem KeptByEvents.exec {P : State → Prop} (k : KeptByEvents P) {s s' : State} (c : Instr) (h : P s)
    (e : exec c s = .next s') : P s' := by
  cases c <;> obtain rfl := Host.Outcome.next.inj e
  case powerReset t => exact k.beginReset _ _
  case pinReset t => exact k.live h fun u _ => k.beginReset _ u
  case resetRelease t straps =>
    split
    · exact k.releaseReset _ _ _
    · exact k.reaches (refl.frame (by rfl)) h
  case lineIdle t => exact k.liveReaches h fun u => refl.frame (by rfl)
  case occupancyEnd t => exact k.liveReaches h fun u => refl.endOccupancy
  case attemptStart t => exact k.live h fun u hu => k.started hu
  case lostArbitration t => exact k.live h fun u hu => k.failed hu
  case transmitFault t => exact k.live h fun u hu => k.aborted hu
  case receiveFault t cause =>
    exact k.liveReaches h fun u => by split <;> [exact refl.lineFault _; exact refl]
  -- frames taken
  case helloTaken t j p => exact k.receiveReaches h fun b u => refl.applyHello j b
  case byeTaken t j p => exact k.receiveReaches h fun b u => refl.applyBye j b
  case statusTaken t j p => exact k.receiveReaches h fun b u => refl.applyStatus j b
  case raiseTaken t j p => exact k.receiveReaches h fun b u => refl.applyRaise j b
  case lowerTaken t j p => exact k.receiveReaches h fun b u => refl.applyLower j b
  case claimTaken t j p => exact k.receiveReaches h fun b u => refl.applyClaim j b
  case releaseTaken t j p => exact k.receiveReaches h fun b u => refl.applyRelease j b
  case tallyTaken t j p => exact k.receiveReaches h fun b u => refl.applyTallyFrame j b
  case recallTaken t j d p => exact k.receiveReaches h fun b u => refl.applyRecallFrame j _ b
  case capacityTaken t j d p => exact k.receiveReaches h fun b u => refl.applyCapacity j _ b
  case haltTaken t j d p => exact k.receiveReaches h fun b u => refl.applyHalt j _ b
  case clearTaken t j d p => exact k.receiveReaches h fun b u => refl.applyClear j _ b
  case resetTaken t j d straps => exact k.receive h fun _ u hu => k.applyReset j _ straps hu
  -- own frames that complete
  case helloCompletes t acked => exact k.completeReaches h fun _ u => refl.helloDone
  case byeCompletes t acked =>
    refine k.complete h fun u a hello hu line _ => ?_
    have off := k.offline (k.completed hello acked hu (by rw [line]; rfl)) (u.completed_line_none hello acked)
    exact k.reaches ((refl.frame (by rfl)).report ..) off
  case statusCompletes t acked =>
    exact k.completeReaches h fun c u => by cases c <;> first | exact refl | exact refl.statusDone _
  case raiseCompletes t acked =>
    refine k.complete h fun u a hello hu line kind => ?_
    cases e : a.content <;> rw [e] at kind <;> first | exact k.raised hello acked hu line e | cases kind
  case lowerCompletes t acked =>
    refine k.complete h fun u a hello hu line kind => ?_
    cases e : a.content <;> rw [e] at kind <;> first | exact k.lowered hello acked hu line e | cases kind
  case claimCompletes t acked => exact k.completeReaches h fun _ u => refl.claimDone
  case releaseCompletes t acked => exact k.completeReaches h fun _ u => refl.releaseDone
  case frameCompletes t acked => exact k.completeReaches h fun _ u => refl
  -- timers
  case peerSilent j => exact k.expireReaches h fun u => refl.becomeSilent j
  case peerLost j => exact k.expireReaches h fun u => refl.becomeLost j
  case pendingRaiseExpiry j => exact k.expireReaches h fun u => refl.dropPendingRaise j
  case selfSilent => exact k.expireReaches h fun u => refl.becomeSelfSilent
  case raiseSettleDeadline => exact k.expire h fun u hu => k.settled hu
  case drainStall => exact k.expireReaches h fun u => refl.stallDrain
  case releaseTimerExpiry => exact k.expireReaches h fun u => (refl.frame (by rfl)).lowerRequest _ _
  case haltRepeat => exact k.expireReaches h fun u => refl.offerHalt.frame (by rfl)
  case capacityRepeat => exact k.expireReaches h fun u => refl.offerCapacity
  case governorUpdate => exact k.expireReaches h fun u => refl.governorUpdate
  case tallyTimerExpiry => exact k.expireReaches h fun u => (refl.frame (by rfl)).offerTally
  case claimSettleDeadline => exact k.expireReaches h fun u => refl.settleClaim
  case travelTimeout => exact k.expireReaches h fun u => (refl.frame (by rfl)).decideEnd _ _
  case exhaustionTimerExpiry => exact k.expireReaches h fun u => (refl.frame (by rfl)).decideEnd _ _
  case listenTimerExpiry => exact k.expire h fun u hu => k.active hu
  case statusTimerExpiry => exact k.expireReaches h fun u => (refl.frame (by rfl)).offerStatus
  case machineSilent => exact k.expireReaches h fun u => refl.becomeMachineSilent
  case choke => exact k.expireReaches h fun u => refl.setChoke
  case chokeCleared => exact k.expireReaches h fun u => refl.clearChoke
  -- the machine link and the console line
  case machineByteTimeout t => exact k.liveReaches h fun u => refl.machineError
  case machineFrameError t cause => exact k.liveReaches h fun u => by cases cause <;> exact refl.machineError
  case measure t p => exact k.liveReaches h fun u => by split <;> [exact refl.takeMeasure _; exact refl.machineError]
  case machineFrameSent t => exact k.liveReaches h fun u => refl.frame (by rfl)
  case consoleByteTimeout t => exact k.liveReaches h fun u => refl.consoleFrameFault
  case consoleFrameError t cause =>
    exact k.liveReaches h fun u => by cases cause <;> exact refl.consoleFrameFault
  case responseSent t => exact k.live h fun u hu => k.console _ hu
  -- console commands
  case unknown t tag code => exact k.consoleReaches h fun u => refl
  case configure t tag a =>
    exact k.command h fun u hu => withArgs_keeps hu fun a => k.handleConfigure a hu
  case join t tag a => exact k.command h fun u hu => withArgs_keeps hu fun _ => k.handleJoin hu
  case leave t tag a => exact k.command h fun u hu => withArgs_keeps hu fun _ => k.handleLeave hu
  case planBegin t tag a => exact k.consoleReaches h fun u => withArgs_reaches fun a => State.Reaches.handlePlanBegin u a
  case planHold t tag a => exact k.consoleReaches h fun u => withArgs_reaches fun a => State.Reaches.handlePlanHold u a
  case planEnd t tag a => exact k.consoleReaches h fun u => withArgs_reaches fun _ => State.Reaches.handlePlanEnd u
  case planDrop t tag a => exact k.consoleReaches h fun u => withArgs_reaches fun _ => State.Reaches.handlePlanDrop u
  case order t tag a => exact k.consoleReaches h fun u => withArgs_reaches fun a => State.Reaches.handleOrder u a
  case cancel t tag a => exact k.consoleReaches h fun u => withArgs_reaches fun a => refl.cancelOrder a
  case halt t tag a => exact k.consoleReaches h fun u => withArgs_reaches fun a => State.Reaches.handleHalt u a
  case clear t tag a => exact k.consoleReaches h fun u => withArgs_reaches fun a => State.Reaches.handleClear u a
  case overrideClear t tag a => exact k.consoleReaches h fun u => withArgs_reaches fun _ => refl.overrideClear
  case beltcap t tag a => exact k.consoleReaches h fun u => withArgs_reaches fun a => State.Reaches.handleBeltcap u a
  case remoteReset t tag a => exact k.consoleReaches h fun u => withArgs_reaches fun a => State.Reaches.handleRemoteReset u a
  case queryStation t tag a => exact k.consoleReaches h fun u => withArgs_reaches fun _ => refl
  case queryPeer t tag a => exact k.consoleReaches h fun u => withArgs_reaches fun a => State.Reaches.handleQueryPeer a u
  case queryHold t tag a => exact k.consoleReaches h fun u => withArgs_reaches fun a => State.Reaches.handleQueryHold a u
  case queryOrders t tag a => exact k.consoleReaches h fun u => withArgs_reaches fun _ => refl
  case queryFinished t tag a => exact k.consoleReaches h fun u => withArgs_reaches fun _ => refl
  case readReport t tag a =>
    exact k.command h fun u hu => withArgs_keeps hu fun _ => by
      unfold handleReadReport
      split <;> [exact hu; exact k.console _ hu]

/-- The step takes the command at the front of the queue, which no property of the link sees. -/
theorem KeptByEvents.step {P : State → Prop} (k : KeptByEvents P) {s s' : State} (h : P s) (e : step s = .next s') :
    P s' := by
  unfold Machine.step at e
  split at e
  · obtain rfl := Host.Outcome.next.inj e; exact h
  · exact k.exec _ (k.reaches (State.Reaches.refl.frame (by rfl)) h) e

end Sys2Proof.Machine

/-! ## Every command keeps the transmit queues -/

namespace Sys2Proof.Machine

/-- The raise after its attempt failed, before it is examined again (R46). -/
def Raise.returned (line : Option Attempt) (r : Raise) : Raise :=
  match line with
  | .some a => match a.content with
    | .raise t _ => if a.withdrawn then .none else .queued t
    | _ => r
  | .none => r

/-- The state in which a failed attempt has put its frame back (R7, R16, R46). -/
def State.returned (s : State) : State :=
  { s with link := s.link.returnFrame, share := { s.share with raise := s.share.raise.returned s.link.onLine } }

/-- After the frame has returned, a failed attempt is a matter of the signals (R48, R112, R117). -/
theorem State.attemptFailed_reaches (s : State) : s.returned.Reaches s.attemptFailed := by
  cases line : s.link.onLine with
  | none =>
    have e : s.attemptFailed = s := by simp only [State.attemptFailed, line]
    rw [e]
    refine Reaches.refl.frame ?_
    simp only [State.returned, State.core, State.transmits, Link.returnFrame, Raise.returned, line]
  | some a =>
    obtain ⟨c, w, b⟩ := a
    have same : (∀ x g, c ≠ .raise x g) → State.core { s with link := s.link.returnFrame } = s.returned.core := by
      intro h
      simp only [State.returned, State.core, State.transmits, Raise.returned, line]
    unfold State.attemptFailed
    simp only [line]
    split
    · rename_i x g
      unfold State.raiseFailed
      split
      · rename_i hb
        exact Reaches.refl.frame (by simp [State.returned, State.core, State.transmits, Raise.returned, line, hb])
      · rename_i hb
        refine Reaches.reviewRaise false (Reaches.refl.frame ?_)
        simp [State.returned, State.core, State.transmits, Raise.returned, line, hb]
    · have h1 : s.returned.Reaches { s with link := s.link.returnFrame } := Reaches.refl.frame (same (by simp))
      unfold State.claimFailed
      split
      · exact (h1.frame (by rfl)).signalReleased.claimRetest
      · exact (h1.frame (by rfl)).claimRetest
    · rename_i hr _
      exact Reaches.refl.frame (same hr)

theorem Link.returnFrame_line (l : Link) : l.returnFrame.onLine = none := by
  unfold Link.returnFrame
  split
  · assumption
  · split <;> [rfl; (split <;> rfl)]

theorem Link.returnFrame_txFaults (l : Link) : l.returnFrame.txFaults = l.txFaults := by
  unfold Link.returnFrame
  split <;> [rfl; (split <;> [rfl; (split <;> rfl)])]

/-- The state in which a frame that completes has left the line, before R12 and R19 (R14, R18). -/
def State.finished (hello : Bool) (s : State) : State :=
  { s with link := { s.link.finishFrame with
    ackDriven := false
    occupancy := if hello then .hello else .ownSent
    txFaults := s.link.finishFrame.txFaults - 1 } }

theorem State.completed_eq (hello acked : Bool) (s : State) :
    s.completed hello acked = ((s.finished hello).countUnheard acked).judgeTxFaults := rfl

theorem State.finished_queuesOk {s : State} (h : s.queuesOk) (hello : Bool) : (s.finished hello).queuesOk := by
  refine ⟨Link.ok_of_queues (Link.finishFrame_ok h.1) rfl rfl rfl rfl, fun tx => ?_⟩
  obtain ⟨urgent, normal, held, line⟩ := h.2 tx
  simp [State.finished, Link.finishFrame, urgent, normal, held]

theorem State.returned_queuesOk {s : State} (h : s.queuesOk) : s.returned.queuesOk := by
  refine ⟨Link.returnFrame_ok h.1, fun tx => ?_⟩
  obtain ⟨urgent, normal, held, line⟩ := h.2 tx
  simp [State.returned, Link.returnFrame, urgent, normal, held, line]

/-- A station with a frame on the line transmits. -/
theorem State.queuesOk.transmits {s : State} (h : s.queuesOk) (line : s.link.onLine.isSome = true) :
    s.transmits = true := by
  by_contra tx
  rw [(h.2 (by simpa using tx)).2.2.2] at line
  cases line

theorem State.attemptFailed_lineOk {s : State} (h : s.lineOk) : s.attemptFailed.lineOk := by
  refine s.attemptFailed_reaches.lineOk ((State.lineOk_iff _).mpr ⟨State.returned_queuesOk h.queues, fun tx => ?_⟩)
  exact (Link.returnFrame_txFaults s.link).symm ▸ h.2.2 tx

theorem State.abortAttempt_lineOk {s : State} (h : s.lineOk) : s.abortAttempt.lineOk := by
  unfold State.abortAttempt
  split
  · exact h
  · have ok := (State.attemptFailed_lineOk h).queues
    have line := s.attemptFailed_reaches.line_none s.link.returnFrame_line
    exact State.judgeTxFaults_lineOk ⟨Link.ok_of_queues ok.1 rfl rfl rfl rfl, ok.2⟩ fun _ _ => line

theorem State.startAttempt_lineOk {s : State} (h : s.lineOk) : s.startAttempt.lineOk := by
  unfold State.startAttempt
  split
  · rename_i g
    simp only [Bool.and_eq_true, Option.isNone_iff_eq_none] at g
    obtain ⟨tx, line⟩ := g
    split
    · rename_i c l hc
      have ok := Link.choose_ok h.1 line hc (arbitrationWord c.kind.urgent s.link.rank s.own)
      have faults : l.txFaults = s.link.txFaults := by
        obtain ⟨us, -, rfl⟩ | ⟨-, ns, -, rfl⟩ := Link.choose_cases hc <;> rfl
      have base : State.lineOk { s with link := { l with
          synced := true, occupancy := .unjudged
          onLine := some ⟨c, arbitrationWord c.kind.urgent s.link.rank s.own, false⟩ } } := by
        refine ⟨Link.ok_of_queues ok rfl rfl rfl rfl, fun h => ?_, fun _ => faults.symm ▸ h.2.2 tx⟩
        rw [State.transmits] at tx h; simp_all
      cases c <;> exact base
    · exact h
  · exact h

theorem State.completed_lineOk {s : State} (h : s.lineOk) (hello acked : Bool) : (s.completed hello acked).lineOk := by
  rw [State.completed_eq]
  have r : (s.finished hello).Reaches ((s.finished hello).countUnheard acked) := State.Reaches.refl.countUnheard acked
  exact State.judgeTxFaults_lineOk (r.queuesOk (State.finished_queuesOk h.queues hello)) fun _ _ => r.line_none rfl

theorem State.lowerDone_lineOk {s : State} (h : s.lineOk) (g : Nat) : (s.lowerDone g).lineOk := by
  have base : ∀ u : Share, State.lineOk { s with share := u } := fun _ => h
  unfold State.lowerDone
  dsimp only
  split
  · exact base _
  · rename_i l _
    split
    · exact ((State.Reaches.refl.signalWaiters l).yieldTest).lineOk (base _)
    · exact (State.Reaches.refl.drainTest.armDrain).lineOk (base _)

theorem State.raiseDone_lineOk {s : State} (h : s.lineOk) (x : Nat) : (s.raiseDone x).lineOk := by
  have base : ∀ u : Share, State.lineOk { s with share := u } := fun _ => h
  unfold State.raiseDone
  split
  · exact ((State.Reaches.refl.report ..).yieldTest).lineOk (base _)
  · dsimp only
    split
    · exact (State.Reaches.refl.abandonSettling .halt).lineOk (base _)
    · exact State.Reaches.refl.settleConflict.lineOk (base _)
  · exact h

/-- The STATUS timer starts and the listen timer stops (R172, R173). -/
def State.startStatus (s : State) : State :=
  { s with station := { s.station with statusTimer := some (s.now + Config.statusPeriod), listen := none } }

/-- The self-silence watch starts (R37). -/
def State.startWatch (s : State) : State :=
  { s with table := { s.table with watchStart := some s.now, watchDeadline := some (s.now + Config.selfSilence) } }

/-- The TALLY timer starts with a READY plan (R101). -/
def State.startTally (s : State) : State :=
  if s.readyPlan.isSome then { s with plan := { s.plan with tallyTimer := some (s.now + Config.tallyPeriod) } } else s

/-- What an intake does on entry to ACTIVE (R67, R68). -/
def State.intakeActive (s : State) : State := if s.isIntake then s.offerCapacity.tripAtActive else s

/-- JOINED, where a HELLO gave a cause (R172). -/
def State.reportJoin (cause : Option StartCause) (s : State) : State :=
  match cause with
  | some c => s.reportJoined c
  | none => s

/-- The entry to ACTIVE, in the order of R172. -/
theorem State.enterActive_eq (s : State) : s.enterActive =
    ((((s.setStation .active).offerStatus.startStatus.judgeTxFaults).startWatch.startTally.intakeActive).drainTest
      |>.refreshHeld.claimRetest).reportJoin s.station.helloCause := rfl

/-- The entry to ACTIVE is a matter of the signals but for the state and the judgement of R19. -/
theorem State.enterActive_reaches (s : State) :
    ∃ u, (s.setStation .active).Reaches u ∧ u.judgeTxFaults.Reaches s.enterActive := by
  refine ⟨_, (Reaches.refl.offerStatus).frame (u := (s.setStation .active).offerStatus.startStatus) (by rfl), ?_⟩
  have tally : ∀ {v w : State}, v.Reaches w → v.Reaches w.startTally := by
    intro v w h
    unfold State.startTally
    split
    · exact h.frame (by rfl)
    · exact h
  have intake : ∀ {v w : State}, v.Reaches w → v.Reaches w.intakeActive := by
    intro v w h
    unfold State.intakeActive
    split
    · exact h.offerCapacity.tripAtActive
    · exact h
  have join : ∀ {v w : State} (c : Option StartCause), v.Reaches w → v.Reaches (w.reportJoin c) := by
    intro v w c h
    cases c
    · exact h
    · exact h.report ..
  rw [State.enterActive_eq]
  exact join _ (intake (tally (Reaches.refl.frame (by rfl)))).drainTest.refreshHeld.claimRetest

theorem State.enterActive_lineOk {s : State} (h : s.lineOk) : s.enterActive.lineOk := by
  obtain ⟨u, hu, hv⟩ := s.enterActive_reaches
  refine hv.lineOk (State.judgeTxFaults_lineOk (hu.queuesOk ⟨h.1, fun tx => by cases tx⟩) fun _ many => ?_)
  refine hu.line_none ?_
  by_cases tx : s.transmits = true
  · have := h.2.2 tx
    rw [hu.txFaults_eq] at many
    exact absurd many (by simpa [State.setStation] using this)
  · exact (h.2.1 (by simpa using tx)).2.2.2

/-- The entry to JOINING is a matter of the signals but for the state and the counts that it clears. -/
theorem State.enterJoining_reaches (s : State) :
    ∃ u : State, u.Reaches s.enterJoining ∧ u.transmits = true ∧ u.share = s.share
      ∧ u.link = { s.link with txFaults := 0, rxFaults := 0, rxPoor := false, dupReported := false } := by
  refine ⟨{ s with
    link := { s.link with txFaults := 0, rxFaults := 0, rxPoor := false, dupReported := false }
    station := { s.station with state := .joining, joined := true, helloCause := some s.startCause } },
    ?_, rfl, rfl, rfl⟩
  exact ((State.Reaches.refl.holdOffClamp .state).offerPlain (c := .hello _) rfl).governorStart.resumeDrain.resumeHalt
    |>.offerOwedRelease.claimRetest

theorem State.enterJoining_lineOk {s : State} (h : s.lineOk) : s.enterJoining.lineOk := by
  obtain ⟨u, hu, tx, -, link⟩ := s.enterJoining_reaches
  refine hu.lineOk ⟨?_, fun e => absurd (tx.symm.trans e) (by decide), fun _ => by rw [link]; exact Nat.zero_lt_succ 159⟩
  rw [link]
  exact Link.ok_of_queues h.1 rfl rfl rfl rfl

theorem lineOk_keptByEvents : KeptByEvents State.lineOk where
  reaches h hs := h.lineOk hs
  console _ h := h
  cleared _ _ _ _ := ⟨Link.ok_of_empty rfl rfl rfl rfl, fun _ => ⟨rfl, rfl, rfl, rfl⟩, fun tx => by cases tx⟩
  started h := State.startAttempt_lineOk h
  failed h := State.attemptFailed_lineOk h
  aborted h := State.abortAttempt_lineOk h
  offline _ line := State.enterOffline_lineOk line
  completed hello acked h _ := State.completed_lineOk h hello acked
  raised hello acked h _ _ := State.raiseDone_lineOk (State.completed_lineOk h hello acked) _
  lowered hello acked h _ _ := State.lowerDone_lineOk (State.completed_lineOk h hello acked) _
  settled {s} h := by
    unfold State.settleRaise
    split <;> exact h
  active h := State.enterActive_lineOk h
  joining h _ := State.enterJoining_lineOk h

/-- Settles O57: the invariant is kept by the signals between blocks and by each event of the line. -/
theorem transmitQueuesInvariantIsKept : Obligations.TransmitQueuesInvariantIsKept := by
  intro s s' h e
  exact lineOk_keptByEvents.step h e

end Sys2Proof.Machine

/-! ## Every command keeps each own LOWER between the lowering's target and the grant (R16, R42, R48 to R57) -/

namespace Sys2Proof.Machine

/-! ### The LOWERs of a link -/

theorem Link.mem_lowers (l : Link) (n : Nat) : n ∈ l.lowers ↔
    (∃ a ∈ l.onLine, a.content.newGrant = some n) ∨ (∃ c ∈ l.held, c.newGrant = some n)
      ∨ ∃ c ∈ l.normal, c.newGrant = some n := by
  simp only [Link.lowers, List.mem_filterMap, List.mem_append, Option.mem_toList, Option.mem_def, Option.map_eq_some_iff,
    or_and_right, exists_or, or_assoc]
  simp

theorem Content.newGrant_eq_some {c : Content} {n : Nat} : c.newGrant = some n ↔ c = .lower n := by
  cases c <;> simp [Content.newGrant]

theorem Content.newGrant_of_kind {c : Content} (h : c.kind ≠ .lower) : c.newGrant = none := by
  cases c <;> first | rfl | exact absurd rfl h

/-- A single kind placed: where it stands, and that every other frame stands as it did (R14). -/
theorem Link.placeSingle_cases (c : Content) (l : Link) :
    (l.lineKind = some c.kind ∧ l.placeSingle c = { l with held := some c })
      ∨ (l.lineKind ≠ some c.kind ∧ l.placeSingle c = { l with normal := replaceKind c l.normal })
      ∨ (l.lineKind ≠ some c.kind ∧ l.placeSingle c = { l with normal := l.normal ++ [c] }) := by
  unfold Link.placeSingle
  split
  · exact .inl ⟨‹_›, rfl⟩
  · split
    · exact .inr (.inl ⟨‹_›, rfl⟩)
    · exact .inr (.inr ⟨‹_›, rfl⟩)

theorem mem_replaceKind {c d : Content} {l : List Content} (h : d ∈ replaceKind c l) : d = c ∨ d ∈ l := by
  induction l with
  | nil => cases h
  | cons e l ih =>
    unfold replaceKind at h
    split at h
    · exact (List.mem_cons.mp h).imp id (List.mem_cons_of_mem _)
    · rcases List.mem_cons.mp h with rfl | h
      · exact .inr (List.mem_cons_self ..)
      · exact (ih h).imp id (List.mem_cons_of_mem _)

theorem Link.placeSingle_mem {c d : Content} {l : Link} (h : d ∈ (l.placeSingle c).normal) : d = c ∨ d ∈ l.normal := by
  obtain ⟨-, e⟩ | ⟨-, e⟩ | ⟨-, e⟩ := l.placeSingle_cases c <;> rw [e] at h
  · exact .inr h
  · exact mem_replaceKind h
  · exact (List.mem_append.mp h).symm.imp List.mem_singleton.mp id

theorem Link.placeSingle_held {c d : Content} {l : Link} (h : d ∈ (l.placeSingle c).held) :
    (d = c ∧ l.lineKind = some c.kind) ∨ d ∈ l.held := by
  obtain ⟨line, e⟩ | ⟨-, e⟩ | ⟨-, e⟩ := l.placeSingle_cases c <;> rw [e] at h
  · exact .inl ⟨(Option.some.inj h).symm, line⟩
  · exact .inr h
  · exact .inr h

theorem Link.placeSingle_lowers {c : Content} {l : Link} {n : Nat} (h : n ∈ (l.placeSingle c).lowers) :
    c.newGrant = some n ∨ n ∈ l.lowers := by
  rw [Link.mem_lowers] at h ⊢
  obtain ⟨a, ha, e⟩ | ⟨d, hd, e⟩ | ⟨d, hd, e⟩ := h
  · rw [Link.placeSingle_onLine] at ha
    exact .inr (.inl ⟨a, ha, e⟩)
  · obtain ⟨rfl, -⟩ | hd := Link.placeSingle_held hd
    · exact .inl e
    · exact .inr (.inr (.inl ⟨d, hd, e⟩))
  · obtain rfl | hd := Link.placeSingle_mem hd
    · exact .inl e
    · exact .inr (.inr (.inr ⟨d, hd, e⟩))

theorem Link.withdraw_held {k : Kind} {l : Link} {c : Content} (h : c ∈ (l.withdraw k).held) : c ∈ l.held ∧ c.kind ≠ k := by
  simp only [Link.withdraw, Option.mem_def] at h
  split at h
  · rename_i d hd
    split at h
    · cases h
    · obtain rfl := Option.some.inj h
      exact ⟨hd, ‹_›⟩
  · cases h

theorem Link.withdraw_onLine {k : Kind} {l : Link} {a : Attempt} (h : a ∈ (l.withdraw k).onLine) :
    ∃ b ∈ l.onLine, a.content = b.content ∧ (b.content.kind ≠ k → a = b)
      ∧ (b.content.kind = k → a.withdrawn = true) := by
  simp only [Link.withdraw, Option.mem_def, Option.map_eq_some_iff] at h
  obtain ⟨b, hb, rfl⟩ := h
  refine ⟨b, hb, ?_⟩
  split <;> simp_all

theorem Link.withdraw_lowers {k : Kind} {l : Link} {n : Nat} (h : n ∈ (l.withdraw k).lowers) : n ∈ l.lowers := by
  rw [Link.mem_lowers] at h ⊢
  obtain ⟨a, ha, e⟩ | ⟨d, hd, e⟩ | ⟨d, hd, e⟩ := h
  · obtain ⟨b, hb, same, -⟩ := Link.withdraw_onLine ha
    exact .inl ⟨b, hb, same ▸ e⟩
  · exact .inr (.inl ⟨d, (Link.withdraw_held hd).1, e⟩)
  · exact .inr (.inr ⟨d, ((Link.withdraw_normal k l d).mp hd).1, e⟩)

/-! ### The invariant by its parts -/

/-- `State.lowersOk`, its parts named. -/
structure State.LowersBounded (s : State) : Prop where
  floor_le : s.share.floor ≤ s.share.grant
  between : ∀ n ∈ s.link.lowers, s.share.floor ≤ n ∧ n ≤ s.share.grant
  behind : ∀ a ∈ s.link.onLine, ∀ n ∈ a.content.newGrant, ∀ c ∈ s.link.held, ∀ m ∈ c.newGrant, m ≤ n
  alive : s.share.raise.alive = true → s.share.lowering = none ∧ s.share.yieldOwed = false
  owed : s.share.yieldOwed = true → s.share.raise = .none
  heldLower : ∀ c ∈ s.link.held, c.kind = .lower →
    (s.share.yieldOwed = true ∨ s.share.lowering.isSome = true) ∧ ∀ d ∈ s.link.normal, d.kind ≠ .raise
  heldRaise : ∀ c ∈ s.link.held, c.kind ≠ .raise
  announcing : s.share.raise.announcing = true → s.link.lowers = []
  lineRaise : ∀ a ∈ s.link.onLine, a.content.kind = .raise → s.share.raise.isSending a.withdrawn = true
  normalRaise : ∀ c ∈ s.link.normal, c.kind = .raise → s.share.raise.isQueued = true
  order : s.link.normal.Pairwise (fun c d => ¬ (c.kind = .raise ∧ d.kind = .lower))

theorem State.lowersOk_iff (s : State) : s.lowersOk ↔ s.LowersBounded :=
  ⟨fun ⟨a, b, c, d, e, f, g, h, i, j, k⟩ => ⟨a, b, c, d, e, f, g, h, i, j, k⟩,
    fun ⟨a, b, c, d, e, f, g, h, i, j, k⟩ => ⟨a, b, c, d, e, f, g, h, i, j, k⟩⟩

theorem Raise.alive_of_announcing {r : Raise} (h : r.announcing = true) : r.alive = true := by
  cases r with
  | none => cases h
  | queued t => cases h
  | sending t b => cases b <;> [rfl; cases h]
  | settling t d => rfl

theorem Raise.alive_of_queued {r : Raise} (h : r.isQueued = true) : r.alive = true := by
  cases r <;> first | rfl | cases h

theorem Raise.queued_not_sending {r : Raise} (h : r.isQueued = true) (b : Bool) : r.isSending b = false := by
  cases r <;> first | rfl | cases h

/-- Nothing that stands for a LOWER is a RAISE. -/
theorem Share.floor_of_none {u : Share} (h : u.lowering = none) : u.floor = u.grant := by
  simp [Share.floor, h]

namespace State.LowersBounded

variable {s t : State}

theorem of_parts (h : s.LowersBounded) (hn : t.link.normal = s.link.normal) (hh : t.link.held = s.link.held)
    (hl : t.link.onLine = s.link.onLine) (hg : t.share.grant = s.share.grant) (hr : t.share.raise = s.share.raise)
    (hy : t.share.yieldOwed = s.share.yieldOwed)
    (ht : t.share.lowering.map (·.target) = s.share.lowering.map (·.target)) : t.LowersBounded := by
  have floor : t.share.floor = s.share.floor := by
    cases a : s.share.lowering <;> cases b : t.share.lowering <;> simp_all [Share.floor]
  have lowering : t.share.lowering = none ↔ s.share.lowering = none := by
    cases a : s.share.lowering <;> cases b : t.share.lowering <;> simp_all
  have some : t.share.lowering.isSome = s.share.lowering.isSome := by
    cases a : s.share.lowering <;> cases b : t.share.lowering <;> simp_all
  have lowers : t.link.lowers = s.link.lowers := by simp only [Link.lowers, hn, hh, hl]
  constructor
  case floor_le => rw [floor, hg]; exact h.floor_le
  case between => rw [lowers, floor, hg]; exact h.between
  case behind => rw [hl, hh]; exact h.behind
  case alive => rw [hr, hy, lowering]; exact h.alive
  case owed => rw [hy, hr]; exact h.owed
  case heldLower => rw [hh, hy, some, hn]; exact h.heldLower
  case heldRaise => rw [hh]; exact h.heldRaise
  case announcing => rw [hr, lowers]; exact h.announcing
  case lineRaise => rw [hl, hr]; exact h.lineRaise
  case normalRaise => rw [hn, hr]; exact h.normalRaise
  case order => rw [hn]; exact h.order

theorem of_core (h : s.LowersBounded) (e : t.core = s.core) : t.LowersBounded := by
  simp only [State.core, Core.mk.injEq] at e
  obtain ⟨-, -, normal, held, line, -, grant, raise, owed, target, -⟩ := e
  exact h.of_parts normal held line grant raise owed target

/-- A CLAIM withdrawn (R16). -/
theorem withdrawClaim (h : s.LowersBounded) : (s.withdraw .claim).LowersBounded where
  floor_le := h.floor_le
  between n hn := h.between n (Link.withdraw_lowers hn)
  behind a ha n hn c hc m hm := by
    obtain ⟨b, hb, same, -⟩ := Link.withdraw_onLine ha
    exact h.behind b hb n (same ▸ hn) c (Link.withdraw_held hc).1 m hm
  alive := h.alive
  owed := h.owed
  heldLower c hc e :=
    have old := h.heldLower c (Link.withdraw_held hc).1 e
    ⟨old.1, fun d hd => old.2 d ((Link.withdraw_normal _ _ d).mp hd).1⟩
  heldRaise c hc := h.heldRaise c (Link.withdraw_held hc).1
  announcing e := List.eq_nil_iff_forall_not_mem.mpr fun n hn =>
    List.eq_nil_iff_forall_not_mem.mp (h.announcing e) n (Link.withdraw_lowers hn)
  lineRaise a ha e := by
    obtain ⟨b, hb, same, keep, -⟩ := Link.withdraw_onLine ha
    rw [same] at e
    obtain rfl := keep (by rw [e]; decide)
    exact h.lineRaise a hb e
  normalRaise c hc := h.normalRaise c ((Link.withdraw_normal _ _ c).mp hc).1
  order := h.order.sublist (List.filter_sublist ..)

/-- A RAISE withdrawn, the raise then at an end or abandoned (R16, R48). -/
theorem withdrawRaise (h : s.LowersBounded) {r : Raise} (dead : r.alive = false)
    (owed : s.share.yieldOwed = true → r = .none)
    (sending : ∀ b, s.share.raise.isSending b = true → r.isSending true = true) :
    ((s.withdraw .raise).setRaise r).LowersBounded where
  floor_le := h.floor_le
  between n hn := h.between n (Link.withdraw_lowers hn)
  behind a ha n hn c hc m hm := by
    obtain ⟨b, hb, same, -⟩ := Link.withdraw_onLine ha
    exact h.behind b hb n (same ▸ hn) c (Link.withdraw_held hc).1 m hm
  alive e := absurd (dead.symm.trans e) (by decide)
  owed := owed
  heldLower c hc e :=
    ⟨(h.heldLower c (Link.withdraw_held hc).1 e).1, fun d hd => ((Link.withdraw_normal _ _ d).mp hd).2⟩
  heldRaise c hc := h.heldRaise c (Link.withdraw_held hc).1
  announcing e := absurd (dead.symm.trans (Raise.alive_of_announcing e)) (by decide)
  lineRaise a ha e := by
    obtain ⟨b, hb, same, -, drop⟩ := Link.withdraw_onLine ha
    rw [same] at e
    rw [drop e]
    exact sending _ (h.lineRaise b hb e)
  normalRaise c hc e := absurd e ((Link.withdraw_normal _ _ c).mp hc).2
  order := h.order.sublist (List.filter_sublist ..)

/-- A frame placed: a RAISE for a raise that is QUEUED, a LOWER that carries the floor while no raise is on its way (R14). -/
theorem place (h : s.LowersBounded) (c : Content) (raise : c.kind = .raise → s.share.raise.isQueued = true)
    (lower : c.kind = .lower → c.newGrant = some s.share.floor ∧ s.share.raise.alive = false
      ∧ (s.share.yieldOwed = true ∨ s.share.lowering.isSome = true) ∧ ∀ d ∈ s.link.normal, d.kind ≠ .raise) :
    State.LowersBounded { s with link := s.link.placeSingle c } := by
  have kind : ∀ {n}, c.newGrant = some n → c.kind = .lower := by
    intro n e; rw [Content.newGrant_eq_some] at e; rw [e]; rfl
  have carried : ∀ {n}, c.newGrant = some n → n = s.share.floor := by
    intro n e
    have := (lower (kind e)).1
    rw [e] at this
    exact Option.some.inj this
  have unheld : c.kind = .raise → ∀ d ∈ s.link.held, d.kind ≠ .lower := by
    intro e d hd e'
    obtain ⟨lowering, owed⟩ := h.alive (Raise.alive_of_queued (raise e))
    have := (h.heldLower d hd e').1
    simp [lowering, owed] at this
  constructor
  case floor_le => exact h.floor_le
  case between =>
    intro n hn
    obtain e | old := Link.placeSingle_lowers hn
    · rw [carried e]; exact ⟨Nat.le_refl _, h.floor_le⟩
    · exact h.between n old
  case behind =>
    intro a ha n hn d hd m hm
    rw [Link.placeSingle_onLine] at ha
    obtain ⟨rfl, -⟩ | hd := Link.placeSingle_held hd
    · rw [carried hm]
      exact (h.between n ((Link.mem_lowers ..).mpr (.inl ⟨a, ha, hn⟩))).1
    · exact h.behind a ha n hn d hd m hm
  case alive => exact h.alive
  case owed => exact h.owed
  case heldLower =>
    intro d hd e
    replace hd := Link.placeSingle_held hd
    obtain ⟨rfl, -⟩ | hd := hd
    · obtain ⟨-, -, cause, none⟩ := lower e
      refine ⟨cause, fun d' hd' => ?_⟩
      obtain rfl | old := Link.placeSingle_mem hd'
      · rw [e]; decide
      · exact none d' old
    · refine ⟨(h.heldLower d hd e).1, fun d' hd' => ?_⟩
      obtain new | old := Link.placeSingle_mem hd'
      · exact fun e' => unheld (new ▸ e') d hd e
      · exact (h.heldLower d hd e).2 d' old
  case heldRaise =>
    intro d hd e
    obtain ⟨rfl, line⟩ | hd := Link.placeSingle_held hd
    · simp only [Link.lineKind, Option.map_eq_some_iff] at line
      obtain ⟨a, ha, e'⟩ := line
      have := h.lineRaise a ha (e'.trans e)
      rw [Raise.queued_not_sending (raise e)] at this
      cases this
    · exact h.heldRaise d hd e
  case announcing =>
    intro e
    refine List.eq_nil_iff_forall_not_mem.mpr fun n hn => ?_
    obtain e' | old := Link.placeSingle_lowers hn
    · have dead := (lower (kind e')).2.1
      exact absurd (dead.symm.trans (Raise.alive_of_announcing e)) (by decide)
    · rw [h.announcing e] at old; cases old
  case lineRaise =>
    intro a ha e
    rw [Link.placeSingle_onLine] at ha
    exact h.lineRaise a ha e
  case normalRaise =>
    intro d hd e
    obtain rfl | old := Link.placeSingle_mem hd
    · exact raise e
    · exact h.normalRaise d old e
  case order =>
    have byKinds : ∀ l l' : List Content, l'.map (fun d => d.kind) = l.map (fun d => d.kind) →
        l.Pairwise (fun c d => ¬ (c.kind = .raise ∧ d.kind = .lower)) →
        l'.Pairwise (fun c d => ¬ (c.kind = .raise ∧ d.kind = .lower)) := by
      intro l l' e p
      have q := List.pairwise_map (f := fun d : Content => d.kind) (R := fun j k => ¬ (j = .raise ∧ k = .lower))
        (l := l)
      have q' := List.pairwise_map (f := fun d : Content => d.kind) (R := fun j k => ¬ (j = .raise ∧ k = .lower))
        (l := l')
      rw [e] at q'
      exact q'.mp (q.mpr p)
    obtain ⟨-, e⟩ | ⟨-, e⟩ | ⟨-, e⟩ := s.link.placeSingle_cases c <;> dsimp only <;> rw [e]
    · exact h.order
    · exact byKinds _ _ (replaceKind_kinds c s.link.normal) h.order
    · refine List.pairwise_append.mpr ⟨h.order, List.pairwise_singleton .., ?_⟩
      rintro d hd b hb ⟨e1, e2⟩
      obtain rfl := List.mem_singleton.mp hb
      exact (lower e2).2.2.2 d hd e1

/-- The raise becomes QUEUED, from QUEUED or where nothing stands against it (R47, R48). -/
theorem queue (h : s.LowersBounded) (x : Nat) (ready : s.share.raise.isQueued = true
    ∨ (s.share.raise = .none ∧ s.share.yieldOwed = false ∧ s.share.lowering = none)) :
    (s.setRaise (.queued x)).LowersBounded := by
  have free : s.share.lowering = none ∧ s.share.yieldOwed = false := by
    obtain queued | ⟨-, owed, lowering⟩ := ready
    · exact h.alive (Raise.alive_of_queued queued)
    · exact ⟨lowering, owed⟩
  have unsent : ∀ b, s.share.raise.isSending b = false := by
    intro b
    obtain queued | ⟨none, -⟩ := ready
    · exact Raise.queued_not_sending queued b
    · rw [none]; rfl
  exact { floor_le := h.floor_le, between := h.between, behind := h.behind, heldLower := h.heldLower
          heldRaise := h.heldRaise, order := h.order
          alive := fun _ => free
          owed := fun e => absurd (free.2.symm.trans e) (by decide)
          announcing := fun e => by cases e
          lineRaise := fun a ha e => absurd ((unsent _).symm.trans (h.lineRaise a ha e)) (by decide)
          normalRaise := fun _ _ _ => rfl }

/-- A LOWER that carries the floor is offered while no raise is on its way (R53, R57). -/
theorem offerLower (h : s.LowersBounded) {g : Nat} (floor : g = s.share.floor) (dead : s.share.raise.alive = false)
    (cause : s.share.yieldOwed = true ∨ s.share.lowering.isSome = true) :
    (s.offerSingle (.lower g)).LowersBounded := by
  unfold State.offerSingle
  split
  · have base : (s.withdraw .raise).LowersBounded := by
      refine h.withdrawRaise dead h.owed fun b e => ?_
      cases r : s.share.raise with
      | sending x c => cases c <;> [(rw [r] at dead; cases dead); rfl]
      | _ => rw [r] at e; cases e
    exact base.place (.lower g) nofun fun _ =>
      ⟨by rw [floor]; rfl, dead, cause, fun d hd => ((Link.withdraw_normal _ _ d).mp hd).2⟩
  · exact h

end State.LowersBounded

/-- What the signals leave of the bound: the floor does not rise, and a new LOWER carries no more than it. -/
theorem State.Reaches.lowers {s t : State} (h : s.Reaches t) (hs : s.LowersBounded) :
    t.LowersBounded ∧ t.share.floor ≤ s.share.floor
      ∧ ∀ n ∈ t.link.lowers, n ∈ s.link.lowers ∨ n ≤ s.share.floor := by
  have offer : ∀ (u : State) (c : Content), (∀ n, c.newGrant = some n → n ≤ s.share.floor) →
      (∀ n ∈ u.link.lowers, n ∈ s.link.lowers ∨ n ≤ s.share.floor) →
      ∀ n ∈ (u.offerSingle c).link.lowers, n ∈ s.link.lowers ∨ n ≤ s.share.floor := by
    intro u c hc hu n hn
    unfold State.offerSingle at hn
    split at hn
    · obtain e | old := Link.placeSingle_lowers hn
      · exact .inr (hc n e)
      · split at old
        · exact hu n (Link.withdraw_lowers old)
        · exact hu n old
    · exact hu n hn
  have plain : ∀ {c : Content} {n : Nat}, c.kind ≠ .lower → c.newGrant = some n → n ≤ s.share.floor := by
    intro c n hc e
    rw [Content.newGrant_of_kind hc] at e; cases e
  induction h with
  | refl => exact ⟨hs, Nat.le_refl _, fun n hn => .inl hn⟩
  | @frame t u _ e ih =>
    obtain ⟨bounded, floor, lowers⟩ := ih
    have e' := e
    simp only [State.core, Core.mk.injEq] at e'
    obtain ⟨-, -, normal, held, line, -, grant, raise, owed, target, -⟩ := e'
    refine ⟨bounded.of_core e, ?_, ?_⟩
    · have : u.share.floor = t.share.floor := by
        cases a : t.share.lowering <;> cases b : u.share.lowering <;> simp_all [Share.floor]
      exact this ▸ floor
    · simpa only [Link.lowers, normal, held, line] using lowers
  | report l b c as _ ih =>
    rw [State.report_eq]
    exact ⟨ih.1.of_parts rfl rfl rfl rfl rfl rfl rfl, ih.2⟩
  | withdrawClaim _ ih =>
    obtain ⟨bounded, floor, lowers⟩ := ih
    exact ⟨bounded.withdrawClaim, floor, fun n hn => lowers n (Link.withdraw_lowers hn)⟩
  | @offerPlain t c _ e ih =>
    obtain ⟨bounded, floor, lowers⟩ := ih
    simp only [Kind.plain, Bool.and_eq_true, bne_iff_ne] at e
    refine ⟨?_, by rw [(t.offerSingle_keeps c).2.2.1]; exact floor, offer t c (fun n => plain e.2) lowers⟩
    unfold State.offerSingle
    split
    · dsimp only
      rw [if_neg e.2]
      exact bounded.place c (fun r => absurd r e.1.2) (fun r => absurd r e.2)
    · exact bounded
  | @offerListed t c _ e ih =>
    unfold State.offerListed
    split
    · split
      · obtain ⟨bounded, floor, lowers⟩ := ih
        have notLower : c.kind ≠ .lower := by intro r; rw [r] at e; cases e
        have notRaise : c.kind ≠ .raise := by intro r; rw [r] at e; cases e
        have none : c.newGrant = none := Content.newGrant_of_kind notLower
        have sub : ∀ n ∈ Link.lowers { t.link with normal := t.link.normal ++ [c] }, n ∈ t.link.lowers := by
          simp only [Link.lowers, List.filterMap_append, List.filterMap_cons, none, List.filterMap_nil, List.append_nil]
          exact fun n hn => hn
        refine ⟨?_, floor, fun n hn => lowers n (sub n hn)⟩
        exact { bounded with
          between := fun n hn => bounded.between n (sub n hn)
          heldLower := fun d hd r => ⟨(bounded.heldLower d hd r).1, List.forall_mem_append.mpr
            ⟨(bounded.heldLower d hd r).2, by simpa using notRaise⟩⟩
          announcing := fun r => List.eq_nil_iff_forall_not_mem.mpr fun n hn => by
            have := sub n hn
            rw [bounded.announcing r] at this; cases this
          normalRaise := List.forall_mem_append.mpr ⟨bounded.normalRaise, by simp [notRaise]⟩
          order := List.pairwise_append.mpr ⟨bounded.order, List.pairwise_singleton .., by simp [notLower]⟩ }
      · rw [State.reportTxqFull, State.report_eq]
        exact ⟨ih.1.of_parts rfl rfl rfl rfl rfl rfl rfl, ih.2⟩
    · exact ih
  | @offerUrgent t c _ e ih =>
    unfold State.offerUrgent
    split
    · exact ⟨ih.1.of_parts rfl rfl rfl rfl rfl rfl rfl, ih.2⟩
    · exact ih
  | @offerYield t _ owed lowering ih =>
    obtain ⟨bounded, floor, lowers⟩ := ih
    have g := Share.floor_of_none lowering
    refine ⟨bounded.offerLower g.symm (by rw [bounded.owed owed]; rfl) (.inl owed),
      by rw [(t.offerSingle_keeps _).2.2.1]; exact floor, offer t _ (fun n e => ?_) lowers⟩
    obtain rfl := Option.some.inj e
    exact g ▸ floor
  | @offerDrain t l _ lowering ih =>
    obtain ⟨bounded, floor, lowers⟩ := ih
    have g : l.target = t.share.floor := by simp [Share.floor, lowering]
    have dead : t.share.raise.alive = false := by
      by_contra r
      simp [(bounded.alive (by simpa using r)).1] at lowering
    refine ⟨bounded.offerLower g dead (.inr (by rw [lowering]; rfl)),
      by rw [(t.offerSingle_keeps _).2.2.1]; exact floor, offer t _ (fun n e => ?_) lowers⟩
    obtain rfl := Option.some.inj e
    exact g ▸ floor
  | endQueued _ r ih =>
    obtain ⟨bounded, floor, lowers⟩ := ih
    exact ⟨bounded.withdrawRaise rfl (fun _ => rfl) (fun b e => by rw [r] at e; cases e), floor,
      fun n hn => lowers n (Link.withdraw_lowers hn)⟩
  | abandonSending c _ r ih =>
    obtain ⟨bounded, floor, lowers⟩ := ih
    refine ⟨bounded.withdrawRaise rfl (fun owed => ?_) (fun _ _ => rfl), floor,
      fun n hn => lowers n (Link.withdraw_lowers hn)⟩
    have := bounded.owed owed
    rw [r] at this; cases this
  | endSettling _ r ih =>
    obtain ⟨bounded, floor, lowers⟩ := ih
    refine ⟨?_, floor, lowers⟩
    exact { floor_le := bounded.floor_le, between := bounded.between, behind := bounded.behind
            heldRaise := bounded.heldRaise, order := bounded.order
            alive := nofun, owed := fun _ => rfl, announcing := nofun
            heldLower := fun d hd e => by
              obtain ⟨cause, none⟩ := bounded.heldLower d hd e
              exact ⟨cause.imp (fun y => by simp [y]) id, none⟩
            lineRaise := fun a ha e => by have := bounded.lineRaise a ha e; rw [r] at this; cases this
            normalRaise := fun d hd e => by have := bounded.normalRaise d hd e; rw [r] at this; cases this }
  | @offerRaise t x _ tx ready ih =>
    obtain ⟨bounded, floor, lowers⟩ := ih
    refine ⟨?_, by rw [State.offerRaise, (State.offerSingle_keeps _ _).2.2.1]; exact floor,
      offer (t.setRaise _) _ (fun n => nofun) lowers⟩
    have base := bounded.queue x ready
    unfold State.offerRaise State.offerSingle
    split
    · exact base.place (.raise x t.share.grant) (fun _ => rfl) nofun
    · exact base
  | @lower t l y _ dead target owed ih =>
    obtain ⟨bounded, floor, lowers⟩ := ih
    have below : (Share.floor { t.share with lowering := some l, yieldOwed := y }) = l.target := rfl
    refine ⟨?_, target.trans floor, lowers⟩
    exact { behind := bounded.behind, heldRaise := bounded.heldRaise, order := bounded.order
            lineRaise := bounded.lineRaise, normalRaise := bounded.normalRaise, announcing := bounded.announcing
            floor_le := target.trans bounded.floor_le
            between := fun n hn => ⟨target.trans (bounded.between n hn).1, (bounded.between n hn).2⟩
            alive := fun e => absurd (dead.symm.trans e) (by decide)
            owed := fun e => bounded.owed (owed e)
            heldLower := fun d hd e => ⟨.inr rfl, (bounded.heldLower d hd e).2⟩ }

end Sys2Proof.Machine

namespace Sys2Proof.Machine

namespace State.LowersBounded

variable {s : State}

/-- Entry to a state that does not transmit, the line free: the queues are empty and no raise but a SENDING one is left. -/
theorem silence (h : s.LowersBounded) (tx : s.transmits = false) (line : s.link.onLine = none) :
    s.silence.LowersBounded := by
  have link : s.emptyQueues.shareSilenced.link = s.emptyQueues.link := State.shareSilenced_link tx
  have empty : s.emptyQueues.shareSilenced.link.lowers = [] := by
    rw [link]; simp [Link.lowers, State.emptyQueues, line]
  have share : s.emptyQueues.shareSilenced.share.grant = s.share.grant
      ∧ (s.emptyQueues.shareSilenced.share.raise.alive = true → s.share.raise.alive = true)
      ∧ s.emptyQueues.shareSilenced.share.yieldOwed = false
      ∧ s.emptyQueues.shareSilenced.share.lowering
        = s.share.lowering.map (fun l => { l with deadline := none, waitStation := false }) := by
    have silent : s.emptyQueues.transmits = false := tx
    unfold State.shareSilenced
    split
    · exact ⟨rfl, nofun, rfl, rfl⟩
    · rename_i x d e
      have ended : s.emptyQueues.abandonSettling .state
          = (s.emptyQueues.setRaise .none).reportRaiseYielded x .state := by
        simp only [State.abandonSettling, e]
        exact if_neg (ne_true_of_eq_false silent)
      rw [ended, State.reportRaiseYielded, State.report_eq]
      exact ⟨rfl, nofun, rfl, rfl⟩
    · exact ⟨rfl, id, rfl, rfl⟩
  obtain ⟨grant, raise, owed, lowering⟩ := share
  have floor : s.emptyQueues.shareSilenced.share.floor = s.share.floor := by
    simp only [Share.floor, lowering, grant]
    cases s.share.lowering <;> rfl
  refine (s.silence_reaches.lowers ?_).1
  constructor
  case floor_le => rw [floor, grant]; exact h.floor_le
  case between => rw [empty]; exact nofun
  case behind => rw [link]; exact fun a ha => by rw [State.emptyQueues, line] at ha; cases ha
  case alive => exact fun e => ⟨by rw [lowering, (h.alive (raise e)).1]; rfl, owed⟩
  case owed => rw [owed]; exact nofun
  case heldLower => rw [link]; exact nofun
  case heldRaise => rw [link]; exact nofun
  case announcing => exact fun _ => empty
  case lineRaise => rw [link]; exact fun a ha => by rw [State.emptyQueues, line] at ha; cases ha
  case normalRaise => rw [link]; exact nofun
  case order => rw [link]; exact .nil

theorem setStation (h : s.LowersBounded) (st : StationState) : (s.setStation st).LowersBounded :=
  h.of_parts rfl rfl rfl rfl rfl rfl rfl

theorem enterOffline (h : s.LowersBounded) (line : s.link.onLine = none) : s.enterOffline.LowersBounded := by
  obtain ⟨u, hu, e⟩ := s.enterOffline_reaches
  exact (e.lowers ((hu.lowers (h.setStation _)).1.silence hu.transmits_eq (hu.line_none line))).1

theorem judgeTxFaults (h : s.LowersBounded)
    (line : s.transmits = true → 160 ≤ s.link.txFaults → s.link.onLine = none) : s.judgeTxFaults.LowersBounded := by
  by_cases g : s.transmits = true ∧ 160 ≤ s.link.txFaults
  · unfold State.judgeTxFaults
    rw [if_pos (by simpa using g)]
    obtain ⟨u, e, hu⟩ := s.enterMuted_eq
    rw [e]
    exact (hu.lowers (h.setStation _)).1.silence hu.transmits_eq (hu.line_none (line g.1 g.2))
  · refine ((State.Reaches.refl.judgeTxFaults fun tx => ?_).lowers h).1
    by_contra c; exact g ⟨tx, by omega⟩

end State.LowersBounded

/-! ### The frame on the line: what is held behind it, and what it leaves -/

/-- With its frame on the line a kind is in the normal set no more, and what is held is of that kind (R14). -/
theorem Link.ok.held_kind {l : Link} (h : l.ok) {a : Attempt} (line : l.onLine = some a) :
    ∀ c ∈ l.held, c.kind = a.content.kind := by
  intro c hc
  have := (h.2.2.2.2.2.2 c hc).2
  rw [Link.lineKind, line] at this
  exact (Option.some.inj this).symm

theorem Link.ok.normal_kind {l : Link} (h : l.ok) {a : Attempt} (line : l.onLine = some a)
    (single : a.content.kind.single = true) : ∀ c ∈ l.normal, c.kind ≠ a.content.kind :=
  Link.normal_ne_line h (by rw [Link.lineKind, line]; rfl) single

namespace State.LowersBounded

variable {s : State} {a : Attempt}

/-- A RAISE on the line has nothing held behind it. -/
theorem held_none (h : s.LowersBounded) (q : s.link.ok) (line : s.link.onLine = some a)
    (e : a.content.kind = .raise) : s.link.held = none := by
  cases hh : s.link.held with
  | none => rfl
  | some c => exact absurd ((q.held_kind line c hh).trans e) (h.heldRaise c hh)

theorem finished_lowers {hello : Bool} {n : Nat} (hn : n ∈ (s.finished hello).link.lowers) :
    (∃ c ∈ s.link.held, c.newGrant = some n) ∨ ∃ c ∈ s.link.normal, c.newGrant = some n := by
  rw [Link.mem_lowers] at hn
  obtain ⟨b, hb, -⟩ | ⟨c, hc, -⟩ | ⟨c, hc, e⟩ := hn
  · cases hb
  · cases hc
  · obtain hc | hc := List.mem_append.mp hc
    · exact .inr ⟨c, hc, e⟩
    · refine .inl ⟨c, ?_, e⟩
      split at hc
      · obtain rfl := List.mem_singleton.mp hc; assumption
      · cases hc

/-- The frame on the line has completed and what was held behind it is queued (R14). -/
theorem finished (h : s.LowersBounded) (hello : Bool) : (s.finished hello).LowersBounded := by
  have lowers : ∀ n ∈ (s.finished hello).link.lowers, n ∈ s.link.lowers := fun n hn =>
    (Link.mem_lowers ..).mpr (.inr (finished_lowers hn))
  have normal : (s.finished hello).link.normal = s.link.normal ++ s.link.held.toList := by
    simp only [State.finished, Link.finishFrame]
    cases s.link.held <;> rfl
  exact { floor_le := h.floor_le
          alive := h.alive
          owed := h.owed
          between := fun n hn => h.between n (lowers n hn)
          behind := nofun
          heldLower := nofun
          heldRaise := nofun
          lineRaise := nofun
          announcing := fun e => List.eq_nil_iff_forall_not_mem.mpr fun n hn => by
            have := lowers n hn
            rw [h.announcing e] at this; cases this
          normalRaise := by
            rw [normal]
            refine List.forall_mem_append.mpr ⟨h.normalRaise, fun c hc e => ?_⟩
            exact absurd e (h.heldRaise c (Option.mem_toList.mp hc))
          order := by
            rw [normal]
            refine List.pairwise_append.mpr ⟨h.order, ?_, fun c hc d hd e => ?_⟩
            · cases s.link.held <;> simp
            · exact (h.heldLower d (Option.mem_toList.mp hd) e.2).2 c hc e.1 }

theorem returned_lowers {n : Nat} (hn : n ∈ s.returned.link.lowers) : n ∈ s.link.lowers := by
  have back : s.returned.link = s.link.returnFrame := rfl
  rw [back, Link.mem_lowers] at hn
  rw [Link.mem_lowers]
  unfold Link.returnFrame at hn
  split at hn
  · exact hn
  · rename_i b line
    split at hn
    · obtain ⟨_, ⟨⟩, -⟩ | ⟨_, ⟨⟩, -⟩ | ⟨c, hc, e⟩ := hn
      obtain hc | hc := List.mem_append.mp hc
      · split at hc
        · obtain rfl := List.mem_singleton.mp hc
          exact .inr (.inl ⟨_, ‹_›, e⟩)
        · cases hc
      · exact .inr (.inr ⟨c, hc, e⟩)
    · split at hn
      · obtain ⟨_, ⟨⟩, -⟩ | ⟨_, ⟨⟩, -⟩ | hn := hn
        exact .inr (.inr hn)
      · obtain ⟨_, ⟨⟩, -⟩ | ⟨_, ⟨⟩, -⟩ | ⟨c, hc, e⟩ := hn
        obtain rfl | hc := List.mem_cons.mp hc
        · cases held : s.link.held with
          | none => rw [held] at e; exact .inl ⟨b, line, e⟩
          | some d => rw [held] at e; exact .inr (.inl ⟨d, rfl, e⟩)
        · exact .inr (.inr ⟨c, hc, e⟩)

/-- What a failed attempt puts at the head of the normal set: nothing, or one frame of the kind that was on the line. -/
theorem returned_normal (q : s.link.ok) (line : s.link.onLine = some a) :
    s.link.returnFrame.normal = s.link.normal
      ∨ ∃ c, c.kind = a.content.kind ∧ s.link.returnFrame.normal = c :: s.link.normal
        ∧ (a.withdrawn = true → c ∈ s.link.held) := by
  have held := q.held_kind line
  unfold Link.returnFrame
  rw [line]
  dsimp only
  split
  · cases hh : s.link.held with
    | none => exact .inl rfl
    | some c => exact .inr ⟨c, held c hh, rfl, fun _ => rfl⟩
  · rename_i w
    split
    · exact .inl rfl
    · refine .inr ⟨_, ?_, rfl, fun e => absurd e w⟩
      cases hh : s.link.held with
      | none => rfl
      | some c => exact held c hh

theorem returned_held (line : s.link.onLine = some a) : s.link.returnFrame.held = none := by
  unfold Link.returnFrame
  rw [line]
  dsimp only
  split <;> [rfl; (split <;> rfl)]

/-- The raise after its attempt failed, by the kind of the frame and by its withdrawal (R46). -/
theorem returned_raise (line : s.link.onLine = some a) :
    (a.content.kind ≠ .raise ∧ s.returned.share.raise = s.share.raise)
      ∨ (a.content.kind = .raise ∧ a.withdrawn = true ∧ s.returned.share.raise = .none)
      ∨ (a.content.kind = .raise ∧ a.withdrawn = false ∧ ∃ x, s.returned.share.raise = .queued x) := by
  simp only [State.returned, Raise.returned, line]
  cases a.content <;> cases a.withdrawn <;> simp [Content.kind]

/-- The attempt on the line failed and its frame is back in its place (R7, R14, R16, R46). -/
theorem returned (h : s.LowersBounded) (q : s.link.ok) : s.returned.LowersBounded := by
  cases line : s.link.onLine with
  | none =>
    exact h.of_core (by simp [State.returned, State.core, State.transmits, Link.returnFrame, Raise.returned, line])
  | some a =>
    have noLine : s.returned.link.onLine = none := s.link.returnFrame_line
    have noHeld : s.returned.link.held = none := returned_held line
    have normal := returned_normal q line
    -- the raise was SENDING where a RAISE was on the line
    have wasSending : a.content.kind = .raise → s.share.raise.isSending a.withdrawn = true := h.lineRaise a line
    have sendingRaise : ∀ b, s.share.raise.isSending b = true → ∀ c ∈ s.link.normal, c.kind ≠ .raise := by
      intro b e c hc r
      have := Raise.queued_not_sending (h.normalRaise c hc r) b
      exact absurd (this.symm.trans e) (by decide)
    have unsent : a.withdrawn = false → s.share.raise.isSending a.withdrawn = true → s.share.raise.announcing = true := by
      intro w e
      rw [w] at e
      cases r : s.share.raise with
      | sending x c => cases c <;> [rfl; (rw [r] at e; cases e)]
      | _ => rw [r] at e; cases e
    have share : s.returned.share.grant = s.share.grant ∧ s.returned.share.yieldOwed = s.share.yieldOwed
      ∧ s.returned.share.lowering = s.share.lowering ∧ s.returned.share.floor = s.share.floor := ⟨rfl, rfl, rfl, rfl⟩
    obtain ⟨grant, yield, lowering, floor⟩ := share
    have empty : s.link.lowers = [] → s.returned.link.lowers = [] := fun e =>
      List.eq_nil_iff_forall_not_mem.mpr fun n hn => by
        have := returned_lowers hn
        rw [e] at this; cases this
    constructor
    case floor_le => exact h.floor_le
    case between => exact fun n hn => h.between n (returned_lowers hn)
    case behind => rw [noLine]; exact nofun
    case heldLower => rw [noHeld]; exact nofun
    case heldRaise => rw [noHeld]; exact nofun
    case lineRaise => rw [noLine]; exact nofun
    case alive =>
      obtain ⟨-, e⟩ | ⟨-, -, e⟩ | ⟨k, w, -⟩ := returned_raise line
      · rw [e]; exact h.alive
      · rw [e]; exact nofun
      · exact fun _ => h.alive (Raise.alive_of_announcing (unsent w (wasSending k)))
    case owed =>
      obtain ⟨-, e⟩ | ⟨-, -, e⟩ | ⟨k, w, -⟩ := returned_raise line
      · rw [e]; exact h.owed
      · rw [e]; exact fun _ => rfl
      · intro y
        have := (h.alive (Raise.alive_of_announcing (unsent w (wasSending k)))).2
        exact absurd (this.symm.trans y) (by decide)
    case announcing =>
      obtain ⟨-, e⟩ | ⟨-, -, e⟩ | ⟨-, -, x, e⟩ := returned_raise line
      · rw [e]; exact fun r => empty (h.announcing r)
      · rw [e]; exact nofun
      · rw [e]; exact nofun
    case normalRaise =>
      obtain ⟨k, e⟩ | ⟨k, w, e⟩ | ⟨-, -, x, e⟩ := returned_raise line
      · rw [e]
        obtain same | ⟨c, kind, cons, -⟩ := normal
        · exact same ▸ h.normalRaise
        · refine cons ▸ List.forall_mem_cons.mpr ⟨fun r => absurd (kind.symm.trans r) k, h.normalRaise⟩
      · obtain same | ⟨c, -, -, held⟩ := normal
        · exact same ▸ fun c hc r => absurd r (sendingRaise _ (wasSending k) c hc)
        · have := held w
          rw [h.held_none q line k] at this; cases this
      · rw [e]; exact fun _ _ _ => rfl
    case order =>
      obtain same | ⟨c, kind, cons, held⟩ := normal
      · exact same ▸ h.order
      · refine cons ▸ List.pairwise_cons.mpr ⟨?_, h.order⟩
        rintro d hd ⟨rc, ld⟩
        have k := kind.symm.trans rc
        by_cases w : a.withdrawn = true
        · have := held w
          rw [h.held_none q line k] at this; cases this
        · have none := h.announcing (unsent (by simpa using w) (wasSending k))
          cases d with
          | lower g =>
            have : g ∈ s.link.lowers := (Link.mem_lowers ..).mpr (.inr (.inr ⟨_, hd, rfl⟩))
            rw [none] at this; cases this
          | _ => cases ld

end State.LowersBounded

end Sys2Proof.Machine

namespace Sys2Proof.Machine

/-- The link as an attempt begins with the frame `c` under the word `w` (R6, R7). -/
def Link.carry (l : Link) (c : Content) (w : BitVec 9) : Link :=
  { l with synced := true, occupancy := .unjudged, onLine := some ⟨c, w, false⟩ }

namespace State.LowersBounded

variable {s : State} {a : Attempt}

/-- A frame leaves its queue for the line (R6, R46). -/
theorem startAttempt (h : s.LowersBounded) (q : s.link.ok) : s.startAttempt.LowersBounded := by
  unfold State.startAttempt
  split
  · rename_i g
    simp only [Bool.and_eq_true, Option.isNone_iff_eq_none] at g
    have line := g.2
    have noHeld := q.held_none line
    split
    · rename_i c l hc
      let w := arbitrationWord c.kind.urgent s.link.rank s.own
      have kinds : (l.carry c w).ok := Link.choose_ok q line hc _
      have held : l.held = none := by obtain ⟨us, -, rfl⟩ | ⟨-, ns, -, rfl⟩ := Link.choose_cases hc <;> exact noHeld
      have nothing : ∀ d, d ∉ (l.carry c w).held := fun d hd => nomatch held.symm.trans hd
      have suffix : l.normal.Sublist s.link.normal := by
        obtain ⟨us, -, rfl⟩ | ⟨-, ns, hn, rfl⟩ := Link.choose_cases hc
        · exact .refl _
        · rw [hn]; exact List.sublist_cons_self ..
      -- a frame with a grant, and a RAISE, comes from the head of the normal set
      have head : c.kind.urgent = false → s.link.normal = c :: l.normal := by
        intro u
        obtain ⟨us, hu, -⟩ | ⟨-, ns, hn, rfl⟩ := Link.choose_cases hc
        · have := q.1 c (by rw [hu]; exact List.mem_cons_self ..)
          exact absurd (u.symm.trans this) (by decide)
        · exact hn
      have lowers : ∀ n ∈ (l.carry c w).lowers, n ∈ s.link.lowers := by
        intro n hn
        rw [Link.mem_lowers] at hn ⊢
        obtain ⟨b, hb, e⟩ | ⟨d, hd, -⟩ | ⟨d, hd, e⟩ := hn
        · obtain rfl := Option.some.inj hb
          have lower : c = .lower n := Content.newGrant_eq_some.mp e
          exact .inr (.inr ⟨c, by rw [head (by rw [lower]; rfl)]; exact List.mem_cons_self .., e⟩)
        · exact absurd hd (nothing d)
        · exact .inr (.inr ⟨d, suffix.subset hd, e⟩)
      have queuedRaise : c.kind = .raise → s.share.raise.isQueued = true := fun k =>
        h.normalRaise c (by rw [head (by rw [k]; rfl)]; exact List.mem_cons_self ..) k
      -- the state before its block is told
      have base : c.kind ≠ .raise → State.LowersBounded { s with link := l.carry c w } := fun k =>
        { floor_le := h.floor_le, alive := h.alive, owed := h.owed
          between := fun n hn => h.between n (lowers n hn)
          behind := fun _ _ _ _ d hd => absurd hd (nothing d)
          heldLower := fun d hd => absurd hd (nothing d)
          heldRaise := fun d hd => absurd hd (nothing d)
          announcing := fun e => List.eq_nil_iff_forall_not_mem.mpr fun n hn => by
            have := lowers n hn
            rw [h.announcing e] at this; cases this
          lineRaise := fun b hb e => by obtain rfl := Option.some.inj hb; exact absurd e k
          normalRaise := fun d hd => h.normalRaise d (suffix.subset hd)
          order := h.order.sublist suffix }
      cases c with
      | raise t x =>
        have queued := queuedRaise rfl
        obtain ⟨lowering, owed⟩ := h.alive (Raise.alive_of_queued queued)
        have order := h.order
        rw [head rfl] at order
        have none : (l.carry (.raise t x) w).lowers = [] := by
          refine List.eq_nil_iff_forall_not_mem.mpr fun n hn => ?_
          obtain ⟨b, hb, e⟩ | ⟨d, hd, -⟩ | ⟨d, hd, e⟩ := (Link.mem_lowers ..).mp hn
          · obtain rfl := Option.some.inj hb; cases e
          · exact absurd hd (nothing d)
          · refine (List.pairwise_cons.mp order).1 d hd ⟨rfl, ?_⟩
            rw [Content.newGrant_eq_some.mp e]; rfl
        exact
          { floor_le := h.floor_le
            alive := fun _ => ⟨lowering, owed⟩
            owed := fun y => absurd (owed.symm.trans y) (by decide)
            between := fun n hn => h.between n (lowers n hn)
            behind := fun _ _ _ _ d hd => absurd hd (nothing d)
            heldLower := fun d hd => absurd hd (nothing d)
            heldRaise := fun d hd => absurd hd (nothing d)
            announcing := fun _ => none
            lineRaise := fun b hb _ => by obtain rfl := Option.some.inj hb; rfl
            normalRaise := fun d hd e => absurd e (kinds.normal_kind (a := ⟨.raise t x, _, _⟩) rfl rfl d hd)
            order := h.order.sublist suffix }
      | claim b => exact (base nofun).of_parts rfl rfl rfl rfl rfl rfl rfl
      | _ => exact base nofun
    · exact h
  · exact h

/-- The own RAISE has completed (R49, R50). -/
theorem raiseDone (h : s.LowersBounded) (line : s.link.onLine = none) (noHeld : s.link.held = none) (x : Nat) :
    (s.raiseDone x).LowersBounded := by
  unfold State.raiseDone
  split
  · rename_i t c e
    have base : State.LowersBounded { s with share := { s.share with raise := .none, yieldOwed := true } } :=
      { floor_le := h.floor_le, between := h.between, behind := h.behind, order := h.order, heldRaise := h.heldRaise
        alive := nofun, owed := fun _ => rfl, announcing := nofun
        heldLower := fun c hc => by rw [noHeld] at hc; cases hc
        lineRaise := fun a ha => by rw [line] at ha; cases ha
        normalRaise := fun d hd r => by have := h.normalRaise d hd r; rw [e] at this; cases this }
    exact ((State.Reaches.refl.report ..).yieldTest.lowers base).1
  · rename_i t e
    have base : (s.setRaise (.settling x (s.now + Config.raiseSettle))).LowersBounded :=
      { floor_le := h.floor_le, between := h.between, behind := h.behind, order := h.order, heldRaise := h.heldRaise
        alive := fun _ => h.alive (by rw [e]; rfl)
        owed := fun y => by have := h.owed y; rw [e] at this; cases this
        announcing := fun _ => h.announcing (by rw [e]; rfl)
        heldLower := fun c hc => by exact absurd hc (by simp [noHeld])
        lineRaise := fun a ha => by exact absurd ha (by simp [line])
        normalRaise := fun d hd r => by have := h.normalRaise d hd r; rw [e] at this; cases this }
    dsimp only
    split
    · exact ((State.Reaches.refl.abandonSettling _).lowers base).1
    · exact (State.Reaches.refl.settleConflict.lowers base).1
  · exact h

/-- The grant takes the new grant of a LOWER that completed (R54, R57): no other LOWER carries more. -/
theorem lowerDone (h : s.LowersBounded) (noHeld : s.link.held = none) {g : Nat}
    (above : s.share.floor ≤ g) (below : g ≤ s.share.grant) (most : ∀ n ∈ s.link.lowers, n ≤ g) :
    (s.lowerDone g).LowersBounded := by
  unfold State.lowerDone
  dsimp only
  split
  · rename_i e
    have same : g = s.share.grant := by rw [Share.floor_of_none e] at above; omega
    subst same
    exact { h with
      alive := fun r => ⟨e, rfl⟩
      owed := nofun
      heldLower := fun c hc => by rw [noHeld] at hc; cases hc }
  · rename_i l e
    have floor : s.share.floor = l.target := by simp [Share.floor, e]
    have dead : s.share.raise.alive = true → False := fun r => by
      have := (h.alive r).1
      rw [e] at this; cases this
    split
    · rename_i reached
      have base : State.LowersBounded { s with share := { s.share with grant := g, lowering := none } } :=
        { h with
          floor_le := Nat.le_refl g
          between := fun n hn => ⟨by have := (h.between n hn).1; show g ≤ n; omega, most n hn⟩
          alive := fun r => (dead r).elim
          heldLower := fun c hc => by rw [noHeld] at hc; cases hc }
      exact ((State.Reaches.refl.signalWaiters l).yieldTest.lowers base).1
    · have base : State.LowersBounded { s with share := { s.share with
          grant := g, lowering := some { l with deadline := none } } } :=
        { h with
          floor_le := floor ▸ above
          between := fun n hn => ⟨floor ▸ (h.between n hn).1, most n hn⟩
          alive := fun r => (dead r).elim
          heldLower := fun c hc => by rw [noHeld] at hc; cases hc }
      exact ((State.Reaches.refl.drainTest.armDrain).lowers base).1

/-- The settle deadline (R51). -/
theorem settleRaise (h : s.LowersBounded) : s.settleRaise.LowersBounded := by
  unfold State.settleRaise
  split
  · rename_i t d e
    obtain ⟨lowering, owed⟩ := h.alive (by rw [e]; rfl)
    have none := h.announcing (by rw [e]; rfl)
    have floor : Share.floor { s.share with grant := t, raise := .none } = t := Share.floor_of_none lowering
    exact
      { behind := h.behind, heldRaise := h.heldRaise, order := h.order, alive := nofun, owed := fun _ => rfl
        announcing := nofun, heldLower := h.heldLower
        floor_le := floor.le
        between := fun n hn => by rw [none] at hn; cases hn
        lineRaise := fun a ha r => by have := h.lineRaise a ha r; rw [e] at this; cases this
        normalRaise := fun c hc r => by have := h.normalRaise c hc r; rw [e] at this; cases this }
  · exact h

/-- With the frame of a LOWER off the line, no LOWER left carries more than it did. -/
theorem finished_most (h : s.LowersBounded) (q : s.link.ok) (line : s.link.onLine = some a) {g : Nat}
    (e : a.content = .lower g) (hello : Bool) : ∀ n ∈ (s.finished hello).link.lowers, n ≤ g := by
  intro n hn
  obtain ⟨c, hc, r⟩ | ⟨c, hc, r⟩ := finished_lowers hn
  · exact h.behind a line g (by rw [e]; rfl) c hc n r
  · have kind : c.kind = a.content.kind := by rw [Content.newGrant_eq_some.mp r, e]; rfl
    exact absurd kind (q.normal_kind line (by rw [e]; rfl) c hc)

end State.LowersBounded

/-- Of a station within R19 a completion leads by the signals alone from the line's own part. -/
theorem State.completed_reaches {s : State} (h : s.lineOk) (line : s.link.onLine.isSome = true) (hello acked : Bool) :
    (s.finished hello).Reaches (s.completed hello acked) := by
  have low := h.2.2 (h.queues.transmits line)
  refine (Reaches.refl.countUnheard acked).judgeTxFaults fun _ => ?_
  rw [(State.Reaches.refl.countUnheard acked).txFaults_eq]
  exact Nat.lt_of_le_of_lt (Nat.sub_le ..) low

/-- What a LOWER on the line leaves to its completion. -/
theorem State.LowersBounded.completed {s : State} (h : s.LowersBounded) (ok : s.lineOk) (line : s.link.onLine.isSome = true)
    (hello acked : Bool) : (s.completed hello acked).LowersBounded :=
  ((State.completed_reaches ok line hello acked).lowers (h.finished hello)).1

theorem State.completed_held_none {s : State} (ok : s.lineOk) (hello acked : Bool) :
    (s.completed hello acked).link.held = none :=
  (State.completed_lineOk ok hello acked).1.held_none (s.completed_line_none hello acked)

theorem lowersBounded_keptByEvents : KeptByEvents (fun s => s.lineOk ∧ s.LowersBounded) where
  reaches h hs := ⟨h.lineOk hs.1, (h.lowers hs.2).1⟩
  console _ h := ⟨h.1, h.2.of_parts rfl rfl rfl rfl rfl rfl rfl⟩
  cleared pending now c straps := ⟨lineOk_keptByEvents.cleared pending now c straps,
    ⟨Nat.le_refl 0, nofun, nofun, nofun, nofun, nofun, nofun, nofun, nofun, nofun, .nil⟩⟩
  started h := ⟨lineOk_keptByEvents.started h.1, h.2.startAttempt h.1.1⟩
  failed {s} h := ⟨lineOk_keptByEvents.failed h.1, (s.attemptFailed_reaches.lowers (h.2.returned h.1.1)).1⟩
  aborted {s} h := by
    refine ⟨lineOk_keptByEvents.aborted h.1, ?_⟩
    unfold State.abortAttempt
    split
    · exact h.2
    · have failed := (s.attemptFailed_reaches.lowers (h.2.returned h.1.1)).1
      have charged : State.LowersBounded { s.attemptFailed with link := { s.attemptFailed.link with
          occupancy := .aborted, txFaults := holdAt 255 s.attemptFailed.link.txFaults 4 } } :=
        failed.of_parts rfl rfl rfl rfl rfl rfl rfl
      exact charged.judgeTxFaults fun _ _ => s.attemptFailed_reaches.line_none s.link.returnFrame_line
  offline h line := ⟨lineOk_keptByEvents.offline h.1 line, h.2.enterOffline line⟩
  completed hello acked h line := ⟨State.completed_lineOk h.1 hello acked, h.2.completed h.1 line hello acked⟩
  raised {s a x g} hello acked h line e := by
    refine ⟨lineOk_keptByEvents.raised hello acked h.1 line e, ?_⟩
    exact (h.2.completed h.1 (by rw [line]; rfl) hello acked).raiseDone (s.completed_line_none hello acked)
      (State.completed_held_none h.1 hello acked) x
  lowered {s a g} hello acked h line e := by
    refine ⟨lineOk_keptByEvents.lowered hello acked h.1 line e, ?_⟩
    have r := State.completed_reaches h.1 (by rw [line]; rfl) hello acked
    obtain ⟨bounded, floor, lowers⟩ := r.lowers (h.2.finished hello)
    obtain ⟨above, below⟩ := h.2.between g ((Link.mem_lowers ..).mpr (.inl ⟨a, line, by rw [e]; rfl⟩))
    refine bounded.lowerDone (State.completed_held_none h.1 hello acked)
      (floor.trans above) (r.grant_eq ▸ below) fun n hn => ?_
    exact (lowers n hn).elim (h.2.finished_most h.1.1 line e hello n) fun le => le.trans above
  settled h := ⟨lineOk_keptByEvents.settled h.1, h.2.settleRaise⟩
  active {s} h := by
    refine ⟨lineOk_keptByEvents.active h.1, ?_⟩
    obtain ⟨u, hu, hv⟩ := s.enterActive_reaches
    refine (hv.lowers ((hu.lowers (h.2.setStation _)).1.judgeTxFaults fun _ many => hu.line_none ?_)).1
    by_cases tx : s.transmits = true
    · have := h.1.2.2 tx
      rw [hu.txFaults_eq] at many
      exact absurd many (by simpa [State.setStation] using this)
    · exact (h.1.2.1 (by simpa using tx)).2.2.2
  joining {s} h tx := by
    refine ⟨lineOk_keptByEvents.joining h.1 tx, ?_⟩
    obtain ⟨u, hu, -, share, link⟩ := s.enterJoining_reaches
    exact (hu.lowers (h.2.of_parts (by rw [link]) (by rw [link]) (by rw [link]) (by rw [share]) (by rw [share])
      (by rw [share]) (by rw [share]))).1

/-- Settles O58: the invariant is kept, beside O57's, by the signals between blocks and by each event of the line. -/
theorem lowersNeverRaiseTheGrant : Obligations.LowersNeverRaiseTheGrant := by
  intro s s' line h e
  exact s'.lowersOk_iff.mpr (lowersBounded_keptByEvents.step ⟨line, s.lowersOk_iff.mp h⟩ e).2

end Sys2Proof.Machine

namespace Sys2Proof.Machine

/-! ### The end of an occupancy, and the start of an attempt -/

theorem exec_occupancyEnd {s : State} (live : s.inReset = none) (t : Nat) :
    exec (.occupancyEnd t) s = .next (s.advance t).endOccupancy :=
  congrArg Host.Outcome.next (live_run t _ s live)

theorem exec_lineIdle {s : State} (live : s.inReset = none) (t : Nat) :
    exec (.lineIdle t) s = .next { s.advance t with link := { s.link with synced := true } } :=
  congrArg Host.Outcome.next (live_run t _ s live)

theorem exec_attemptStart {s : State} (live : s.inReset = none) (t : Nat) :
    exec (.attemptStart t) s = .next (s.advance t).startAttempt :=
  congrArg Host.Outcome.next (live_run t _ s live)

/-- Settles O4, by the two branches of the end of an occupancy. -/
theorem occupancyEndRanksTheStation : Obligations.OccupancyEndRanksTheStation := by
  intro t s live line
  refine ⟨fun unsynced => ?_, fun synced => ?_, exec_lineIdle live t⟩
  · rw [exec_occupancyEnd live]
    simp [State.endOccupancy, line, unsynced, State.advance]
  · rw [exec_occupancyEnd live]
    simp only [State.endOccupancy, advance_link, line, synced, Option.isSome_none, Bool.false_eq_true, if_false, if_true]
    cases s.link.occupancy <;> rfl

theorem Link.choose_urgent {l : Link} {c : Content} {us : List Content} (h : l.urgent = c :: us) :
    l.choose = some (c, { l with urgent := us }) := by
  simp [Link.choose, h]

theorem Link.choose_normal {l : Link} {c : Content} {ns : List Content} (hu : l.urgent = []) (hn : l.normal = c :: ns) :
    l.choose = some (c, { l with normal := ns }) := by
  simp [Link.choose, hu, hn]

theorem Link.choose_none {l : Link} (hu : l.urgent = []) (hn : l.normal = []) : l.choose = none := by
  simp [Link.choose, hu, hn]

theorem arbitrationWord_toNat (u : Bool) {rank : Nat} (h : rank ≤ 15) (j : StationNo) :
    (arbitrationWord u rank j).toNat = (if u then 256 else 0) + rank * 16 + j.val := by
  have := j.isLt
  rw [arbitrationWord, BitVec.toNat_ofNat]
  refine Nat.mod_eq_of_lt ?_
  cases u <;> simp <;> omega

/-- The number is the four low bits of the word. -/
theorem arbitrationWord_ne {u u' : Bool} {r r' : Nat} {j j' : StationNo} (h : r ≤ 15) (h' : r' ≤ 15) (ne : j ≠ j') :
    arbitrationWord u r j ≠ arbitrationWord u' r' j' := by
  intro e
  refine ne (Fin.ext ?_)
  have := congrArg BitVec.toNat e
  rw [arbitrationWord_toNat u h, arbitrationWord_toNat u' h'] at this
  have := j.isLt
  have := j'.isLt
  cases u <;> cases u' <;> simp only [Bool.false_eq_true, if_true, if_false] at this ⊢ <;> omega

/-! ### Bitwise contention (R1, R7) -/

/-- The number below bit `n + 1` is bit `n` and what stands below it. -/
theorem mod_two_pow_bit (v n : Nat) : v % 2 ^ (n + 1) = 2 ^ n * (v.testBit n).toNat + v % 2 ^ n := by
  rw [Nat.mod_pow_succ, Nat.add_comm, Nat.toNat_testBit]

theorem lineLevel_map {α : Type} (f : α → Bool) (l : List α) : lineLevel (l.map f) = l.any f := by
  simp [lineLevel]

/-- Of the words that contend, a word wins exactly where none of the others is above it in the bits that count. -/
theorem contend_lineLevels (n : Nat) : ∀ words : List Nat, ∀ w ∈ words,
    contend ((bitsOf n w).zip (lineLevels n words)) = if ∀ v ∈ words, v % 2 ^ n ≤ w % 2 ^ n then .won else .lost := by
  induction n with
  | zero => intro words w _; simp [bitsOf, lineLevels, contend, Nat.mod_one]
  | succ n ih =>
    intro words w hw
    have below (v : Nat) : v % 2 ^ n < 2 ^ n := Nat.mod_lt _ (Nat.two_pow_pos n)
    simp only [bitsOf, lineLevels, List.zip_cons_cons, contend, lineLevel_map]
    by_cases same : w.testBit n = words.any (·.testBit n)
    · have survives : w ∈ survivors n words := by
        simp only [survivors, lineLevel_map, List.mem_filter, beq_iff_eq]
        exact ⟨hw, same⟩
      rw [if_pos same, ih _ w survives]
      refine if_congr ?_ rfl rfl
      constructor
      · intro h v hv
        rw [mod_two_pow_bit v, mod_two_pow_bit w]
        by_cases stays : v.testBit n = words.any (·.testBit n)
        · have := h v (by
            simp only [survivors, lineLevel_map, List.mem_filter, beq_iff_eq]
            exact ⟨hv, stays⟩)
          rw [stays, same]; omega
        · have top : v.testBit n = false ∧ words.any (·.testBit n) = true := by
            cases e : v.testBit n
            · exact ⟨rfl, by simpa [e] using Ne.symm stays⟩
            · exact absurd (List.any_eq_true.mpr ⟨v, hv, e⟩).symm (by rw [← e]; exact stays)
          have := below v
          rw [top.1, same, top.2]; simp; omega
      · intro h v hv
        simp only [survivors, lineLevel_map, List.mem_filter, beq_iff_eq] at hv
        have := h v hv.1
        rw [mod_two_pow_bit v, mod_two_pow_bit w, hv.2, same] at this
        omega
    · have bit : w.testBit n = false := by
        by_contra e
        exact same (by rw [Bool.eq_true_of_not_eq_false e]; exact (List.any_eq_true.mpr ⟨w, hw, by simpa using e⟩).symm)
      obtain ⟨v, hv, e⟩ := List.any_eq_true.mp (by simpa [bit] using Ne.symm same : words.any (·.testBit n) = true)
      rw [if_neg same, bit, if_neg (by decide), if_neg]
      intro h
      have := h v hv
      have := below w
      rw [mod_two_pow_bit v, mod_two_pow_bit w, e, bit] at *
      simp at *; omega

/-- Settles O5: the queue's choice, the bits of the word, and the contention by induction on the bits that are left. -/
theorem attemptOffersTheUrgentHeadFirst : Obligations.AttemptOffersTheUrgentHeadFirst := by
  refine ⟨fun t s live line => ⟨fun c l tx rank chosen => ?_, fun idle => ?_⟩, fun words small w hw => ?_,
    fun u u' r r' j j' h h' ne => arbitrationWord_ne h h' ne⟩
  · have choose : s.link.choose = some (c, l) := by
      obtain ⟨us, hu, rfl⟩ | ⟨hu, ns, hn, rfl⟩ := chosen
      · exact Link.choose_urgent hu
      · exact Link.choose_normal hu hn
    refine ⟨_, arbitrationWord_toNat c.kind.urgent rank s.own, ?_⟩
    rw [exec_attemptStart live]
    simp only [State.startAttempt, advance_transmits, advance_link, tx, line, Option.isNone_none, Bool.and_self, if_true,
      choose, advance_own]
    cases c <;> rfl
  · rw [exec_attemptStart live, State.startAttempt, advance_transmits, advance_link]
    obtain mute | ⟨hu, hn⟩ := idle
    · simp [mute, State.advance]
    · simp [Link.choose_none hu hn, State.advance]
  · have whole : ∀ v ∈ words, v % 2 ^ 9 = v := fun v hv => Nat.mod_eq_of_lt (small v hv)
    rw [contend_lineLevels 9 words w hw, whole w hw]
    refine if_congr ?_ rfl rfl
    exact forall₂_congr fun v hv => by rw [whole v hv]

end Sys2Proof.Machine

/-! ## What reports and the claim's test leave unchanged, and the count of receive faults -/

namespace Sys2Proof.Machine

/-! ### Reports -/

theorem Console.enqueue_prefix (c : Console) (r : Report) : c.reports <+: (c.enqueue r).reports := by
  unfold Console.enqueue
  split
  · exact List.prefix_append ..
  · exact List.prefix_refl _

theorem Console.enqueue_reports {c : Console} {r : Report} (room : c.reports.length < 16) :
    (c.enqueue r).reports = c.reports ++ [r] := by
  rw [Console.enqueue, if_pos room]

/-- A report lengthens the queue by 1 at most. -/
theorem Console.enqueue_length_le (c : Console) (r : Report) :
    (c.enqueue r).reports.length ≤ c.reports.length + 1 := by
  unfold Console.enqueue
  split <;> simp

theorem State.report_prefix (l : Level) (b : Source) (c : Nat) (as : List Nat) (s : State) :
    s.console.reports <+: (s.report l b c as).console.reports := by
  rw [State.report_eq]
  dsimp only
  split
  · exact Console.enqueue_prefix ..
  · exact List.prefix_refl _

theorem State.report_reports {l : Level} {s : State} (b : Source) (c : Nat) (as : List Nat)
    (level : l.code ≤ s.station.reportLevel) (room : s.console.reports.length < 16) :
    (s.report l b c as).console.reports = s.console.reports ++ [⟨l, b, c, as.map reportWord⟩] := by
  rw [State.report_eq]
  dsimp only
  rw [if_pos level, Console.enqueue_reports room]

theorem State.report_length_le (l : Level) (b : Source) (c : Nat) (as : List Nat) (s : State) :
    (s.report l b c as).console.reports.length ≤ s.console.reports.length + 1 := by
  rw [State.report_eq]
  dsimp only
  split
  · exact Console.enqueue_length_le ..
  · omega

@[simp] theorem State.offerSingle_console (c : Content) (s : State) : (s.offerSingle c).console = s.console := by
  unfold State.offerSingle; split <;> rfl

@[simp] theorem State.offerUrgent_console (c : Content) (s : State) : (s.offerUrgent c).console = s.console := by
  unfold State.offerUrgent; split <;> rfl

theorem State.offerListed_prefix (c : Content) (s : State) :
    s.console.reports <+: (s.offerListed c).console.reports := by
  unfold State.offerListed
  split
  · split
    · exact List.prefix_refl _
    · exact State.report_prefix ..
  · exact List.prefix_refl _

/-- The signals between blocks append reports and take none away (R187). -/
theorem State.Reaches.reports {s t : State} (h : s.Reaches t) : s.console.reports <+: t.console.reports := by
  induction h with
  | refl => exact List.prefix_refl _
  | frame _ e ih =>
    have same : _ = _ := congrArg Core.reports e
    simp only [State.core] at same
    rwa [same]
  | report l b c as _ ih => exact ih.trans (State.report_prefix ..)
  | withdrawClaim _ ih => exact ih
  | offerPlain _ _ ih => rw [State.offerSingle_console]; exact ih
  | offerListed _ _ ih => exact ih.trans (State.offerListed_prefix ..)
  | offerUrgent _ _ ih => rw [State.offerUrgent_console]; exact ih
  | offerYield _ _ _ ih => rw [State.offerSingle_console]; exact ih
  | offerDrain _ _ ih => rw [State.offerSingle_console]; exact ih
  | endQueued _ _ ih => exact ih
  | abandonSending _ _ _ ih => exact ih
  | endSettling _ _ ih => exact ih
  | offerRaise x _ _ _ ih => rw [State.offerRaise, State.offerSingle_console]; exact ih
  | lower _ _ _ _ ih => exact ih

/-! ### The claim's test (R109, R112) -/

/-- `s` with the normal transmit set, the claim and the orders of `t`: all that the claim's test can change while no own
frame is on the line. -/
def State.withClaims (s t : State) : State :=
  { s with link := { s.link with normal := t.link.normal, held := t.link.held }, claim := t.claim, order := t.order }

/-- `t` comes of `s` by the claim unit's own movements, with no own frame on the line. -/
structure State.OnlyClaims (s t : State) : Prop where
  eq : t = s.withClaims t
  held : s.link.held = none → t.link.held = none

/-- With no own frame on the line an offer of a single kind is queued. -/
theorem Link.placeSingle_of_line_none {l : Link} (c : Content) (line : l.onLine = none) :
    l.placeSingle c = { l with
      normal := if l.normal.any (fun d => d.kind == c.kind) then replaceKind c l.normal else l.normal ++ [c] } := by
  unfold Link.placeSingle
  rw [if_neg (by simp [Link.lineKind, line])]
  split <;> rfl

namespace State.OnlyClaims

variable {s t u : State}

theorem refl : s.OnlyClaims s := ⟨rfl, id⟩

theorem trans (h : s.OnlyClaims t) (h' : t.OnlyClaims u) : s.OnlyClaims u :=
  ⟨h'.eq.trans (by rw [h.eq]; rfl), fun e => h'.held (h.held e)⟩

theorem line (h : s.OnlyClaims t) (line : s.link.onLine = none) : t.link.onLine = none := by
  rw [h.eq]; exact line

theorem setBlocked (b : Option BlockedReason) : s.OnlyClaims (s.setBlocked b) := ⟨rfl, id⟩

theorem offerSingle (c : Content) (notLower : c.kind ≠ .lower) (line : s.link.onLine = none) :
    s.OnlyClaims (s.offerSingle c) := by
  unfold State.offerSingle
  split
  · dsimp only
    rw [Link.placeSingle_of_line_none c line]
    exact ⟨rfl, id⟩
  · exact refl

theorem offerClaim (r : ClaimRequest) (line : s.link.onLine = none) : s.OnlyClaims (s.offerClaim r) :=
  have marked (u : ClaimUnit) : s.OnlyClaims { s with claim := u } := ⟨rfl, id⟩
  (marked _).trans (offerSingle _ nofun line)

theorem withdraw (k : Kind) (line : s.link.onLine = none) : s.OnlyClaims (s.withdraw k) :=
  ⟨by simp only [State.withdraw, State.withClaims, Link.withdraw, line, Option.map_none],
    fun e => by simp [State.withdraw, Link.withdraw, e]⟩

theorem examineRequest (line : s.link.onLine = none) : s.OnlyClaims s.examineRequest := by
  unfold State.examineRequest
  split
  · exact refl
  · split
    · exact setBlocked _
    · exact (setBlocked none).trans (offerClaim _ line)

theorem retestQueued (line : s.link.onLine = none) : s.OnlyClaims s.retestQueued := by
  unfold State.retestQueued
  split
  · exact refl
  · split
    · exact (withdraw .claim line).trans ⟨rfl, id⟩
    · split
      · split
        · exact refl
        · exact offerClaim _ line
      · exact offerClaim _ line

theorem claimRetest (line : s.link.onLine = none) : s.OnlyClaims s.claimRetest := by
  unfold State.claimRetest
  split
  · exact examineRequest line
  · exact retestQueued line
  · exact refl

end State.OnlyClaims

/-! ### Receive faults (R3, R11, R18, R21) -/

theorem State.listens_line {s : State} (h : s.listens = true) : s.link.onLine = none := by
  simp only [State.listens, Bool.and_eq_true, Option.isNone_iff_eq_none] at h
  exact h.1.2

/-- A receive fault below 96, or with RX_POOR set already, is counted and no more. -/
theorem State.countRxFault_of_quiet {s : State} (h : min 255 (s.link.rxFaults + 1) < 96 ∨ s.link.rxPoor = true) :
    s.countRxFault = { s with link := { s.link with rxFaults := min 255 (s.link.rxFaults + 1) } } := by
  unfold State.countRxFault
  rw [if_neg]
  · rfl
  · rintro ⟨many, clear⟩
    rw [holdAt] at many
    obtain few | poor := h
    · omega
    · exact absurd (clear.symm.trans poor) (by decide)

/-- The receive fault that brings the count to 96 sets RX_POOR and reports it; the claim's test follows. -/
theorem State.countRxFault_of_poor {s : State} (many : 96 ≤ min 255 (s.link.rxFaults + 1)) (clear : s.link.rxPoor = false) :
    s.countRxFault = State.claimRetest (State.reportRxPoor
      { s with link := { s.link with rxFaults := min 255 (s.link.rxFaults + 1), rxPoor := true } }) := by
  unfold State.countRxFault
  rw [if_pos ⟨many, clear⟩]
  rfl

/-- What stands for a fault of the line that judges an occupancy. -/
theorem exec_receiveFault {s : State} (live : s.inReset = none) (t : Nat) (cause : RxFault) :
    exec (.receiveFault t cause) s =
      .next (if s.listens then (s.advance t).lineFault (RxFault.crcGood cause) else s.advance t) :=
  congrArg Host.Outcome.next (live_run t _ s live)

/-- A frame taken from the line is received where the station listens, and nothing at all where it does not. -/
theorem exec_frameTaken_of_not_listens {c : Instr} {t : Nat} {j : StationNo} {k : Kind} {s : State}
    (h : c.frameTaken = some (t, j, k)) (live : s.inReset = none) (deaf : s.listens = false) :
    exec c s = .next (s.advance t) := by
  have ignore : ∀ {α : Type} (dest : Nat) (payload : Option α) (apply : α → State → State),
      s.live t (·.receive j k dest payload apply) = s.advance t := by
    intro α dest payload apply
    rw [live_run t _ s live]
    simp only [State.receive, advance_listens, deaf, Bool.false_eq_true, if_false]
  cases c <;> cases h <;> exact congrArg Host.Outcome.next (ignore _ _ _)

theorem RxFault.crcGood_eq (cause : RxFault) : RxFault.crcGood cause = decide (cause = .destination true) := by
  cases cause with
  | destination b => cases b <;> rfl
  | _ => rfl

/-- Settles O7: below 96 by `State.countRxFault_of_quiet`, at 96 by what the claim's test leaves unchanged. -/
theorem receiveFaultIsCounted : Obligations.ReceiveFaultIsCounted := by
  intro t cause s live n l
  have hears (on : s.listens = true) : exec (.receiveFault t cause) s = .next ((s.advance t).lineFault (RxFault.crcGood cause)) := by
    rw [exec_receiveFault live, on]; rfl
  let judged : State := { s with now := max s.now t, link := { l with rxFaults := s.link.rxFaults } }
  have start : (s.advance t).markOccupancy (RxFault.crcGood cause) .faulty = judged := by
    rw [RxFault.crcGood_eq]; rfl
  have quiet (h : n < 96 ∨ s.link.rxPoor = true) :
      (s.advance t).lineFault (RxFault.crcGood cause) = { s with now := max s.now t, link := l } := by
    rw [State.lineFault, start, State.countRxFault_of_quiet (s := judged) h]
  have poor (many : 96 ≤ n) (clear : s.link.rxPoor = false) :
      ∃ u : State, u = { s with
          now := max s.now t, link := { l with rxPoor := true }
          console := if 2 ≤ s.station.reportLevel then s.console.enqueue ⟨.warning, .link, 6, []⟩ else s.console }
        ∧ (s.advance t).lineFault (RxFault.crcGood cause) = u.claimRetest := by
    refine ⟨_, ?_, (congrArg State.countRxFault start).trans (State.countRxFault_of_poor many clear)⟩
    rw [State.reportRxPoor, State.report_eq]; rfl
  refine ⟨fun on h => by rw [hears on, quiet h], fun on many clear => ?_, fun on => ?_, fun deaf => ⟨?_, ?_⟩⟩
  · obtain ⟨u, hu, e⟩ := poor many clear
    refine ⟨_, hears on, ?_⟩
    have only := State.OnlyClaims.claimRetest (s := u) (by rw [hu]; exact State.listens_line (s := s) on)
    rw [e]
    exact only.eq.trans (by rw [State.withClaims, hu])
  · refine ⟨_, hears on, ?_⟩
    by_cases h : n < 96 ∨ s.link.rxPoor = true
    · rw [quiet h]; simp [State.listens, l]
    · simp only [not_or, Nat.not_lt, Bool.not_eq_true] at h
      obtain ⟨u, hu, e⟩ := poor h.1 h.2
      have only := State.OnlyClaims.claimRetest (s := u) (by rw [hu]; exact State.listens_line (s := s) on)
      rw [e, only.eq, State.withClaims, hu]
      simp [State.listens, l]
  · rw [exec_receiveFault live, deaf]; rfl
  · exact fun c j k taken => exec_frameTaken_of_not_listens taken live deaf

end Sys2Proof.Machine

/-! ## A good frame taken from the line (R5, R11, R21, R25, R26) -/

namespace Sys2Proof.Machine

/-! ### The payloads that the permitted lengths give -/

theorem readHello_isSome : ∀ {p : Bytes}, p.length = 8 → ∃ b, readHello p = some b
  | [_, _, _, _, _, _, _, _], _ => ⟨_, rfl⟩

theorem readBye_isSome : ∀ {p : Bytes}, p.length = 1 → ∃ b, readBye p = some b
  | [_], _ => ⟨_, rfl⟩

theorem readStatus_isSome : ∀ {p : Bytes}, p.length = 28 → ∃ b, readStatus p = some b
  | [_, _, _, _, _, _, _, _, _, _, _, _, _, _, _, _, _, _, _, _, _, _, _, _, _, _, _, _], _ => ⟨_, rfl⟩

theorem readRaise_isSome : ∀ {p : Bytes}, p.length = 4 → ∃ b, readRaise p = some b
  | [_, _, _, _], _ => ⟨_, rfl⟩

theorem readWord_isSome : ∀ {p : Bytes}, p.length = 2 → ∃ b, readWord p = some b
  | [_, _], _ => ⟨_, rfl⟩

theorem readClaim_isSome : ∀ {p : Bytes}, p.length = 6 → ∃ b, readClaim p = some b
  | [_, _, _, _, _, _], _ => ⟨_, rfl⟩

theorem readRelease_isSome : ∀ {p : Bytes}, p.length = 2 → ∃ b, readRelease p = some b
  | [_, _], _ => ⟨_, rfl⟩

theorem readReason_isSome : ∀ {p : Bytes}, p.length = 1 → ∃ b, readReason p = some b
  | [_], _ => ⟨_, rfl⟩

theorem readPairs_isSome : ∀ {n : Nat} {p : Bytes}, p.length = 5 * n → ∃ ps, readPairs p = some ps ∧ ps.length = n
  | 0, [], _ => ⟨[], rfl, rfl⟩
  | n + 1, _ :: _ :: _ :: _ :: _ :: rest, h => by
    obtain ⟨ps, e, l⟩ := readPairs_isSome (n := n) (p := rest) (by simp at h; omega)
    exact ⟨_ :: ps, by rw [readPairs, e]; rfl, by simp [l]⟩

theorem readTally_isSome : ∀ {p : Bytes}, tallyLength p.length = true → ∃ b, readTally p = some b
  | [], h | [_], h | [_, _], h | [_, _, _], h => by simp [tallyLength] at h
  | _ :: _ :: _ :: _ :: rest, h => by
    simp only [tallyLength, List.length_cons, Bool.and_eq_true, decide_eq_true_eq] at h
    obtain ⟨ps, e, l⟩ := readPairs_isSome (n := rest.length / 5) (p := rest) (by omega)
    have count : 1 ≤ ps.length ∧ ps.length ≤ 12 := by omega
    exact ⟨⟨_, ps⟩, by rw [readTally, e]; exact if_pos count⟩

/-! ### The link controller's part (R11, R21) -/

/-- The state in which the frame is handed on: the occupancy marked and the frame counted. -/
def State.received (k : Kind) (s : State) : State :=
  (s.markOccupancy true (if k = .hello then .hello else .taken)).countRxGood

/-- The console after the frame is counted: LINK_RECOVERED is reported where RX_POOR is cleared. -/
def State.heardConsole (s : State) : Console :=
  if s.link.rxFaults - 1 < 64 ∧ s.link.rxPoor = true ∧ 3 ≤ s.station.reportLevel
    then s.console.enqueue ⟨.info, .link, 4, []⟩ else s.console

theorem State.heardConsole_of_quiet {s : State} (h : s.link.rxPoor = false ∨ 64 ≤ s.link.rxFaults - 1) :
    s.heardConsole = s.console := by
  rw [State.heardConsole, if_neg]
  rintro ⟨few, poor, -⟩
  obtain clear | many := h
  · exact absurd (clear.symm.trans poor) (by decide)
  · omega

theorem State.heardConsole_length_le (s : State) : s.heardConsole.reports.length ≤ s.console.reports.length + 1 := by
  unfold State.heardConsole
  split
  · exact Console.enqueue_length_le ..
  · omega

/-- The link controller counts the frame; the claim's test may follow (R109). -/
theorem State.received_onlyClaims (t : Nat) (k : Kind) {s : State} (line : s.link.onLine = none) :
    State.OnlyClaims { s.heard t k with console := s.heardConsole } ((s.advance t).received k) := by
  unfold State.received State.countRxGood
  by_cases clears : s.link.rxFaults - 1 < 64 ∧ s.link.rxPoor = true
  · refine (if_pos (c := _ ∧ _) clears).symm ▸ ?_
    obtain ⟨few, poor⟩ := clears
    have start : { s.heard t k with console := s.heardConsole } = State.reportLinkRecovered
        { s.heard t k with link := { (s.heard t k).link with rxPoor := false } } := by
      rw [State.reportLinkRecovered, State.report_eq]
      simp only [State.heard, State.heardConsole, poor, few, Nat.not_le.mpr few, decide_false, Bool.and_false, true_and]
      rfl
    rw [start]
    exact State.OnlyClaims.claimRetest (by rw [State.reportLinkRecovered, State.report_eq]; exact line)
  · refine (if_neg (c := _ ∧ _) clears).symm ▸ ?_
    have quiet : s.link.rxPoor = false ∨ 64 ≤ s.link.rxFaults - 1 := by
      by_contra c
      simp only [not_or, Bool.not_eq_false, Nat.not_le] at c
      exact clears ⟨c.2, c.1⟩
    have poor : (s.link.rxPoor && decide (64 ≤ s.link.rxFaults - 1)) = s.link.rxPoor := by
      obtain clear | many := quiet
      · rw [clear]; rfl
      · simp [many]
    have start : { s.heard t k with console := s.heardConsole } = { s with
        now := max s.now t
        link := { s.link with
          ackDriven := s.transmits, occupancy := if k = .hello then .hello else .taken
          rxFaults := s.link.rxFaults - 1 } } := by
      rw [State.heardConsole_of_quiet quiet, State.heard, poor]
    rw [start]
    exact .refl

theorem State.OnlyClaims.mask {s t : State} (h : s.OnlyClaims t) : t.mask = s.mask := by
  rw [h.eq]; rfl

theorem State.received_mask (t : Nat) (k : Kind) {s : State} (line : s.link.onLine = none) :
    ((s.advance t).received k).mask = { s.heard t k with console := s.heardConsole }.mask :=
  (State.received_onlyClaims t k line).mask

/-- The console apart from its reports is not the link controller's. -/
theorem State.heardConsole_mask (s u : State) (h : u.console = s.console) :
    { u with console := s.heardConsole }.mask = u.mask := by
  have blank (r : Report) : { s.console.enqueue r with reports := [], lost := 0, attention := false }
      = { s.console with reports := [], lost := 0, attention := false } := by
    unfold Console.enqueue; split <;> rfl
  simp only [State.mask, State.heardConsole, h]
  split
  · rw [blank]
  · rfl

end Sys2Proof.Machine

/-! ## What a good frame does to the station table (R25, R26) -/

namespace Sys2Proof.Machine

/-! ### Entries -/

@[simp] theorem State.entry_setEntry_same (s : State) (j : StationNo) (e : PeerEntry) : (s.setEntry j e).entry j = e := by
  simp [State.entry]

theorem State.entry_setEntry_ne (s : State) {i j : StationNo} (e : PeerEntry) (h : i ≠ j) :
    (s.setEntry j e).entry i = s.entry i := by
  have : j.val ≠ i.val := fun e => h (Fin.ext e.symm)
  simp [State.entry, this]

theorem State.entry_of_mask {s t : State} (h : s.mask = t.mask) (j : StationNo) : s.entry j = t.entry j := by
  rw [State.entry, State.table_of_mask h]; rfl

theorem State.ackDriven_of_mask {s t : State} (h : s.mask = t.mask) : s.link.ackDriven = t.link.ackDriven := by
  have e : s.mask.link.ackDriven = t.mask.link.ackDriven := by rw [h]
  exact e

/-- The presence after a frame of a kind (R26). -/
def Kind.presence (k : Kind) : Presence := if k = .bye then .left else .present

/-- `u` comes of `s` by a frame of station `j` and kind `k`: that entry alone is touched, and heard now. -/
structure State.Refreshed (j : StationNo) (k : Kind) (s u : State) : Prop where
  presence : (u.entry j).presence = k.presence
  lastHeard : (u.entry j).lastHeard = s.now
  others : ∀ i, i ≠ j → u.entry i = s.entry i
  ack : u.link.ackDriven = s.link.ackDriven
  rxFaults : u.link.rxFaults = s.link.rxFaults

namespace State.Refreshed

variable {s u v : State} {j : StationNo} {k : Kind}

theorem mask (h : s.Refreshed j k u) (e : v.mask = u.mask) : s.Refreshed j k v where
  presence := by rw [State.entry_of_mask e]; exact h.presence
  lastHeard := by rw [State.entry_of_mask e]; exact h.lastHeard
  others i hi := by rw [State.entry_of_mask e]; exact h.others i hi
  ack := (State.ackDriven_of_mask e).trans h.ack
  rxFaults := (State.rxFaults_of_mask e).trans h.rxFaults

/-- What changes neither the table nor the link. -/
theorem frame (h : s.Refreshed j k u) (table : v.table = u.table) (link : v.link = u.link) : s.Refreshed j k v where
  presence := by rw [State.entry, table]; exact h.presence
  lastHeard := by rw [State.entry, table]; exact h.lastHeard
  others i hi := by rw [State.entry, table]; exact h.others i hi
  ack := by rw [link]; exact h.ack
  rxFaults := by rw [link]; exact h.rxFaults

/-- A change of neither the table nor the link, and signals after it. -/
theorem mask_frame {w : State} (h : s.Refreshed j k u) (e : v.mask = w.mask) (table : w.table = u.table)
    (link : w.link = u.link) : s.Refreshed j k v :=
  (h.frame table link).mask e

theorem setEntry {e : PeerEntry} (presence : e.presence = k.presence) (heard : e.lastHeard = s.now) :
    s.Refreshed j k (s.setEntry j e) where
  presence := by rw [State.entry_setEntry_same]; exact presence
  lastHeard := by rw [State.entry_setEntry_same]; exact heard
  others i hi := State.entry_setEntry_ne s e hi
  ack := rfl
  rxFaults := rfl

theorem setMismatch (m : Option Nat) (h : s.Refreshed j k u) :
    s.Refreshed j k (u.setEntry j { u.entry j with mismatch := m }) where
  presence := by rw [State.entry_setEntry_same]; exact h.presence
  lastHeard := by rw [State.entry_setEntry_same]; exact h.lastHeard
  others i hi := (State.entry_setEntry_ne u _ hi).trans (h.others i hi)
  ack := h.ack
  rxFaults := h.rxFaults

theorem capCheck (h : s.Refreshed j k u) : s.Refreshed j k (u.capCheck j) := by
  unfold State.capCheck
  dsimp only
  split
  · split
    · exact h
    · split
      · split
        · exact h.setMismatch none
        · split
          · exact h
          · exact (h.setMismatch _).mask (report_mask ..)
      · exact h.setMismatch none
  · exact h

end State.Refreshed

/-- A record of fields leaves the presence and the last-heard time. -/
def PeerEntry.KeepsPresence (record : PeerEntry → PeerEntry) : Prop :=
  ∀ e, (record e).presence = e.presence ∧ (record e).lastHeard = e.lastHeard

namespace PeerEntry.KeepsPresence

theorem id : KeepsPresence id := fun _ => ⟨rfl, rfl⟩

theorem recordHello (c : StartCause) (b : HelloBody) : KeepsPresence (·.recordHello c b) := by
  intro e
  simp only [PeerEntry.recordHello]
  split <;> split <;> exact ⟨rfl, rfl⟩

theorem recordStatus (b : StatusBody) (x : Option Nat) (t : Nat) : KeepsPresence (·.recordStatus b x t) := by
  intro e
  simp only [PeerEntry.recordStatus]
  split <;> exact ⟨rfl, rfl⟩

theorem recordRaise (x g t : Nat) : KeepsPresence (·.recordRaise x g t) := fun _ => ⟨rfl, rfl⟩

theorem recordLower (g : Nat) : KeepsPresence (·.recordLower g) := fun _ => ⟨rfl, rfl⟩

theorem recordClaim (b : ClaimBody) (t : Nat) : KeepsPresence (·.recordClaim b t) := fun _ => ⟨rfl, rfl⟩

theorem recordPlanId (id : Nat) : KeepsPresence (fun e => { e with planId := id }) := fun _ => ⟨rfl, rfl⟩

theorem recordRelease (h l : Nat) : KeepsPresence (·.recordRelease h l) := by
  intro e
  simp only [PeerEntry.recordRelease]
  split <;> exact ⟨rfl, rfl⟩

end PeerEntry.KeepsPresence

theorem PeerEntry.hear_presence (k : Kind) (t : Nat) (e : PeerEntry) :
    (e.hear (k == .bye) t).presence = k.presence ∧ (e.hear (k == .bye) t).lastHeard = t := by
  cases k <;> exact ⟨rfl, rfl⟩

theorem State.setEntry_hear_refreshed (k : Kind) (s : State) (j : StationNo) {record : PeerEntry → PeerEntry}
    (keeps : PeerEntry.KeepsPresence record) :
    s.Refreshed j k (s.setEntry j (record ((s.entry j).hear (k == .bye) s.now))) :=
  have ⟨presence, heard⟩ := PeerEntry.hear_presence k s.now (s.entry j)
  .setEntry ((keeps _).1.trans presence) ((keeps _).2.trans heard)

/-- A kind that records no capacity changes its sender's entry, and the rest by its change signal. -/
theorem State.tableTake_mask (s : State) (j : StationNo) (bye : Bool) (record : PeerEntry → PeerEntry) (f : Found) :
    (s.tableTake j bye record false f).mask = (s.setEntry j (record ((s.entry j).hear bye s.now))).mask :=
  signalIfChanged_mask ..

/-- A frame with its values in range (R25). -/
theorem State.tableTake_refreshed (k : Kind) {bye : Bool} (hk : (k == .bye) = bye) (s : State) (j : StationNo)
    {record : PeerEntry → PeerEntry} (keeps : PeerEntry.KeepsPresence record) (check : Bool) (f : Found) :
    s.Refreshed j k (s.tableTake j bye record check f) := by
  subst hk
  have heard := s.setEntry_hear_refreshed k j keeps
  unfold State.tableTake
  dsimp only
  split
  · exact heard.capCheck.mask (signalIfChanged_mask ..)
  · exact heard.mask (signalIfChanged_mask ..)

/-- A frame with a value out of range (R35). -/
theorem State.tableReject_refreshed (k : Kind) (s : State) (j : StationNo) : s.Refreshed j k (s.tableReject j k) :=
  (s.setEntry_hear_refreshed k j .id).mask ((signalIfChanged_mask ..).trans (report_mask ..))

/-! ### Each kind -/

@[simp] theorem offerListed_mask (c : Content) (s : State) : (s.offerListed c).mask = s.mask := by
  unfold State.offerListed
  split
  · split
    · rfl
    · exact report_mask ..
  · rfl

@[simp] theorem offerRecall_mask (j : StationNo) (c : StartCause) (id : Nat) (s : State) :
    (s.offerRecall j c id).mask = s.mask := by
  unfold State.offerRecall
  split
  · split
    · exact offerListed_mask ..
    · rfl
  · rfl

section

variable {s u : State} {j : StationNo} {k : Kind}

theorem State.Refreshed.planMark (id own : Nat) (h : s.Refreshed j k u) : s.Refreshed j k (u.planMark j id own) := by
  unfold State.planMark
  split
  · exact h.frame rfl rfl
  · split
    · exact h
    · exact h.mask_frame (report_mask ..) rfl rfl

theorem State.Refreshed.applyTally (b : TallyBody) (h : s.Refreshed j k u) : s.Refreshed j k (u.applyTally j b) := by
  unfold State.applyTally
  split
  · split
    · exact h
    · dsimp only
      split
      · exact (h.planMark _ _).frame rfl rfl
      · exact h.planMark _ _
  · exact h.mask (report_mask ..)

theorem State.Refreshed.applyStatusMass (b : StatusBody) (h : s.Refreshed j k u) :
    s.Refreshed j k (u.applyStatusMass j b) := by
  unfold State.applyStatusMass
  split
  · exact h
  · split
    · exact h
    · dsimp only
      split
      · exact (h.planMark _ _).frame rfl rfl
      · exact h.planMark _ _

theorem State.Refreshed.applyRecall (b : TallyBody) (h : s.Refreshed j k u) : s.Refreshed j k (u.applyRecall j b) := by
  unfold State.applyRecall
  split
  · split
    · split
      · exact h.frame rfl rfl
      · exact h.mask (report_mask ..)
    · exact h.mask (report_mask ..)
  · exact h.mask (report_mask ..)

/-- The halt set does not stand in the table. -/
theorem State.Refreshed.haltIn (r : Nat) (h : s.Refreshed j k u) : s.Refreshed j k (u.haltIn j r) := by
  unfold State.haltIn
  split
  · exact h
  · exact h.mask_frame ((haltGained_mask ..).trans (report_mask ..)) rfl rfl

theorem State.Refreshed.haltRemove (h : s.Refreshed j k u) : s.Refreshed j k (u.haltRemove j) := by
  unfold State.haltRemove
  split
  · exact h.mask_frame ((haltLost_mask _).trans (report_mask ..)) rfl rfl
  · exact h

theorem State.Refreshed.recordCapacity (c : Nat) (h : s.Refreshed j k u) : s.Refreshed j k (u.recordCapacity j c) :=
  h.mask_frame (recompute_mask _) rfl rfl

/-- A kind that writes no field. -/
theorem State.applyPlain_refreshed (k : Kind) (hk : (k == .bye) = false) (s : State) (j : StationNo) (dest : Nat)
    {hand : State → State} (keeps : ∀ u, s.Refreshed j k u → s.Refreshed j k (hand u)) :
    s.Refreshed j k (s.applyPlain j dest hand) := by
  have taken := s.tableTake_refreshed k hk j .id false .other
  unfold State.applyPlain
  dsimp only
  split
  · exact keeps _ taken
  · exact taken

end

/-- A frame received from a listening line is handed on. -/
theorem State.receive_eq {α : Type} {s : State} {k : Kind} {dest : Nat} (t : Nat) (j : StationNo) (b : α)
    (apply : α → State → State) (live : s.inReset = none) (listens : s.listens = true) (permits : k.permits dest = true) :
    s.live t (·.receive j k dest (some b) apply) =
      if j = s.own then ((s.advance t).received k).dupNumber k else apply b ((s.advance t).received k) := by
  rw [live_run t _ s live]
  simp only [State.receive, advance_listens, listens, permits, if_true]
  have own : ((s.advance t).received k).own = s.own := by
    have := State.straps_of_mask (State.received_mask t k (State.listens_line listens))
    rw [State.own, this]; rfl
  simp only [State.takeGood]
  exact if_congr (by rw [← own]; rfl) rfl rfl

/-- Every command of a frame taken hands it on to one block, which refreshes its sender. -/
theorem exec_frameTaken {c : Instr} {t : Nat} {j : StationNo} {k : Kind} {s : State}
    (h : c.frameTaken = some (t, j, k)) (wf : c.wellFormed = true) (live : s.inReset = none) (listens : s.listens = true) :
    ∃ apply : State → State,
      exec c s = .next (if j = s.own then ((s.advance t).received k).dupNumber k else apply ((s.advance t).received k))
      ∧ ∀ u : State, (k = .reset → u.station.remoteEnable = false) → u.Refreshed j k (apply u) := by
  have hand {α : Type} {dest : Nat} {read : Option α} (apply : α → State → State) (permits : k.permits dest = true)
      (some : ∃ b, read = some b)
      (e : exec c s = .next (s.live t (·.receive j k dest read apply)))
      (refreshes : ∀ b, ∀ u : State, (k = .reset → u.station.remoteEnable = false) → u.Refreshed j k (apply b u)) :
      ∃ f : State → State,
        exec c s = .next (if j = s.own then ((s.advance t).received k).dupNumber k else f ((s.advance t).received k))
        ∧ ∀ u : State, (k = .reset → u.station.remoteEnable = false) → u.Refreshed j k (f u) := by
    obtain ⟨b, rfl⟩ := some
    exact ⟨apply b, e.trans (congrArg _ (State.receive_eq t j b apply live listens permits)), refreshes b⟩
  have station {d : BitVec 5} (hd : destStation d = true) : d.toNat ≤ 15 := by simpa [destStation] using hd
  have belt {d : BitVec 5} (hd : destBelt d = true) : (d.toNat == 16 || d.toNat == 17) = true := by
    revert hd; revert d; decide
  have urgent {d : BitVec 5} (hd : destUrgent d = true) : (d.toNat == 16 || d.toNat == 17 || d.toNat == 31) = true := by
    revert hd; revert d; decide
  cases c <;> cases h <;> simp only [Instr.wellFormed, Bool.and_eq_true, beq_iff_eq] at wf
  case helloTaken p =>
    refine hand _ rfl (readHello_isSome wf) rfl fun b u _ => ?_
    unfold State.applyHello
    split
    · split
      · exact (u.tableTake_refreshed .hello rfl j (.recordHello _ b) true .other).mask (offerRecall_mask ..)
      · exact u.tableReject_refreshed .hello j
    · exact u.tableReject_refreshed .hello j
  case byeTaken p =>
    refine hand _ rfl (readBye_isSome wf) rfl fun b u _ => ?_
    unfold State.applyBye
    split
    · exact u.tableTake_refreshed .bye rfl j .id false .other
    · exact u.tableReject_refreshed .bye j
  case statusTaken p =>
    refine hand _ rfl (readStatus_isSome wf) rfl fun b u _ => ?_
    unfold State.applyStatus
    split
    · exact ((u.tableTake_refreshed .status rfl j (.recordStatus b _ _) true .other).mask
        (conflictTest_mask ..)).applyStatusMass b
    · exact u.tableReject_refreshed .status j
  case raiseTaken p =>
    refine hand _ rfl (readRaise_isSome wf) rfl fun b u _ => ?_
    unfold State.applyRaise
    split
    · exact u.tableTake_refreshed .raise rfl j (.recordRaise _ _ _) false .other
    · exact u.tableReject_refreshed .raise j
  case lowerTaken p =>
    refine hand _ rfl (readWord_isSome wf) rfl fun b u _ => ?_
    unfold State.applyLower
    split
    · exact u.tableTake_refreshed .lower rfl j (.recordLower b) false .other
    · exact u.tableReject_refreshed .lower j
  case claimTaken p =>
    refine hand _ rfl (readClaim_isSome wf) rfl fun b u _ => ?_
    unfold State.applyClaim
    split
    · exact (u.tableTake_refreshed .claim rfl j (.recordClaim b _) false _).mask
        ((conflictTest_mask ..).trans (claimRetest_mask _))
    · exact u.tableReject_refreshed .claim j
  case releaseTaken p =>
    refine hand _ rfl (readRelease_isSome wf) rfl fun b u _ => ?_
    unfold State.applyRelease
    split
    · exact (u.tableTake_refreshed .release rfl j (.recordRelease _ _) false .other).mask (claimRetest_mask _)
    · exact u.tableReject_refreshed .release j
  case tallyTaken p =>
    refine hand _ rfl (readTally_isSome wf) rfl fun b u _ => ?_
    exact (u.tableTake_refreshed .tally rfl j (.recordPlanId _) false .other).applyTally b
  case recallTaken d p =>
    refine hand _ (by simpa [Kind.permits] using station wf.1) (readTally_isSome wf.2) rfl fun b u _ => ?_
    exact u.applyPlain_refreshed .recall rfl j _ fun v hv => hv.applyRecall b
  case capacityTaken d p =>
    refine hand _ (belt wf.1) (readWord_isSome wf.2) rfl fun b u _ => ?_
    exact u.applyPlain_refreshed .capacity rfl j _ fun v hv => hv.recordCapacity b
  case haltTaken d p =>
    refine hand _ (urgent wf.1) (readReason_isSome wf.2) rfl fun b u _ => ?_
    unfold State.applyHalt
    split
    · exact u.tableReject_refreshed .halt j
    · exact u.applyPlain_refreshed .halt rfl j _ fun v hv => hv.haltIn b
  case clearTaken d p =>
    refine hand _ (urgent wf.1) (readReason_isSome wf.2) rfl fun b u _ => ?_
    unfold State.applyClear
    split
    · exact u.tableReject_refreshed .clear j
    · exact u.applyPlain_refreshed .clear rfl j _ fun v hv => hv.haltRemove
  case resetTaken d straps =>
    refine hand (read := some ()) _ (by simpa [Kind.permits] using station wf) ⟨(), rfl⟩ rfl fun b u disabled => ?_
    have taken := u.tableTake_refreshed .reset rfl j .id false .other
    have off : (u.tableTake j false id false .other).station.remoteEnable = false :=
      (congrArg (fun v => v.station.remoteEnable) (u.tableTake_mask j false id .other)).trans (disabled rfl)
    unfold State.applyReset
    dsimp only
    rw [off]
    split
    · exact taken.mask (report_mask ..)
    · exact taken

/-- Settles O8: each kind by what its block does to the station table. -/
theorem goodFrameRefreshesItsSender : Obligations.GoodFrameRefreshesItsSender := by
  intro c t j k s h wf live listens peer disabled
  obtain ⟨apply, e, refreshes⟩ := exec_frameTaken h wf live listens
  rw [if_neg peer] at e
  have masked := State.received_mask t k (State.listens_line listens)
  have entries (i : StationNo) : ((s.advance t).received k).entry i = s.entry i := State.entry_of_mask masked i
  have enabled : ((s.advance t).received k).station.remoteEnable = s.station.remoteEnable :=
    congrArg (fun u => u.station.remoteEnable) masked
  have r := refreshes _ fun hk => enabled.trans (disabled hk)
  exact ⟨_, e, r.presence, r.lastHeard.trans (State.now_of_mask masked), fun i hi => (r.others i hi).trans (entries i),
    r.ack.trans (State.ackDriven_of_mask masked), r.rxFaults.trans (State.rxFaults_of_mask masked)⟩

end Sys2Proof.Machine

/-! ## What the raise's movements leave unchanged, and the entry to OFFLINE (R17, R23, R43, R45, R48, R50, R70) -/

namespace Sys2Proof.Machine

/-! ### The claim's test with an own frame on the line -/

theorem State.offerSingle_eq (c : Content) (s : State) : s.offerSingle c = { s with link := (s.offerSingle c).link } := by
  unfold State.offerSingle; split <;> rfl

@[simp] theorem State.offerSingle_station (c : Content) (s : State) : (s.offerSingle c).station = s.station := by
  rw [State.offerSingle_eq]

@[simp] theorem State.offerSingle_table (c : Content) (s : State) : (s.offerSingle c).table = s.table := by
  rw [State.offerSingle_eq]

@[simp] theorem State.offerSingle_share (c : Content) (s : State) : (s.offerSingle c).share = s.share := by
  rw [State.offerSingle_eq]

@[simp] theorem State.offerSingle_gov (c : Content) (s : State) : (s.offerSingle c).gov = s.gov := by
  rw [State.offerSingle_eq]

@[simp] theorem State.offerSingle_claim (c : Content) (s : State) : (s.offerSingle c).claim = s.claim := by
  rw [State.offerSingle_eq]

@[simp] theorem State.offerSingle_order (c : Content) (s : State) : (s.offerSingle c).order = s.order := by
  rw [State.offerSingle_eq]

@[simp] theorem State.offerSingle_machine (c : Content) (s : State) : (s.offerSingle c).machine = s.machine := by
  rw [State.offerSingle_eq]

theorem State.claimRetest_eq (s : State) :
    s.claimRetest = { s with link := s.claimRetest.link, claim := s.claimRetest.claim, order := s.claimRetest.order } := by
  have offer (r : ClaimRequest) (u : State) : u.offerClaim r =
      { u with link := (u.offerClaim r).link, claim := (u.offerClaim r).claim, order := (u.offerClaim r).order } := by
    unfold State.offerClaim
    rw [State.offerSingle_eq]
  unfold State.claimRetest
  split
  · unfold State.examineRequest
    split
    · rfl
    · split
      · rfl
      · rw [offer]; rfl
  · unfold State.retestQueued
    split
    · rfl
    · split
      · rfl
      · split
        · split
          · rfl
          · rw [offer]
        · rw [offer]
  · rfl

/-- A blocked reason is recorded in a CLAIMING order alone (R126). -/
theorem OrderUnit.setBlocked_of_not_claiming {u : OrderUnit} (h : ∀ o, u.active = some o → o.state ≠ .claiming)
    (b : Option BlockedReason) : u.setBlocked b = u := by
  unfold OrderUnit.setBlocked
  split
  · rename_i o e
    exact if_neg (h o e)
  · rfl

theorem State.claimRetest_order {s : State} (h : ∀ o, s.order.active = some o → o.state ≠ .claiming) :
    s.claimRetest.order = s.order := by
  have blocked (b : Option BlockedReason) : s.order.setBlocked b = s.order := OrderUnit.setBlocked_of_not_claiming h b
  have offer (r : ClaimRequest) (u : State) : (u.offerClaim r).order = u.order := by
    unfold State.offerClaim; rw [State.offerSingle_eq]
  unfold State.claimRetest
  split
  · unfold State.examineRequest
    split
    · rfl
    · split
      · exact blocked _
      · exact (offer _ _).trans (blocked none)
  · unfold State.retestQueued
    split
    · rfl
    · split
      · exact blocked _
      · split
        · split
          · rfl
          · exact offer _ _
        · exact offer _ _
  · rfl

/-! ### The raise's movements -/

/-- `t` comes of `s` by movements of the own raise and the view: the rest of the share unit and every other block stand. -/
def State.OnlyRaise (s t : State) : Prop :=
  t = { s with
    link := t.link, console := t.console
    share := { s.share with
      raise := t.share.raise, yieldOwed := t.share.yieldOwed, resv := t.share.resv, capacity := t.share.capacity } }

namespace State.OnlyRaise

variable {s t u : State}

theorem refl : s.OnlyRaise s := rfl

theorem trans (h : s.OnlyRaise t) (h' : t.OnlyRaise u) : s.OnlyRaise u := by
  unfold State.OnlyRaise at h h'
  rw [h] at h'
  exact h'

theorem report (l : Level) (b : Source) (c : Nat) (as : List Nat) : s.OnlyRaise (s.report l b c as) := by
  rw [State.report_eq]; rfl

theorem withdraw (k : Kind) : s.OnlyRaise (s.withdraw k) := rfl

theorem setRaise (r : Raise) : s.OnlyRaise (s.setRaise r) := rfl

theorem offerSingle (c : Content) : s.OnlyRaise (s.offerSingle c) := by
  rw [State.offerSingle_eq]; rfl

theorem yieldTest : s.OnlyRaise s.yieldTest := by
  unfold State.yieldTest
  split
  · exact offerSingle _
  · exact refl

theorem abandonSettling (c : YieldCause) : s.OnlyRaise (s.abandonSettling c) := by
  unfold State.abandonSettling
  split
  · rename_i t d e
    have reported : s.OnlyRaise ((s.setRaise .none).reportRaiseYielded t c) := (setRaise .none).trans (report ..)
    dsimp only
    split
    · have owed (v : State) : v.OnlyRaise { v with share := { v.share with yieldOwed := true } } := rfl
      exact (reported.trans (owed _)).trans yieldTest
    · exact reported
  · exact refl

theorem abandonRaise (c : YieldCause) : s.OnlyRaise (s.abandonRaise c) := by
  unfold State.abandonRaise
  split
  · exact refl
  · exact (withdraw .raise).trans (setRaise _)
  · exact (withdraw .raise).trans (setRaise _)
  · exact refl
  · exact abandonSettling c

theorem settleConflict : s.OnlyRaise s.settleConflict := by
  unfold State.settleConflict
  split
  · split
    · exact abandonSettling _
    · exact refl
  · exact refl

theorem offerRaise (x : Nat) : s.OnlyRaise (s.offerRaise x) := (setRaise _).trans (offerSingle _)

theorem reviewRaise (b : Bool) : s.OnlyRaise (s.reviewRaise b) := by
  unfold State.reviewRaise
  split
  · split
    · exact (withdraw .raise).trans (setRaise _)
    · split
      · exact refl
      · exact offerRaise _
  · exact refl

theorem recompute : s.OnlyRaise s.recompute := by
  unfold State.recompute
  split
  · exact refl
  · have view : s.OnlyRaise { s with share := { s.share with resv := s.sumReserved, capacity := s.effectiveCapacity } } := rfl
    exact (view.trans (reviewRaise false)).trans settleConflict

theorem gov (h : s.OnlyRaise t) : t.gov = s.gov := by rw [h]

theorem order (h : s.OnlyRaise t) : t.order = s.order := by rw [h]

theorem claim (h : s.OnlyRaise t) : t.claim = s.claim := by rw [h]

theorem station (h : s.OnlyRaise t) : t.station = s.station := by rw [h]

end State.OnlyRaise

/-! ### Entry to OFFLINE (R17, R23, R45, R70) -/

/-- The share unit's timers stop and no yield is owed (R56, R58, R63, R67). -/
def State.shareStilled (s : State) : State :=
  { s with share := { s.share with
      yieldOwed := false
      lowering := s.share.lowering.map (fun l => { l with deadline := none, waitStation := false })
      releaseTimer := none, haltTimer := none, capTimer := none } }

theorem State.shareSilenced_eq (s : State) : ∃ u, s.OnlyRaise u ∧ u.mask = s.mask ∧ s.shareSilenced = u.shareStilled := by
  unfold State.shareSilenced
  split
  · exact ⟨_, .setRaise .none, rfl, rfl⟩
  · exact ⟨_, .abandonSettling .state, abandonSettling_mask _ s, rfl⟩
  · exact ⟨_, .refl, rfl, rfl⟩

/-- What the claim unit's part of the silence leaves. -/
theorem State.claimSilenced_eq (s : State) : s.claimSilenced = { s with claim := s.claimSilenced.claim } := by
  unfold State.claimSilenced; split <;> rfl

/-- What the silence leaves of the fields that the signals do not write. -/
theorem State.silence_mask (s : State) :
    s.silence.mask = { s with
      link := { s.link with urgent := [] }
      share := { s.share with haltTimer := none, capTimer := none }
      table := { s.table with watchStart := none, watchDeadline := none, selfSilent := false }
      plan := { s.plan with tallyTimer := none }
      station := { s.station with listen := none, statusTimer := none } }.mask := by
  obtain ⟨u, -, masked, e⟩ := s.emptyQueues.shareSilenced_eq
  have stilled : u.shareStilled.mask = { u.mask with share := { u.mask.share with
      haltTimer := none, capTimer := none } } := rfl
  unfold State.silence
  rw [claimRetest_mask, refreshHeld_mask, e, State.claimSilenced_eq]
  calc (State.timersSilenced { u.shareStilled with claim := u.shareStilled.claimSilenced.claim }).mask
      = { u.shareStilled.mask with
          table := { u.shareStilled.mask.table with watchStart := none, watchDeadline := none, selfSilent := false }
          plan := { u.shareStilled.mask.plan with tallyTimer := none }
          station := { u.shareStilled.mask.station with listen := none, statusTimer := none } } := rfl
    _ = _ := by rw [stilled, masked]; rfl

/-- The governor's values stand through the silence. -/
theorem State.silence_gov (s : State) : s.silence.gov = s.gov := by
  obtain ⟨u, only, -, e⟩ := s.emptyQueues.shareSilenced_eq
  have refreshed (v : State) : v.refreshHeld.gov = v.gov := by
    unfold State.refreshHeld; split <;> [(split <;> rfl); rfl]
  unfold State.silence
  rw [State.claimRetest_eq, e, State.claimSilenced_eq]
  exact (refreshed _).trans only.gov

/-- A DISCHARGING order through the silence: its held reasons are formed anew, HOLD_LIMIT as it was (R129). -/
theorem State.silence_order {s : State} {o : OrderRecord} (active : s.order.active = some o) (st : o.state = .discharging)
    (quiet : s.onQuay = false) :
    ∃ h : Held, s.silence.order.active = some { o with held := h } ∧ h.link = true ∧ h.limit = o.held.limit := by
  obtain ⟨u, only, -, e⟩ := s.emptyQueues.shareSilenced_eq
  let v := u.shareStilled.claimSilenced.timersSilenced
  have vActive : v.order.active = some o := by
    have : v.order = u.order := by simp only [v]; rw [State.claimSilenced_eq]; rfl
    rw [this, only.order]; exact active
  have vStation : v.station.state = s.station.state := by
    have : v.station.state = u.station.state := by simp only [v]; rw [State.claimSilenced_eq]; rfl
    rw [this, only.station]; rfl
  have refreshed : v.refreshHeld.order.active = some { o with held := { v.heldNow with limit := o.held.limit } } := by
    unfold State.refreshHeld
    simp only [vActive, st, if_true]
  refine ⟨{ v.heldNow with limit := o.held.limit }, ?_, ?_, rfl⟩
  · unfold State.silence
    rw [e, State.claimRetest_order]
    · exact refreshed
    · intro o' h'
      obtain rfl := Option.some.inj (refreshed.symm.trans h')
      rw [st]; decide
  · have : v.onQuay = false := by rw [State.onQuay, vStation]; exact quiet
    simp [State.heldNow, State.linkHeld, this]

/-- The governor at entry to OFFLINE: in the unloader role its values, the feed among them, stand at rest (R70). -/
theorem State.governorStop_gov (s : State) : s.governorStop.gov = if s.isUnloader then { s.gov with
    feed := 0, allowed := 0, target := 0, bindAllowed := .demand, bindTarget := .holdOff .state, limit := none
    timer := none } else s.gov := by
  have hand (f : MachineFrame) (u : State) : (u.handMachine f).gov = u.gov := by
    unfold State.handMachine; split <;> rfl
  have held (b : Bool) (u : State) : (u.setLimitHeld b).gov = u.gov := by
    unfold State.setLimitHeld; split <;> rfl
  unfold State.governorStop
  split
  · simp only [held, hand]; rfl
  · rfl

theorem State.governorStop_mask (s : State) : s.governorStop.mask = if s.isUnloader then { s with gov := { s.gov with
    allowed := 0, bindAllowed := .demand, limit := none, timer := none } }.mask else s.mask := by
  unfold State.governorStop
  split
  · have before : (((s.setFeed 0).handMachine (.setpoint 0)).setLimitHeld false).mask = s.mask :=
      (setLimitHeld_mask ..).trans ((handMachine_mask ..).trans (setFeed_mask ..))
    have stop (u : State) : { u with gov := { u.gov with
        allowed := 0, target := 0, bindAllowed := .demand, bindTarget := .holdOff .state, limit := none, timer := none } }.mask
        = { u.mask with gov := { u.mask.gov with allowed := 0, bindAllowed := .demand, limit := none, timer := none } } := rfl
    rw [stop, before]; rfl
  · rfl

/-- A DISCHARGING order loses HOLD_LIMIT as the flag opens (log 37). -/
theorem State.governorStop_order {s : State} {o : OrderRecord} (unloader : s.isUnloader = true)
    (active : s.order.active = some o) (st : o.state = .discharging) :
    s.governorStop.order.active = some { o with held := { o.held with limit := false } } := by
  have hand (f : MachineFrame) (u : State) : (u.handMachine f).order = u.order := by
    unfold State.handMachine; split <;> rfl
  have before : ((s.setFeed 0).handMachine (.setpoint 0)).order.active = some o := (congrArg _ (hand _ _)).trans active
  have discharging : ((s.setFeed 0).handMachine (.setpoint 0)).discharging = some o := by
    unfold State.discharging
    rw [before]
    exact if_pos st
  unfold State.governorStop
  rw [if_pos unloader]
  simp only [State.setLimitHeld, discharging]

/-- What the entry to OFFLINE leaves of the fields that the signals do not write. -/
theorem State.enterOffline_mask (s : State) :
    s.enterOffline.mask = { s with
      link := { s.link with urgent := [] }
      share := { s.share with haltTimer := none, capTimer := none, intakeCaps := Vector.replicate 16 none }
      table := { s.table with watchStart := none, watchDeadline := none, selfSilent := false }
      plan := { s.plan with tallyTimer := none }
      gov := if s.isUnloader then { s.gov with allowed := 0, bindAllowed := .demand, limit := none, timer := none } else s.gov
      station := { s.station with state := .offline, listen := none, statusTimer := none } }.mask := by
  have caps (u : State) : (State.recompute { u with share := { u.share with
      intakeCaps := Vector.replicate 16 none } }).mask
      = { u.mask with share := { u.mask.share with intakeCaps := Vector.replicate 16 none } } := recompute_mask _
  have silenced (u : State) : { u with
      link := { u.link with urgent := [] }
      share := { u.share with haltTimer := none, capTimer := none }
      table := { u.table with watchStart := none, watchDeadline := none, selfSilent := false }
      plan := { u.plan with tallyTimer := none }
      station := { u.station with listen := none, statusTimer := none } }.mask = { u.mask with
      link := { u.mask.link with urgent := [] }
      share := { u.mask.share with haltTimer := none, capTimer := none }
      table := { u.mask.table with watchStart := none, watchDeadline := none, selfSilent := false }
      plan := { u.mask.plan with tallyTimer := none }
      station := { u.mask.station with listen := none, statusTimer := none } } := rfl
  unfold State.enterOffline
  rw [caps, State.silence_mask, silenced, State.governorStop_mask]
  have unloader : (s.setStation .offline).isUnloader = s.isUnloader := rfl
  rw [unloader]
  cases s.isUnloader <;> rfl

theorem State.enterOffline_gov (s : State) (unloader : s.isUnloader = true) :
    s.enterOffline.gov.feed = 0 ∧ s.enterOffline.gov.limit = none := by
  have e : s.enterOffline.gov = (s.setStation .offline).governorStop.gov :=
    State.OnlyRaise.recompute.gov.trans (State.silence_gov _)
  have still := State.governorStop_gov (s.setStation .offline)
  rw [if_pos (show (s.setStation .offline).isUnloader = true from unloader)] at still
  rw [e, still]
  exact ⟨rfl, rfl⟩

/-- A DISCHARGING order is held for LINK at the entry to OFFLINE (R129, R142), and no longer for HOLD_LIMIT (log 37). -/
theorem State.enterOffline_order {s : State} {o : OrderRecord} (unloader : s.isUnloader = true)
    (active : s.order.active = some o) (st : o.state = .discharging) :
    ∃ h : Held, s.enterOffline.order.active = some { o with held := h } ∧ h.link = true ∧ h.limit = false := by
  have stopped := State.governorStop_order (s := s.setStation .offline) unloader active st
  have quiet : (s.setStation .offline).governorStop.onQuay = false := by
    have masked := State.governorStop_mask (s.setStation .offline)
    have state : (s.setStation .offline).governorStop.station.state = .offline := by
      have := congrArg (fun u => u.station.state) masked
      dsimp only at this
      rw [apply_ite (fun u : State => u.station.state)] at this
      exact this.trans (ite_self _)
    rw [State.onQuay, state]; rfl
  obtain ⟨h, e, link, limit⟩ := State.silence_order stopped st quiet
  exact ⟨h, (congrArg _ State.OnlyRaise.recompute.order).trans e, link, limit⟩

/-- The entry to OFFLINE appends reports and takes none away. -/
theorem State.enterOffline_reports (s : State) : s.console.reports <+: s.enterOffline.console.reports := by
  have silenced (u : State) : u.console.reports <+: u.silence.console.reports := by
    refine List.IsPrefix.trans ?_ u.silence_reaches.reports
    unfold State.shareSilenced
    split
    · exact List.prefix_refl _
    · exact (State.Reaches.refl.abandonSettling .state : u.emptyQueues.Reaches _).reports
    · exact List.prefix_refl _
  obtain ⟨u, hu, hv⟩ := s.enterOffline_reaches
  exact hu.reports.trans ((silenced u).trans hv.reports)

end Sys2Proof.Machine

/-! ## A good frame that bears the own number (R23) -/

namespace Sys2Proof.Machine

/-- DUP_NUMBER marked, and reported where it was not (R23). -/
def State.dupMarked (k : Kind) (s : State) : State :=
  { s with
    link := { s.link with dupReported := true }
    console := if s.link.dupReported = false ∧ 1 ≤ s.station.reportLevel
      then s.console.enqueue ⟨.error, .link, 7, [BitVec.ofNat 32 k.code]⟩ else s.console }

theorem State.dupNumber_eq (k : Kind) (s : State) :
    s.dupNumber k = if s.station.state = .config ∨ s.station.state = .offline then s.dupMarked k
      else (s.dupMarked k).enterOffline := by
  have marked : (if s.link.dupReported then s
      else State.reportDupNumber k { s with link := { s.link with dupReported := true } }) = s.dupMarked k := by
    unfold State.dupMarked
    cases e : s.link.dupReported with
    | true =>
      simp only [if_true, Bool.true_eq_false, false_and, if_false]
      rw [← e]
    | false =>
      rw [State.reportDupNumber, State.report_eq]
      simp only [Bool.false_eq_true, if_false, true_and]
      rfl
  simp only [State.dupNumber, marked]

theorem State.dupMarked_mask (k : Kind) (s : State) :
    (s.dupMarked k).mask = { s.mask with link := { s.mask.link with dupReported := true } } := by
  have blank (r : Report) : { s.console.enqueue r with reports := [], lost := 0, attention := false }
      = { s.console with reports := [], lost := 0, attention := false } := by
    unfold Console.enqueue; split <;> rfl
  simp only [State.mask, State.dupMarked]
  split
  · rw [blank]
  · rfl

theorem State.dupReported_of_mask {s t : State} (h : s.mask = t.mask) : s.link.dupReported = t.link.dupReported := by
  have e : s.mask.link.dupReported = t.mask.link.dupReported := by rw [h]
  exact e

theorem State.listens_of_received {t : Nat} {k : Kind} {s : State} (listens : s.listens = true) :
    ((s.advance t).received k).link.onLine = none :=
  (State.received_onlyClaims t k (State.listens_line listens)).line (State.listens_line (s := s) listens)

/-- The received frame leaves a DISCHARGING order as it is. -/
theorem State.received_order {t : Nat} {k : Kind} {s : State} (h : ∀ o, s.order.active = some o → o.state ≠ .claiming) :
    ((s.advance t).received k).order = s.order := by
  unfold State.received State.countRxGood
  by_cases clears : s.link.rxFaults - 1 < 64 ∧ s.link.rxPoor = true
  · refine (if_pos (c := _ ∧ _) clears).symm ▸ ?_
    rw [State.claimRetest_order, State.reportLinkRecovered, State.report_eq]
    · rfl
    · rw [State.reportLinkRecovered, State.report_eq]; exact h
  · exact (if_neg (c := _ ∧ _) clears).symm ▸ rfl

/-- Settles O9: the frame is counted and marked, and the rest is the entry to OFFLINE. -/
theorem ownNumberFrameTakesTheStationOffline : Obligations.OwnNumberFrameTakesTheStationOffline := by
  intro c t k s h wf live listens report quiet
  obtain ⟨apply, e, -⟩ := exec_frameTaken h wf live listens
  rw [if_pos rfl, State.dupNumber_eq] at e
  have line := State.listens_line listens
  have counted := State.received_onlyClaims t k line
  have masked := (State.received_mask t k line).trans (State.heardConsole_mask s (s.heard t k) rfl)
  have station : ((s.advance t).received k).station = s.station := by rw [counted.eq]; rfl
  have dup : ((s.advance t).received k).link.dupReported = s.link.dupReported :=
    (State.dupReported_of_mask masked :)
  have console (hq : quiet) : ((s.advance t).received k).console = s.console := by
    rw [counted.eq]; exact State.heardConsole_of_quiet hq
  have told (hq : quiet) : (((s.advance t).received k).dupMarked k).console =
      if s.link.dupReported = false ∧ 1 ≤ s.station.reportLevel then s.console.enqueue report else s.console := by
    simp only [State.dupMarked, dup, station, console hq]; rfl
  have marked : (((s.advance t).received k).dupMarked k).mask
      = { s.heard t k with link := { (s.heard t k).link with dupReported := true } }.mask := by
    rw [State.dupMarked_mask, masked]; rfl
  have faults : (((s.advance t).received k).dupMarked k).link.rxFaults = s.link.rxFaults - 1 :=
    (State.rxFaults_of_mask marked :)
  have entries : (((s.advance t).received k).dupMarked k).table.entries = s.table.entries :=
    congrArg Table.entries (State.table_of_mask marked :)
  have grant : (((s.advance t).received k).dupMarked k).share.grant = s.share.grant := (State.grant_of_mask marked :)
  have halts : (((s.advance t).received k).dupMarked k).share.halts = s.share.halts := (State.halts_of_mask marked :)
  by_cases rest : s.station.state = .config ∨ s.station.state = .offline
  · rw [if_pos (by rw [station]; exact rest)] at e
    refine ⟨_, e, rfl, faults, entries, grant, halts, fun _ => ⟨station, marked, told⟩, fun hc ho => ?_⟩
    exact absurd rest (not_or.mpr ⟨hc, ho⟩)
  · rw [if_neg (by rw [station]; exact rest)] at e
    have left := State.enterOffline_mask (((s.advance t).received k).dupMarked k)
    have state := State.stationState_of_mask left
    have unloads : ((s.advance t).received k).isUnloader = s.isUnloader := by
      simp only [State.isUnloader, station]
    have lineOk := State.enterOffline_lineOk (s := ((s.advance t).received k).dupMarked k)
      (State.listens_of_received listens)
    have empty := lineOk.2.1 (by rw [State.transmits, state]; rfl)
    refine ⟨_, e, (State.dupReported_of_mask left :), (State.rxFaults_of_mask left :).trans faults,
      (congrArg Table.entries (State.table_of_mask left) :).trans entries, (State.grant_of_mask left :).trans grant,
      (State.halts_of_mask left :).trans halts, fun hr => absurd hr rest, fun _ _ => ?_⟩
    obtain ⟨urgent, normal, held, -⟩ := empty
    refine ⟨state, urgent, normal, held, fun un => ?_, fun un o active st => ?_, fun hq fresh level room => ?_⟩
    · exact State.enterOffline_gov _ (unloads.trans un)
    · have kept : ((s.advance t).received k).order = s.order := State.received_order fun o' h' => by
        obtain rfl := Option.some.inj (active.symm.trans h')
        rw [st]; decide
      obtain ⟨reasons, e', link, limit⟩ := State.enterOffline_order (s := ((s.advance t).received k).dupMarked k)
        (unloads.trans un) ((congrArg _ kept).trans active) st
      exact ⟨_, e', rfl, link, limit⟩
    · have first : (((s.advance t).received k).dupMarked k).console.reports = s.console.reports ++ [report] := by
        rw [told hq, if_pos ⟨fresh, level⟩, Console.enqueue_reports room]
      exact first ▸ State.enterOffline_reports _

end Sys2Proof.Machine

/-! ## Own frames that complete: the count, the signal and what both leave (R8, R9, R11, R12, R14, R17, R18, R19) -/

namespace Sys2Proof.Machine

/-! ### The command and what it signals -/

/-- What the originating block does at the completion of its frame (R17). -/
def Content.done : Content → State → State
  | .hello _ => State.helloDone
  | .bye _ => State.leftQuay
  | .status b => State.statusDone b.seq
  | .raise x _ => State.raiseDone x
  | .lower g => State.lowerDone g
  | .claim _ => State.claimDone
  | .release _ _ => State.releaseDone
  | _ => id

theorem State.complete_eq {s : State} {a : Attempt} (line : s.link.onLine = some a) {p : Kind → Bool}
    (hp : p a.content.kind = true) (acked : Bool) (signal : Content → State → State) :
    s.complete p acked signal = signal a.content (s.completed (a.content.kind == .hello) acked) := by
  simp only [State.complete, line, hp, if_true]

theorem exec_frameDone {c : Instr} {t : Nat} {acked : Bool} {ks : List Kind} {a : Attempt} {s : State}
    (h : c.frameDone = some (t, acked, ks)) (live : s.inReset = none) (line : s.link.onLine = some a)
    (mem : a.content.kind ∈ ks) :
    exec c s = .next (a.content.done ((s.advance t).completed (a.content.kind == .hello) acked)) := by
  have run {p : Kind → Bool} {signal : Content → State → State}
      (e : exec c s = .next (s.live t (·.complete p acked signal))) (hp : p a.content.kind = true)
      (done : signal a.content = a.content.done) :
      exec c s = .next (a.content.done ((s.advance t).completed (a.content.kind == .hello) acked)) := by
    rw [e, live_run t _ s live, State.complete_eq (s := s.advance t) line hp, done]
  obtain ⟨content, word, withdrawn⟩ := a
  cases c <;> cases h <;> cases content <;> first
    | (simp only [Content.kind, List.mem_cons, List.not_mem_nil, reduceCtorEq, or_self] at mem; done)
    | exact run rfl rfl rfl

/-! ### What the signals never change -/

/-- What no signal between blocks writes of the link controller, the straps and the reset. -/
def State.lineFacts (s : State) : Option ResetCause × Straps × Link :=
  (s.inReset, s.station.straps, { s.link with urgent := [], normal := [], held := none, onLine := none })

theorem State.lineFacts_of_mask {s t : State} (h : s.mask = t.mask) : s.lineFacts = t.lineFacts := by
  have e : s.mask.lineFacts = t.mask.lineFacts := by rw [h]
  exact e

/-- A change of other blocks, and signals after it. -/
theorem State.lineFacts_mask {s t u : State} (masked : u.mask = t.mask) (same : t.lineFacts = s.lineFacts) :
    u.lineFacts = s.lineFacts :=
  (State.lineFacts_of_mask masked).trans same

theorem State.enterOffline_lineFacts (s : State) : s.enterOffline.lineFacts = s.lineFacts :=
  State.lineFacts_mask s.enterOffline_mask rfl

theorem State.enterMuted_lineFacts (s : State) : s.enterMuted.lineFacts = s.lineFacts := by
  have told : (((s.setStation .muted).reportMuted s.link.txFaults).holdOffClamp .state).lineFacts = s.lineFacts :=
    State.lineFacts_mask ((holdOffClamp_mask ..).trans (report_mask ..)) rfl
  exact (State.lineFacts_mask (State.silence_mask _) rfl).trans told

theorem State.offerUrgent_lineFacts (c : Content) (s : State) : (s.offerUrgent c).lineFacts = s.lineFacts := by
  unfold State.offerUrgent; split <;> rfl

theorem State.originateHalt_lineFacts (h : OwnHalt) (s : State) : (s.originateHalt h).lineFacts = s.lineFacts := by
  have offered (u : State) : u.offerHalt.lineFacts = u.lineFacts := by
    unfold State.offerHalt; split <;> [exact State.offerUrgent_lineFacts ..; rfl]
  have timed (u : State) (x : Option Nat) : State.lineFacts { u with share := { u.share with haltTimer := x } } = u.lineFacts :=
    rfl
  unfold State.originateHalt State.reportHaltOut
  dsimp only
  rw [State.lineFacts_of_mask (report_mask ..), timed, offered]
  split
  · rfl
  · exact State.lineFacts_mask (haltGained_mask ..) rfl

theorem State.tripAtActive_lineFacts (s : State) : s.tripAtActive.lineFacts = s.lineFacts := by
  unfold State.tripAtActive State.beltTrip
  split <;> [(split <;> [exact State.originateHalt_lineFacts ..; rfl]); rfl]

/-- The judging of the transmit-fault count writes nothing of the link controller but its queues (R19). -/
theorem State.judgeTxFaults_lineFacts (s : State) : s.judgeTxFaults.lineFacts = s.lineFacts := by
  unfold State.judgeTxFaults
  split
  · exact s.enterMuted_lineFacts
  · split
    · exact State.lineFacts_mask ((claimRetest_mask _).trans ((drainTest_mask _).trans (report_mask ..))) rfl
    · split
      · refine (State.lineFacts_of_mask ((claimRetest_mask _).trans (drainTest_mask _))).trans
          ((State.tripAtActive_lineFacts _).trans ?_)
        exact State.lineFacts_mask (report_mask ..) rfl
      · rfl

theorem State.lowerDone_mask (g : Nat) (s : State) :
    (s.lowerDone g).mask = State.mask { s with share := { s.share with grant := g } } := by
  unfold State.lowerDone
  dsimp only
  split
  · rfl
  · split
    · exact (yieldTest_mask _).trans (signalWaiters_mask ..)
    · exact (armDrain_mask _).trans (drainTest_mask _)

@[simp] theorem raiseDone_mask (x : Nat) (s : State) : (s.raiseDone x).mask = s.mask := by
  unfold State.raiseDone
  split
  · exact (yieldTest_mask _).trans (report_mask ..)
  · dsimp only
    split
    · exact abandonSettling_mask ..
    · exact settleConflict_mask _
  · rfl

@[simp] theorem claimDone_mask (s : State) : s.claimDone.mask = s.mask := by
  unfold State.claimDone
  dsimp only
  split
  · exact enterReleasing_mask _
  · exact conflictTest_mask ..

@[simp] theorem offerTally_mask (s : State) : s.offerTally.mask = s.mask := by
  unfold State.offerTally
  split <;> [(split <;> [rfl; exact offerListed_mask ..]); rfl]

@[simp] theorem tallyOnRelease_mask (s : State) : s.tallyOnRelease.mask = s.mask := by
  unfold State.tallyOnRelease
  split <;> [exact offerTally_mask _; rfl]

@[simp] theorem releaseDone_mask (s : State) : s.releaseDone.mask = s.mask :=
  (claimRetest_mask _).trans ((signalReleased_mask _).trans (tallyOnRelease_mask _))

/-- The signal of a completion writes nothing of the link controller but its queues. -/
theorem Content.done_lineFacts (c : Content) (s : State) : (c.done s).lineFacts = s.lineFacts := by
  cases c
  case hello b =>
    change s.helloDone.lineFacts = _
    unfold State.helloDone
    split <;> rfl
  case status b =>
    change (s.statusDone b.seq).lineFacts = _
    unfold State.statusDone
    dsimp only
    split
    · exact State.lineFacts_mask (refreshHeld_mask _) rfl
    · rfl
  case bye r => exact (State.lineFacts_of_mask (report_mask ..)).trans s.enterOffline_lineFacts
  case raise x g => exact State.lineFacts_of_mask (raiseDone_mask ..)
  case lower g => exact State.lineFacts_mask (State.lowerDone_mask ..) rfl
  case claim b => exact State.lineFacts_of_mask (claimDone_mask _)
  case release h l => exact State.lineFacts_of_mask (releaseDone_mask _)
  all_goals rfl

end Sys2Proof.Machine

/-! ## Own frames that complete: the settlement of O18 -/

namespace Sys2Proof.Machine

/-! ### The counts (R12, R18) -/

/-- The consecutive-unheard count after a completion. -/
def Link.unheardNext (acked : Bool) (l : Link) : Nat := if acked then 0 else min 255 (l.unheard + 1)

/-- The link after a completion has been counted. -/
def Link.counted (hello acked : Bool) (l : Link) : Link :=
  { l with
    onLine := none, held := none, normal := l.normal ++ l.held.toList, ackDriven := false
    occupancy := if hello then .hello else .ownSent
    txFaults := l.txFaults - 1, unheard := l.unheardNext acked
    aloneReported := !acked && (l.aloneReported || decide (4 ≤ l.unheardNext acked)) }

/-- ALONE is reported at this completion. -/
def Link.alone (acked : Bool) (l : Link) : Bool :=
  decide (acked = false ∧ 4 ≤ l.unheardNext acked ∧ l.aloneReported = false)

/-- The state after a completion has been counted, before R19 judges the transmit-fault count. -/
def State.counted (hello acked : Bool) (s : State) : State :=
  { s with
    link := s.link.counted hello acked
    console := if s.link.alone acked = true ∧ 3 ≤ s.station.reportLevel
      then s.console.enqueue ⟨.info, .link, 1, [BitVec.ofNat 32 (s.link.unheardNext acked)]⟩ else s.console }

theorem State.completed_counted (hello acked : Bool) (s : State) :
    s.completed hello acked = (s.counted hello acked).judgeTxFaults := by
  rw [State.completed_eq]
  congr 1
  have held : s.link.finishFrame = { s.link with
      onLine := none, held := none, normal := s.link.normal ++ s.link.held.toList } := by
    unfold Link.finishFrame
    cases s.link.held <;> rfl
  unfold State.countUnheard State.finished
  rw [held]
  cases acked with
  | true =>
    simp only [State.counted, Link.counted, Link.alone, Link.unheardNext, if_true, Bool.true_eq_false, false_and,
      decide_false, Bool.false_eq_true, if_false, Bool.not_true, Bool.false_and]
  | false =>
    by_cases tells : 4 ≤ min 255 (s.link.unheard + 1) ∧ s.link.aloneReported = false
    · refine (if_pos (c := _ ∧ _) tells).trans ?_
      simp only [State.reportAlone, State.report_eq, State.counted, Link.counted, Link.alone, Link.unheardNext, tells,
        Bool.false_eq_true, if_false, true_and, decide_true, Bool.or_true, Bool.not_false]
      rfl
    · refine (if_neg (c := _ ∧ _) tells).trans ?_
      have marked : (s.link.aloneReported || decide (4 ≤ min 255 (s.link.unheard + 1))) = s.link.aloneReported := by
        cases e : s.link.aloneReported with
        | true => rfl
        | false => simpa [e] using tells
      simp only [State.counted, Link.counted, Link.alone, Link.unheardNext, tells, marked, Bool.false_eq_true, if_false,
        true_and, decide_false, false_and, Bool.not_false, Bool.true_and]
      rfl

/-- The count leaves the station state as it is. -/
theorem State.judgeTxFaults_stays {s : State} (mute : s.transmits = true → s.link.txFaults < 160)
    (active : s.station.state = .active → s.link.txFaults < 64)
    (degraded : s.station.state = .degraded → 32 ≤ s.link.txFaults) : s.judgeTxFaults = s := by
  unfold State.judgeTxFaults
  rw [if_neg, if_neg, if_neg]
  · rintro ⟨st, low⟩; have := degraded st; omega
  · rintro ⟨st, high⟩; have := active st; omega
  · simp only [Bool.and_eq_true, decide_eq_true_eq]
    rintro ⟨tx, high⟩; have := mute tx; omega

/-- A DEGRADED station whose count is below 32 becomes ACTIVE (R19). -/
theorem State.judgeTxFaults_recovers {s : State} (st : s.station.state = .degraded) (low : s.link.txFaults < 32) :
    s.judgeTxFaults = ((s.setStation .active).reportLinkRecovered).tripAtActive.drainTest.claimRetest := by
  unfold State.judgeTxFaults
  rw [if_neg, if_neg, if_pos ⟨st, low⟩]
  · rw [st]; rintro ⟨e, -⟩; cases e
  · simp only [Bool.and_eq_true, decide_eq_true_eq]
    rintro ⟨-, high⟩; omega

/-! ### The queues behind a RELEASE (R17, R118) -/

/-- With no own frame on the line, no kind queued leaves its place, and no RELEASE queued is lost. -/
structure State.Lengthens (s t : State) : Prop where
  line : s.link.onLine = none → t.link.onLine = none
  kinds : s.link.onLine = none → s.link.normal.map (fun d => d.kind) <+: t.link.normal.map (fun d => d.kind)
  release : s.link.onLine = none → ∀ d ∈ s.link.normal, d.kind = .release → d ∈ t.link.normal

namespace State.Lengthens

variable {s t u : State}

theorem refl : s.Lengthens s := ⟨id, fun _ => List.prefix_refl _, fun _ _ hd _ => hd⟩

theorem trans (h : s.Lengthens t) (h' : t.Lengthens u) : s.Lengthens u where
  line e := h'.line (h.line e)
  kinds e := (h.kinds e).trans (h'.kinds (h.line e))
  release e d hd r := h'.release (h.line e) d (h.release e d hd r) r

theorem frame (h : t.link = s.link) : s.Lengthens t :=
  ⟨fun e => h ▸ e, fun _ => by rw [h], fun _ d hd _ => by rw [h]; exact hd⟩

/-- A change of other blocks first. -/
theorem after (h' : t.Lengthens u) (h : t.link = s.link) : s.Lengthens u := (frame h).trans h'

theorem report (l : Level) (b : Source) (c : Nat) (as : List Nat) : s.Lengthens (s.report l b c as) :=
  frame (by rw [State.report_eq])

theorem replaceKind_mem {c d : Content} (ne : d.kind ≠ c.kind) : ∀ {l : List Content}, d ∈ l → d ∈ replaceKind c l
  | x :: l, h => by
    unfold replaceKind
    split
    · rename_i e
      obtain rfl | old := List.mem_cons.mp h
      · exact absurd e ne
      · exact List.mem_cons_of_mem _ old
    · obtain rfl | old := List.mem_cons.mp h
      · exact List.mem_cons_self ..
      · exact List.mem_cons_of_mem _ (replaceKind_mem ne old)

theorem offerSingle (c : Content) (lower : c.kind ≠ .lower) (rel : c.kind ≠ .release) : s.Lengthens (s.offerSingle c) := by
  unfold State.offerSingle
  split
  · dsimp only
    refine ⟨fun e => ?_, fun e => ?_, fun e d hd r => ?_⟩
    · rw [Link.placeSingle_of_line_none c e]; exact e
    · rw [Link.placeSingle_of_line_none c e]
      dsimp only
      split
      · rw [replaceKind_kinds]
      · rw [List.map_append]; exact List.prefix_append ..
    · rw [Link.placeSingle_of_line_none c e]
      dsimp only
      split
      · exact replaceKind_mem (by rw [r]; exact rel.symm) hd
      · exact List.mem_append_left _ hd
  · exact refl

theorem offerListed (c : Content) : s.Lengthens (s.offerListed c) := by
  unfold State.offerListed
  split
  · split
    · exact ⟨id, fun _ => by rw [List.map_append]; exact List.prefix_append .., fun _ _ hd _ => List.mem_append_left _ hd⟩
    · exact report ..
  · exact refl

theorem examineRequest : s.Lengthens s.examineRequest := by
  unfold State.examineRequest
  split
  · exact refl
  · split
    · exact frame rfl
    · exact after (offerSingle (.claim _) nofun nofun) rfl

theorem tallyOnRelease : s.Lengthens s.tallyOnRelease := by
  unfold State.tallyOnRelease State.offerTally
  split
  · split
    · split
      · exact refl
      · exact offerListed _
    · exact refl
  · exact refl

theorem tryBye : s.Lengthens s.tryBye := by
  unfold State.tryBye
  split
  · exact offerSingle _ nofun nofun
  · exact refl

theorem leaveReleased : s.Lengthens s.leaveReleased := by
  unfold State.leaveReleased
  split
  · exact after tryBye rfl
  · exact refl

theorem makeRequest (h l : Nat) : s.Lengthens (s.makeRequest h l) := by
  unfold State.makeRequest
  dsimp only
  split
  · exact after examineRequest rfl
  · exact frame rfl

theorem activate (o : OrderRecord) : s.Lengthens (s.activate o) := by
  unfold State.activate
  dsimp only
  split
  · exact frame rfl
  · exact after (makeRequest ..) rfl

theorem followOn : s.Lengthens s.followOn := by
  unfold State.followOn State.nextOrder
  split
  · exact after (activate _) rfl
  · split
    · exact refl
    · exact after (activate _) rfl
    · exact after (activate _) rfl
    · split <;> exact after (activate _) rfl

theorem finishActive (o : OrderRecord) : s.Lengthens (s.finishActive o) := by
  have recorded (e : EndState) (r : EndReason) : s.Lengthens (s.recordEnd o e r) :=
    after (report ..) rfl
  exact (recorded _ _).trans (after followOn rfl)

theorem orderReleased : s.Lengthens s.orderReleased := by
  have freed : s.Lengthens { s with order := { s.order with releaseOut := false } } := frame rfl
  unfold State.orderReleased
  dsimp only
  split
  · exact freed
  · split
    · exact freed.trans (makeRequest ..)
    · split
      · exact freed.trans (finishActive _)
      · exact freed
    · split
      · exact freed.trans (finishActive _)
      · exact freed.trans (after followOn rfl)
    · exact freed

theorem signalReleased : s.Lengthens s.signalReleased := by
  have told : s.Lengthens { s with claim := { s.claim with waitOrder := false, waitStation := false } } := frame rfl
  unfold State.signalReleased
  dsimp only
  split <;> split
  · exact (told.trans orderReleased).trans leaveReleased
  · exact told.trans leaveReleased
  · exact told.trans orderReleased
  · exact told

end State.Lengthens

/-- The claim is in phase NONE, or its CLAIM has just been queued with every condition of R109 met, from where the station
stands. -/
def State.ClaimFresh (s : State) : Prop :=
  s.claim.phase = .none ∨ (s.claim.phase = .queued ∧ ∃ r c, s.claim.request = some r ∧ s.claimBlocked r = none
    ∧ s.claim.own = some c ∧ some c.fromPos = s.machine.position)

/-- What R109 reads. -/
theorem State.claimBlocked_congr {s u : State} (r : ClaimRequest) (state : u.station.state = s.station.state)
    (straps : u.station.straps = s.station.straps) (config : u.station.config = s.station.config)
    (table : u.table = s.table) (halts : u.share.halts = s.share.halts)
    (position : u.machine.position = s.machine.position) (poor : u.link.rxPoor = s.link.rxPoor) :
    u.claimBlocked r = s.claimBlocked r := by
  have halted : u.halted = s.halted := by simp only [State.halted, halts]
  have peers : u.peers = s.peers := by simp only [State.peers, State.own, straps]
  have entry (j : StationNo) : u.entry j = s.entry j := by simp only [State.entry, table]
  have spacing : u.configNat (·.spacing) = s.configNat (·.spacing) := by simp only [State.configNat, config]
  simp only [State.claimBlocked, state, poor, halted, position, peers, entry, spacing]

theorem State.position_of_claimBlocked {s : State} {r : ClaimRequest} (h : s.claimBlocked r = none) :
    ∃ x, s.machine.position = some x := by
  cases e : s.machine.position with
  | some x => exact ⟨x, rfl⟩
  | none =>
    exfalso
    unfold State.claimBlocked at h
    split at h
    · cases h
    · split at h
      · cases h
      · rw [e] at h; cases h

namespace State.ClaimFresh

variable {s u : State}

theorem congr (h : s.ClaimFresh) (claim : u.claim = s.claim) (state : u.station.state = s.station.state)
    (straps : u.station.straps = s.station.straps) (config : u.station.config = s.station.config)
    (table : u.table = s.table) (halts : u.share.halts = s.share.halts)
    (position : u.machine.position = s.machine.position) (poor : u.link.rxPoor = s.link.rxPoor) : u.ClaimFresh := by
  unfold State.ClaimFresh
  rw [claim, position]
  refine h.imp id (And.imp id ?_)
  rintro ⟨r, c, hr, unblocked, own⟩
  exact ⟨r, c, hr, (State.claimBlocked_congr r state straps config table halts position poor).trans unblocked, own⟩

theorem offerSingle_rxPoor (c : Content) (s : State) : (s.offerSingle c).link.rxPoor = s.link.rxPoor := by
  have place (l : Link) : (l.placeSingle c).rxPoor = l.rxPoor := by
    unfold Link.placeSingle
    split <;> [rfl; (split <;> rfl)]
  unfold State.offerSingle
  split
  · dsimp only
    rw [place]
    split <;> rfl
  · rfl

theorem examineRequest (h : s.claim.phase = .none) : s.examineRequest.ClaimFresh := by
  unfold State.examineRequest
  split
  · exact .inl h
  · rename_i r hr
    split
    · exact .inl h
    · rename_i unblocked
      obtain ⟨x, hx⟩ := State.position_of_claimBlocked unblocked
      refine .inr ?_
      unfold State.offerClaim
      simp only [State.offerSingle_claim, State.offerSingle_machine]
      refine ⟨trivial, { r with blocked := none }, _, by simp [State.setBlocked, hr], ?_, rfl, by simp [State.setBlocked, hx]⟩
      refine (State.claimBlocked_congr (s := s) _ ?_ ?_ ?_ ?_ ?_ ?_ ?_).trans unblocked
        <;> simp only [State.offerSingle_station, State.offerSingle_table, State.offerSingle_share,
          State.offerSingle_machine, offerSingle_rxPoor, State.setBlocked]

theorem makeRequest (a b : Nat) (h : s.claim.phase = .none) : (s.makeRequest a b).ClaimFresh := by
  unfold State.makeRequest
  rw [if_pos h]
  exact examineRequest h

theorem activate (o : OrderRecord) (h : s.claim.phase = .none) : (s.activate o).ClaimFresh := by
  unfold State.activate
  dsimp only
  split
  · exact .inl h
  · exact makeRequest _ _ h

theorem followOn (h : s.claim.phase = .none) : s.followOn.ClaimFresh := by
  unfold State.followOn State.nextOrder
  split
  · exact activate _ h
  · split
    · exact .inl h
    · exact activate _ h
    · exact activate _ h
    · split <;> exact activate _ h

theorem finishActive (o : OrderRecord) (h : s.claim.phase = .none) : (s.finishActive o).ClaimFresh := by
  refine followOn (s := (s.recordEnd o _ _).setActive none) ?_
  simp only [State.recordEnd, State.reportOrderEnd, State.report_eq]
  exact h

theorem orderReleased (h : s.claim.phase = .none) : s.orderReleased.ClaimFresh := by
  unfold State.orderReleased
  dsimp only
  split
  · exact .inl h
  · split
    · exact makeRequest _ _ h
    · split
      · exact finishActive _ h
      · exact .inl h
    · split
      · exact finishActive _ h
      · exact followOn (s := { s with order := _ }) h
    · exact .inl h

theorem leaveReleased (h : s.ClaimFresh) : s.leaveReleased.ClaimFresh := by
  unfold State.leaveReleased State.tryBye
  split
  · split
    · refine h.congr ?_ ?_ ?_ ?_ ?_ ?_ ?_ ?_
        <;> simp only [State.offerSingle_claim, State.offerSingle_station, State.offerSingle_table,
          State.offerSingle_share, State.offerSingle_machine, offerSingle_rxPoor]
    · exact h.congr rfl rfl rfl rfl rfl rfl rfl rfl
  · exact h

theorem signalReleased (h : s.claim.phase = .none) : s.signalReleased.ClaimFresh := by
  unfold State.signalReleased
  dsimp only
  split <;> split
  · exact leaveReleased (orderReleased h)
  · exact leaveReleased (.inl h)
  · exact orderReleased h
  · exact .inl h

/-- The test of a fresh claim withdraws nothing. -/
theorem claimRetest (h : s.ClaimFresh) : s.Lengthens s.claimRetest := by
  obtain phase | ⟨phase, r, c, hr, unblocked, own, there⟩ := h
  · unfold State.claimRetest
    rw [phase]
    exact Lengthens.examineRequest
  · have same : s.claimRetest = s := by
      simp only [State.claimRetest, phase, State.retestQueued, hr, unblocked, own, there, if_true]
    rw [same]
    exact .refl

end State.ClaimFresh

theorem State.offerListed_claim (c : Content) (s : State) : (s.offerListed c).claim = s.claim := by
  unfold State.offerListed
  split
  · split
    · rfl
    · rw [State.reportTxqFull, State.report_eq]
  · rfl

theorem State.tallyOnRelease_claim (s : State) : s.tallyOnRelease.claim = s.claim := by
  unfold State.tallyOnRelease State.offerTally
  split
  · split
    · split
      · rfl
      · exact State.offerListed_claim ..
    · rfl
  · rfl

/-- What follows a RELEASE is queued behind what stands already (R14, R101, R118). -/
theorem State.Lengthens.releaseDone {s : State} : s.Lengthens s.releaseDone := by
  have phase : ({ s with claim := { s.claim with
      phase := .none, own := none, time := none, releaseOwed := false } } : State).tallyOnRelease.claim.phase = .none := by
    rw [State.tallyOnRelease_claim]
  have fresh := State.ClaimFresh.signalReleased phase
  have tallied : s.Lengthens ({ s with claim := { s.claim with
      phase := .none, own := none, time := none, releaseOwed := false } } : State).tallyOnRelease :=
    after Lengthens.tallyOnRelease rfl
  exact (tallied.trans signalReleased).trans fresh.claimRetest

end Sys2Proof.Machine

namespace Sys2Proof.Machine

/-! ### What the signals leave: the station state, the line, the reports, the link -/

/-- Reports are appended after a change of other blocks too. -/
theorem State.Reaches.reports_after {s v w : State} (h : v.Reaches w) (e : v.console = s.console) :
    s.console.reports <+: w.console.reports := e ▸ h.reports

theorem State.line_of_mask {s t : State} (h : s.mask = t.mask) (line : t.link.onLine = none) : s.link.onLine = none := by
  have e : s.mask.link.onLine = t.mask.link.onLine := by rw [h]
  simp only [State.mask, line, Option.map_none, Option.map_eq_none_iff] at e
  exact e

theorem Content.done_line (c : Content) {s : State} (line : s.link.onLine = none) : (c.done s).link.onLine = none := by
  cases c
  case hello b =>
    change s.helloDone.link.onLine = _
    unfold State.helloDone
    split <;> exact line
  case status b =>
    change (s.statusDone b.seq).link.onLine = _
    unfold State.statusDone
    dsimp only
    split
    · exact State.line_of_mask (refreshHeld_mask _) line
    · exact line
  case bye r => exact State.line_of_mask ((report_mask ..).trans s.enterOffline_mask) line
  case raise x g => exact State.line_of_mask (raiseDone_mask x s) line
  case lower g => exact State.line_of_mask (State.lowerDone_mask g s) line
  case claim b => exact State.line_of_mask (claimDone_mask s) line
  case release a b => exact State.line_of_mask (releaseDone_mask s) line
  all_goals exact line

/-- No completion but that of a BYE changes the station state. -/
theorem Content.done_state {c : Content} (h : c.kind ≠ .bye) (s : State) :
    (c.done s).station.state = s.station.state := by
  cases c
  case hello b =>
    change s.helloDone.station.state = _
    unfold State.helloDone
    split <;> rfl
  case status b =>
    change (s.statusDone b.seq).station.state = _
    unfold State.statusDone
    dsimp only
    split
    · exact (State.stationState_of_mask (refreshHeld_mask _) :)
    · rfl
  case bye r => exact absurd rfl h
  case raise x g => exact (State.stationState_of_mask (raiseDone_mask x s) :)
  case lower g => exact (State.stationState_of_mask (State.lowerDone_mask g s) :)
  case claim b => exact (State.stationState_of_mask (claimDone_mask s) :)
  case release a b => exact (State.stationState_of_mask (releaseDone_mask s) :)
  all_goals rfl

theorem State.raiseDone_reports (x : Nat) (s : State) : s.console.reports <+: (s.raiseDone x).console.reports := by
  unfold State.raiseDone
  split
  · rename_i c _
    exact ((State.Reaches.refl.report ..).yieldTest).reports_after rfl
  · dsimp only
    split
    · exact (State.Reaches.refl.abandonSettling .halt).reports_after rfl
    · exact State.Reaches.refl.settleConflict.reports_after rfl
  · exact List.prefix_refl _

theorem State.lowerDone_reports (g : Nat) (s : State) : s.console.reports <+: (s.lowerDone g).console.reports := by
  have ended (u : State) (l : Lowering) : u.Reaches (u.signalWaiters l).yieldTest :=
    (State.Reaches.refl.signalWaiters l).yieldTest
  have goesOn (u : State) : u.Reaches u.drainTest.armDrain := State.Reaches.refl.drainTest.armDrain
  let granted : State := { s with share := { s.share with grant := g } }
  unfold State.lowerDone
  dsimp only
  split
  · exact List.prefix_refl _
  · rename_i l _
    split
    · exact (ended (granted.setLowering none) l).reports
    · exact (goesOn (granted.setLowering (some { l with deadline := none }))).reports

/-- Reports of a completion's signal are appended. -/
theorem Content.done_reports (c : Content) (s : State) : s.console.reports <+: (c.done s).console.reports := by
  cases c
  case hello b =>
    change _ <+: s.helloDone.console.reports
    unfold State.helloDone
    split <;> exact List.prefix_refl _
  case bye r =>
    have told (u : State) : u.console.reports <+: u.reportLeftQuay.console.reports := State.report_prefix ..
    exact s.enterOffline_reports.trans
      (told { s.enterOffline with claim := { s.enterOffline.claim with request := none } })
  case status b =>
    have refreshed (u : State) : u.refreshHeld.console = u.console := by
      unfold State.refreshHeld; split <;> [(split <;> rfl); rfl]
    have same : (s.statusDone b.seq).console = s.console := by
      unfold State.statusDone
      dsimp only
      split <;> [exact refreshed _; rfl]
    exact (same ▸ List.prefix_refl _ : s.console.reports <+: (s.statusDone b.seq).console.reports)
  case raise x g => exact s.raiseDone_reports x
  case lower g => exact s.lowerDone_reports g
  case claim b => exact (State.Reaches.refl.claimDone : s.Reaches s.claimDone).reports
  case release a b => exact (State.Reaches.refl.releaseDone : s.Reaches s.releaseDone).reports
  all_goals exact List.prefix_refl _

/-- The completion's block does nothing with the queues: what O18 says of each kind. -/
def Content.quietDone (s : State) : Content → Prop
  | .bye _ => False
  | .release _ _ => False
  | .raise target _ => s.halted = false ∧ s.share.raise = .sending target none
    ∧ s.share.resv + target ≤ s.share.capacity
  | .lower _ => s.share.lowering = none
  | .claim b => s.claim.own = some b ∧ s.claim.withdrawn = false ∧ ∀ j, j ≠ s.own → s.conflictWith b j = none
  | _ => True

theorem State.yieldPeer_none {s : State} {b : ClaimBody} (h : ∀ j, j ≠ s.own → s.conflictWith b j = none) (f : Found) :
    s.yieldPeer f b = none := by
  unfold State.yieldPeer
  rw [List.findSome?_eq_none_iff]
  intro j hj
  have peer : j ≠ s.own := by simpa [State.peers] using (List.mem_filter.mp hj).2
  rw [h j peer]

theorem Content.done_link {c : Content} {s : State} (h : c.quietDone s) : (c.done s).link = s.link := by
  cases c
  case hello b =>
    change s.helloDone.link = _
    unfold State.helloDone
    split <;> rfl
  case status b =>
    have refreshed (u : State) : u.refreshHeld.link = u.link := by
      unfold State.refreshHeld; split <;> [(split <;> rfl); rfl]
    change (s.statusDone b.seq).link = _
    unfold State.statusDone
    dsimp only
    split
    · exact refreshed _
    · rfl
  case bye r => exact h.elim
  case release a b => exact h.elim
  case raise x g =>
    obtain ⟨calm, sending, fits⟩ := h
    have settling : s.raiseDone x = s.setRaise (.settling x (s.now + Config.raiseSettle)) := by
      have stands (r : Raise) : (s.setRaise r).halted = false := calm
      simp only [State.raiseDone, sending, stands, Bool.false_eq_true, if_false]
      exact if_neg (show ¬ s.share.capacity < s.share.resv + x by omega)
    exact (congrArg State.link settling :)
  case lower g =>
    change (s.lowerDone g).link = _
    unfold State.lowerDone
    simp only [show s.share.lowering = none from h]
  case claim b =>
    obtain ⟨own, stands, clear⟩ := h
    change s.claimDone.link = _
    unfold State.claimDone
    simp only [stands, Bool.false_eq_true, if_false, State.conflictTest, own, true_or, if_true]
    rw [State.yieldPeer_none]
    exact clear
  all_goals rfl

/-- A kind whose completion signals nothing (R17). -/
theorem Content.done_of_plainDone {c : Content} (h : c.kind ∈ [.tally, .recall, .capacity, .halt, .clear, .reset]) :
    c.done = id := by
  cases c <;> first
    | rfl
    | simp only [Content.kind, List.mem_cons, List.not_mem_nil, reduceCtorEq, or_self] at h

theorem State.tripAtActive_of_unloader {s : State} (h : s.isUnloader = true) : s.tripAtActive = s := by
  have notIntake : s.isIntake = false := by
    unfold State.isUnloader at h
    unfold State.isIntake
    cases e : s.station.straps.role <;> simp_all
  unfold State.tripAtActive
  rw [notIntake]; rfl

theorem State.drainTest_of_not_lowering {s : State} (h : s.share.lowering = none) : s.drainTest = s := by
  unfold State.drainTest
  rw [h]

theorem State.claimRetest_of_no_request {s : State} (h : s.claim.request = none) : s.claimRetest = s := by
  unfold State.claimRetest State.examineRequest State.retestQueued
  rw [h]
  split <;> rfl

theorem State.originateHalt_state (h : OwnHalt) (s : State) : (s.originateHalt h).station.state = s.station.state := by
  have offered (u : State) : u.offerHalt.station = u.station := by
    unfold State.offerHalt State.offerUrgent; split <;> [(split <;> rfl); rfl]
  unfold State.originateHalt State.reportHaltOut
  rw [State.report_eq]
  dsimp only
  rw [offered]
  split
  · rfl
  · exact (State.stationState_of_mask (haltGained_mask ..) :)

theorem State.tripAtActive_state (s : State) : s.tripAtActive.station.state = s.station.state := by
  unfold State.tripAtActive State.beltTrip
  split <;> [(split <;> [exact State.originateHalt_state ..; rfl]); rfl]

/-- Settles O18: the count, the judging of the station state by R19, and the block's signal, each by its own lemmas. -/
theorem completionCountsAndRanks : Obligations.CompletionCountsAndRanks := by
  intro c t acked ks a s h live line mem n alone l stays quiet
  have e := exec_frameDone h live line mem
  rw [State.completed_counted] at e
  let hello := a.content.kind == .hello
  let u := (s.advance t).counted hello acked
  have link : u.link = l := by
    simp only [u, State.counted, Link.counted, advance_link, l, hello]
    congr 1
    by_cases k : a.content.kind = .hello <;> simp [k]
  have judged (hs : stays) : u.judgeTxFaults = u := by
    obtain ⟨low, active, degraded⟩ := hs
    refine State.judgeTxFaults_stays (fun _ => ?_) (fun st => ?_) (fun st => ?_) <;> rw [link]
    · show s.link.txFaults - 1 < 160; omega
    · have := active st; show s.link.txFaults - 1 < 64; omega
    · have := degraded st; show 32 ≤ s.link.txFaults - 1; omega
  have facts : (a.content.done u.judgeTxFaults).lineFacts = u.lineFacts :=
    (Content.done_lineFacts ..).trans u.judgeTxFaults_lineFacts
  refine ⟨⟨_, e, ?_⟩, fun hs hq => ⟨_, e, ?_⟩, fun hs k => ⟨_, e, ?_⟩, fun hc hs => ?_, fun st low notBye => ⟨_, e, ?_⟩⟩
  · have left : (a.content.done u.judgeTxFaults).link.onLine = none :=
      Content.done_line _ (State.completed_counted hello acked (s.advance t) ▸ State.completed_line_none ..)
    have reset : (a.content.done u.judgeTxFaults).inReset = none := (congrArg Prod.fst facts).trans live
    have straps : (a.content.done u.judgeTxFaults).own = s.own := congrArg (fun f => f.2.1.number) facts
    have stands := congrArg (fun f => f.2.2) facts
    have unheard := congrArg Link.unheard stands
    have ack := congrArg Link.ackDriven stands
    have told := congrArg Link.aloneReported stands
    have faults := congrArg Link.txFaults stands
    have rank := congrArg Link.rank stands
    have synced := congrArg Link.synced stands
    have occupancy := congrArg Link.occupancy stands
    refine ⟨left, unheard, ack, told, faults, rank, fun sync t' => ?_⟩
    refine ⟨_, exec_occupancyEnd reset t', ?_⟩
    have ranked (v : State) (hl : v.link.onLine = none) (hs : v.link.synced = true) :
        (v.advance t').endOccupancy.link.rank = nextRank v.link.occupancy v.own v.link.rank := by
      simp only [State.endOccupancy, advance_link, hl, hs, Option.isSome_none, Bool.false_eq_true, if_false, if_true]
      rfl
    have sync' : (a.content.done u.judgeTxFaults).link.synced = true := synced.trans sync
    have held : (a.content.done u.judgeTxFaults).link.occupancy = if hello then .hello else .ownSent := occupancy
    rw [ranked _ left sync', held, straps]
    by_cases k : a.content.kind = .hello <;> simp [k, hello, nextRank]
  · rw [judged hs]
    exact (Content.done_link (s := u) hq).trans link
  · rw [judged hs]
    have released : a.content.done = State.releaseDone := by
      generalize a.content = content at k
      cases content <;> first
        | rfl
        | cases k
    have after : u.Lengthens u.releaseDone := .releaseDone
    have empty : u.link.onLine = none := by rw [link]
    have queued : u.link.normal = l.normal := congrArg Link.normal link
    rw [released]
    refine ⟨queued ▸ after.kinds empty, fun d hd r => after.release empty d (queued ▸ ?_) r⟩
    exact List.mem_append_right _ (by rw [Option.mem_def] at hd; simp [hd])
  · subst hc
    cases h
    rw [e, judged hs, Content.done_of_plainDone mem]
    exact congrArg (fun x => Host.Outcome.next { u with link := x }) link
  · have faults : u.link.txFaults < 32 := by rw [link]; show s.link.txFaults - 1 < 32; omega
    have active : u.judgeTxFaults.station.state = .active := by
      rw [State.judgeTxFaults_recovers (s := u) st faults]
      refine (State.stationState_of_mask ((claimRetest_mask _).trans (drainTest_mask _))).trans ?_
      rw [State.tripAtActive_state, State.reportLinkRecovered, State.report_eq]
      rfl
    refine ⟨(Content.done_state notBye _).trans active, fun level room => ?_, fun hc unloader still idle => ?_⟩
    · refine List.IsPrefix.trans ?_ (Content.done_reports ..)
      rw [State.judgeTxFaults_recovers (s := u) st faults]
      have signalled (v : State) : v.console.reports <+: v.tripAtActive.drainTest.claimRetest.console.reports :=
        (State.Reaches.refl.tripAtActive.drainTest.claimRetest).reports
      refine List.IsPrefix.trans ?_ (signalled _)
      have first : u.console.reports = s.console.reports
          ++ (if alone = true then [⟨.info, .link, 1, [BitVec.ofNat 32 n]⟩] else []) := by
        change (if alone = true ∧ 3 ≤ s.station.reportLevel then s.console.enqueue _ else s.console).reports = _
        by_cases tells : alone = true
        · rw [if_pos ⟨tells, level⟩, if_pos tells, Console.enqueue_reports (by omega)]; rfl
        · rw [if_neg (fun x => tells x.1), if_neg tells, List.append_nil]
      have short : u.console.reports.length < 16 := by
        rw [first, List.length_append]
        split <;> simp <;> omega
      rw [← first, State.reportLinkRecovered, State.report_reports (l := .info) (s := u.setStation .active) .link 4 [] level short]
      exact List.prefix_refl _
    · subst hc
      cases h
      rw [Content.done_of_plainDone mem, State.judgeTxFaults_recovers (s := u) st faults]
      have same (v : State) (hu : v.isUnloader = true) (hl : v.share.lowering = none) (hr : v.claim.request = none) :
          v.tripAtActive.drainTest.claimRetest = v := by
        rw [State.tripAtActive_of_unloader hu, State.drainTest_of_not_lowering hl, State.claimRetest_of_no_request hr]
      have recovered : (u.setStation .active).reportLinkRecovered = { s with
          now := max s.now t, link := l, station := { s.station with state := .active }
          console := (u.setStation .active).reportLinkRecovered.console } := by
        rw [State.reportLinkRecovered, State.report_eq, ← link]
        rfl
      rw [same]
      · exact recovered
      · rw [recovered]; exact unloader
      · rw [recovered]; exact still
      · rw [recovered]; exact idle

end Sys2Proof.Machine

/-! ## An attempt that fails (R7, R14, R16, R18, R46, R48, R112, R117) -/

namespace Sys2Proof.Machine

theorem exec_lostArbitration {s : State} (live : s.inReset = none) (t : Nat) :
    exec (.lostArbitration t) s = .next (s.advance t).attemptFailed :=
  congrArg Host.Outcome.next (live_run t _ s live)

theorem exec_transmitFault {s : State} (live : s.inReset = none) (t : Nat) :
    exec (.transmitFault t) s = .next (s.advance t).abortAttempt :=
  congrArg Host.Outcome.next (live_run t _ s live)

/-! ### Where the frame returns to -/

/-- The link with the frame of the attempt `a` put back (R7, R14, R16). -/
def Link.back (a : Attempt) (l : Link) : Link :=
  { l with
    onLine := none
    held := none
    urgent := if !a.withdrawn && a.content.kind.urgent then a.content :: l.urgent else l.urgent
    normal := if a.withdrawn then l.held.toList ++ l.normal
      else if a.content.kind.urgent then l.normal else l.held.getD a.content :: l.normal }

theorem Link.returnFrame_eq {l : Link} {a : Attempt} (line : l.onLine = some a) : l.returnFrame = l.back a := by
  unfold Link.returnFrame Link.back
  rw [line]
  dsimp only
  cases withdrawn : a.withdrawn with
  | true => cases l.held <;> simp
  | false => cases a.content.kind.urgent <;> simp

/-- The state with the frame put back, before its block is told. -/
def State.back (a : Attempt) (s : State) : State := { s with link := s.link.back a }

/-- What the block of a frame that has returned does (R46, R112, R117). -/
def Content.failed : Content → Bool → State → State
  | .raise x _, withdrawn => State.raiseFailed x withdrawn
  | .claim _, withdrawn => State.claimFailed withdrawn
  | _, _ => id

theorem State.attemptFailed_eq {s : State} {a : Attempt} (line : s.link.onLine = some a) :
    s.attemptFailed = a.content.failed a.withdrawn (s.back a) := by
  unfold State.attemptFailed
  simp only [line, Link.returnFrame_eq line]
  cases a.content <;> rfl

theorem Content.failed_plain {c : Content} (raise : c.kind ≠ .raise) (claim : c.kind ≠ .claim) (b : Bool) :
    c.failed b = id := by
  cases c
  case raise x g => exact absurd rfl raise
  case claim b => exact absurd rfl claim
  all_goals rfl

theorem Content.failed_claim {c : Content} (k : c.kind = .claim) (b : Bool) : c.failed b = State.claimFailed b := by
  cases c <;> first
    | rfl
    | cases k

theorem Content.kind_raise {c : Content} (k : c.kind = .raise) : ∃ x g, c = .raise x g := by
  cases c <;> first
    | exact ⟨_, _, rfl⟩
    | cases k

@[simp] theorem raiseFailed_mask (x : Nat) (b : Bool) (s : State) : (s.raiseFailed x b).mask = s.mask := by
  unfold State.raiseFailed
  split
  · rfl
  · exact reviewRaise_mask ..

@[simp] theorem claimFailed_mask (b : Bool) (s : State) : (s.claimFailed b).mask = s.mask := by
  unfold State.claimFailed
  split
  · exact (claimRetest_mask _).trans (signalReleased_mask _)
  · exact claimRetest_mask _

theorem State.attemptFailed_mask {s : State} {a : Attempt} (line : s.link.onLine = some a) :
    s.attemptFailed.mask = (s.back a).mask := by
  rw [State.attemptFailed_eq line]
  cases a.content
  case raise x g => exact raiseFailed_mask ..
  case claim b => exact claimFailed_mask ..
  all_goals rfl

theorem State.attemptFailed_line {s : State} {a : Attempt} (line : s.link.onLine = some a) :
    s.attemptFailed.link.onLine = none :=
  State.line_of_mask (State.attemptFailed_mask line) rfl

/-- With no own frame on the line nothing is put behind it. -/
theorem State.Reaches.held_none {s t : State} (h : s.Reaches t) (line : s.link.onLine = none) (held : s.link.held = none) :
    t.link.onLine = none ∧ t.link.held = none := by
  have offer (c : Content) {u : State} (hu : u.link.onLine = none ∧ u.link.held = none) :
      (u.offerSingle c).link.onLine = none ∧ (u.offerSingle c).link.held = none := by
    obtain ⟨line, held⟩ := hu
    have place {l : Link} (e : l.onLine = none) (e' : l.held = none) :
        (l.placeSingle c).onLine = none ∧ (l.placeSingle c).held = none := by
      rw [Link.placeSingle_of_line_none c e]; exact ⟨e, e'⟩
    unfold State.offerSingle
    split
    · dsimp only
      split
      · exact place (by simp [Link.withdraw, line]) (by simp [Link.withdraw, held])
      · exact place line held
    · exact ⟨line, held⟩
  have withdraw (k : Kind) {u : State} (hu : u.link.onLine = none ∧ u.link.held = none) :
      (u.withdraw k).link.onLine = none ∧ (u.withdraw k).link.held = none := by
    simp [State.withdraw, Link.withdraw, hu.1, hu.2]
  induction h with
  | refl => exact ⟨line, held⟩
  | frame _ e ih =>
    have sameLine := congrArg Core.onLine e
    have sameHeld := congrArg Core.held e
    exact ⟨sameLine.trans ih.1, sameHeld.trans ih.2⟩
  | report => rw [State.report_eq]; assumption
  | withdrawClaim _ ih => exact withdraw .claim ih
  | offerPlain _ _ ih => exact offer _ ih
  | offerListed _ _ ih =>
    unfold State.offerListed
    split
    · split
      · exact ih
      · rw [State.reportTxqFull, State.report_eq]; exact ih
    · exact ih
  | offerUrgent _ _ ih => unfold State.offerUrgent; split <;> exact ih
  | offerYield _ _ _ ih => exact offer _ ih
  | offerDrain _ _ ih => exact offer _ ih
  | endQueued _ _ ih => exact withdraw .raise ih
  | abandonSending _ _ _ ih => exact withdraw .raise ih
  | endSettling _ _ ih => exact ih
  | offerRaise x _ _ _ ih => exact offer (u := State.setRaise _ _) _ ih
  | lower _ _ _ _ ih => exact ih

theorem State.attemptFailed_held {s : State} {a : Attempt} (line : s.link.onLine = some a) :
    s.attemptFailed.link.held = none := by
  have back : s.returned.link = s.link.back a := Link.returnFrame_eq line
  exact (s.attemptFailed_reaches.held_none (by rw [back]; rfl) (by rw [back]; rfl)).2

/-! ### A RAISE that returns (R46, R48) -/

/-- The conditions of R48 under which a QUEUED raise stands where it is examined on an event other than an update. -/
def State.raiseStands (s : State) : Prop :=
  s.halted = false ∧ s.share.lowering = none ∧ s.station.state = .active ∧ s.link.rxPoor = false ∧ 10 ≤ s.increment

theorem State.reviewRaise_ends {s : State} {x : Nat} (queued : s.share.raise = .queued x) (h : ¬ s.raiseStands) :
    s.reviewRaise false = (s.withdraw .raise).setRaise .none := by
  unfold State.reviewRaise
  rw [queued]
  refine if_pos ?_
  by_contra c
  simp only [Bool.false_and, Bool.or_eq_true, decide_eq_true_eq, not_or, Bool.not_eq_true, Option.isSome_eq_false_iff,
    Option.isNone_iff_eq_none, bne_iff_ne, ne_eq, Decidable.not_not, Int.not_lt] at c
  obtain ⟨⟨⟨⟨⟨calm, lowering⟩, active⟩, poor⟩, -⟩, room⟩ := c
  exact h ⟨calm, lowering, active, poor, room⟩

theorem State.reviewRaise_stands {s : State} {x : Nat} (queued : s.share.raise = .queued x) (h : s.raiseStands) :
    s.reviewRaise false = if s.share.grant + s.increment.toNat = x then s
      else s.offerRaise (s.share.grant + s.increment.toNat) := by
  obtain ⟨calm, lowering, active, poor, room⟩ := h
  unfold State.reviewRaise
  rw [queued]
  refine if_neg ?_
  simp only [calm, lowering, active, poor, Bool.false_and, Bool.or_false, Option.isSome_none, bne_self_eq_false]
  simpa using room

/-- An offer to the normal set in a state that transmits, other than a LOWER. -/
theorem State.offerSingle_of_transmits {s : State} (tx : s.transmits = true) {c : Content} (h : c.kind ≠ .lower) :
    s.offerSingle c = { s with link := s.link.placeSingle c } := by
  unfold State.offerSingle
  rw [if_pos tx]
  dsimp only
  rw [if_neg h]

theorem State.transmits_of_active {s : State} (h : s.station.state = .active) : s.transmits = true := by
  rw [State.transmits, h]; rfl

/-! ### A CLAIM that returns (R112) -/

theorem State.retestQueued_blocked {s : State} {r : ClaimRequest} {b : BlockedReason} (request : s.claim.request = some r)
    (blocked : s.claimBlocked r = some b) : s.retestQueued = ((s.withdraw .claim).dropClaim).setBlocked (some b) := by
  simp only [State.retestQueued, request, blocked]

theorem State.active_of_claimBlocked {s : State} {r : ClaimRequest} (h : s.claimBlocked r = none) :
    s.station.state = .active := by
  by_contra c
  unfold State.claimBlocked at h
  rw [if_pos (by simp [c])] at h
  cases h

theorem State.retestQueued_moved {s : State} {r : ClaimRequest} {b : ClaimBody} {x : Nat}
    (request : s.claim.request = some r) (unblocked : s.claimBlocked r = none) (own : s.claim.own = some b)
    (position : s.machine.position = some x) :
    s.retestQueued = if b.fromPos = x then s else { s with
      link := s.link.placeSingle (.claim ⟨r.hold, r.slot, x, r.pos⟩)
      claim := { s.claim with phase := .queued, own := some ⟨r.hold, r.slot, x, r.pos⟩, withdrawn := false } } := by
  have tx := State.transmits_of_active (State.active_of_claimBlocked unblocked)
  have test : s.retestQueued = if b.fromPos = x then s else s.offerClaim r := by
    simp only [State.retestQueued, request, unblocked, own, position, Option.some.injEq]
  have offered (c : ClaimBody) (u : ClaimUnit) :
      State.offerSingle (.claim c) { s with claim := u } = { s with link := s.link.placeSingle (.claim c), claim := u } :=
    State.offerSingle_of_transmits (s := { s with claim := u }) tx nofun
  rw [test]
  refine if_congr Iff.rfl rfl ?_
  unfold State.offerClaim
  rw [position]
  exact offered ..

/-- Every link condition fails in a DEGRADED station (R109). -/
theorem State.claimBlocked_of_not_active {s : State} (h : s.station.state ≠ .active) (r : ClaimRequest) :
    s.claimBlocked r = some .link := by
  unfold State.claimBlocked
  exact if_pos (by simp [h])

/-! ### The release waiters (R117, R126, R175) -/

/-- The waits of the claim unit and of the station controller, and the outstanding release, stand. -/
structure State.SameWaits (s t : State) : Prop where
  order : t.claim.waitOrder = s.claim.waitOrder
  station : t.claim.waitStation = s.claim.waitStation
  release : t.order.releaseOut = s.order.releaseOut
  leave : t.station = s.station

namespace State.SameWaits

variable {s t u : State}

theorem refl : s.SameWaits s := ⟨rfl, rfl, rfl, rfl⟩

theorem trans (h : s.SameWaits t) (h' : t.SameWaits u) : s.SameWaits u :=
  ⟨h'.order.trans h.order, h'.station.trans h.station, h'.release.trans h.release, h'.leave.trans h.leave⟩

/-- A change of other fields first. -/
theorem after (h' : t.SameWaits u) (h : s.SameWaits t) : s.SameWaits u := h.trans h'

theorem setBlocked_release (b : Option BlockedReason) (u : OrderUnit) : (u.setBlocked b).releaseOut = u.releaseOut := by
  unfold OrderUnit.setBlocked; split <;> [(split <;> rfl); rfl]

theorem setBlocked (b : Option BlockedReason) : s.SameWaits (s.setBlocked b) := ⟨rfl, rfl, setBlocked_release .., rfl⟩

theorem offerClaim (r : ClaimRequest) : s.SameWaits (s.offerClaim r) := by
  unfold State.offerClaim
  rw [State.offerSingle_eq]
  exact ⟨rfl, rfl, rfl, rfl⟩

theorem examineRequest : s.SameWaits s.examineRequest := by
  unfold State.examineRequest
  split
  · exact refl
  · split
    · exact setBlocked _
    · exact (setBlocked none).trans (offerClaim _)

theorem retestQueued : s.SameWaits s.retestQueued := by
  unfold State.retestQueued
  split
  · exact refl
  · split
    · exact (setBlocked _ : State.SameWaits (State.dropClaim _) _).after ⟨rfl, rfl, rfl, rfl⟩
    · split
      · split
        · exact refl
        · exact offerClaim _
      · exact offerClaim _

theorem claimRetest : s.SameWaits s.claimRetest := by
  unfold State.claimRetest
  split
  · exact examineRequest
  · exact retestQueued
  · exact refl

theorem makeRequest (a b : Nat) : s.SameWaits (s.makeRequest a b) := by
  unfold State.makeRequest
  dsimp only
  split
  · exact examineRequest.after ⟨rfl, rfl, rfl, rfl⟩
  · exact ⟨rfl, rfl, rfl, rfl⟩

theorem activate (o : OrderRecord) : s.SameWaits (s.activate o) := by
  unfold State.activate
  dsimp only
  split
  · exact ⟨rfl, rfl, rfl, rfl⟩
  · exact (makeRequest ..).after ⟨rfl, rfl, rfl, rfl⟩

theorem followOn : s.SameWaits s.followOn := by
  unfold State.followOn State.nextOrder
  split
  · exact (activate _).after ⟨rfl, rfl, rfl, rfl⟩
  · split
    · exact refl
    · exact (activate _).after ⟨rfl, rfl, rfl, rfl⟩
    · exact (activate _).after ⟨rfl, rfl, rfl, rfl⟩
    · split <;> exact (activate _).after ⟨rfl, rfl, rfl, rfl⟩

theorem finishActive (o : OrderRecord) : s.SameWaits (s.finishActive o) := by
  refine (followOn : State.SameWaits (State.setActive none _) _).after ?_
  simp only [State.recordEnd, State.reportOrderEnd, State.report_eq]
  exact ⟨rfl, rfl, rfl, rfl⟩

theorem orderReleased : State.SameWaits { s with order := { s.order with releaseOut := false } } s.orderReleased := by
  unfold State.orderReleased
  dsimp only
  split
  · exact refl
  · split
    · exact makeRequest ..
    · split
      · exact finishActive _
      · exact refl
    · split
      · exact finishActive _
      · exact (followOn : State.SameWaits { s with order := _ } _).after ⟨rfl, rfl, rfl, rfl⟩
    · exact refl

end State.SameWaits

theorem State.leaveReleased_claim (s : State) : s.leaveReleased.claim = s.claim := by
  unfold State.leaveReleased State.tryBye
  split <;> [(split <;> [rw [State.offerSingle_claim]; rfl]); rfl]

theorem State.leaveReleased_order (s : State) : s.leaveReleased.order = s.order := by
  unfold State.leaveReleased State.tryBye
  split <;> [(split <;> [rw [State.offerSingle_order]; rfl]); rfl]

theorem State.leaveReleased_leave {s : State} (h : s.station.state = .leaving) :
    s.leaveReleased.station.leaveRelease = true := by
  unfold State.leaveReleased State.tryBye
  rw [if_pos h]
  split <;> [rw [State.offerSingle_station]; rfl]

/-- The waiters are told, and wait no longer (R117, R126, R175). -/
theorem State.signalReleased_waits (s : State) :
    s.signalReleased.claim.waitOrder = false ∧ s.signalReleased.claim.waitStation = false
      ∧ (s.claim.waitOrder = true → s.signalReleased.order.releaseOut = false)
      ∧ (s.claim.waitStation = true → s.station.state = .leaving → s.signalReleased.station.leaveRelease = true) := by
  let told : State := { s with claim := { s.claim with waitOrder := false, waitStation := false } }
  have order : State.SameWaits { told with order := { told.order with releaseOut := false } } told.orderReleased :=
    .orderReleased
  unfold State.signalReleased
  cases o : s.claim.waitOrder <;> cases w : s.claim.waitStation
  · exact ⟨rfl, rfl, nofun, nofun⟩
  · refine ⟨?_, ?_, nofun, fun _ leaving => ?_⟩
    · exact congrArg ClaimUnit.waitOrder told.leaveReleased_claim
    · exact congrArg ClaimUnit.waitStation told.leaveReleased_claim
    · exact State.leaveReleased_leave (s := told) leaving
  · exact ⟨order.order, order.station, fun _ => order.release, nofun⟩
  · refine ⟨?_, ?_, fun _ => ?_, fun _ leaving => ?_⟩
    · exact (congrArg ClaimUnit.waitOrder told.orderReleased.leaveReleased_claim).trans order.order
    · exact (congrArg ClaimUnit.waitStation told.orderReleased.leaveReleased_claim).trans order.station
    · exact (congrArg OrderUnit.releaseOut told.orderReleased.leaveReleased_order).trans order.release
    · exact State.leaveReleased_leave (s := told.orderReleased) ((congrArg Station.state order.leave).trans leaving)

/-! ### The charge of an aborted attempt (R18, R19) -/

/-- The state as R19 judges it: the attempt has failed, and 4 is charged. -/
def State.charged (s : State) : State :=
  { s.attemptFailed with link := { s.attemptFailed.link with
      occupancy := .aborted, txFaults := min 255 (s.link.txFaults + 4) } }

theorem State.txFaults_attemptFailed {s : State} {a : Attempt} (line : s.link.onLine = some a) :
    s.attemptFailed.link.txFaults = s.link.txFaults :=
  (State.txFaults_of_mask (State.attemptFailed_mask line) :)

theorem State.abortAttempt_eq {s : State} {a : Attempt} (line : s.link.onLine = some a) :
    s.abortAttempt = s.charged.judgeTxFaults := by
  unfold State.abortAttempt State.charged
  rw [line]
  dsimp only
  rw [State.txFaults_attemptFailed line]
  rfl

/-- An ACTIVE station whose count has reached 64 becomes DEGRADED (R19). -/
theorem State.judgeTxFaults_degrades {s : State} (st : s.station.state = .active) (high : 64 ≤ s.link.txFaults)
    (low : s.link.txFaults < 160) :
    s.judgeTxFaults = ((s.setStation .degraded).reportDegraded s.link.txFaults).drainTest.claimRetest := by
  unfold State.judgeTxFaults
  rw [if_neg (by simp only [Bool.and_eq_true, decide_eq_true_eq]; omega), if_pos ⟨st, high⟩]

theorem State.judgeTxFaults_mutes {s : State} (tx : s.transmits = true) (high : 160 ≤ s.link.txFaults) :
    s.judgeTxFaults = s.enterMuted := by
  unfold State.judgeTxFaults
  exact if_pos (by simp [tx, high])

theorem State.enterMuted_state (s : State) : s.enterMuted.station.state = .muted := by
  have told : (((s.setStation .muted).reportMuted s.link.txFaults).holdOffClamp .state).mask = (s.setStation .muted).mask :=
    (holdOffClamp_mask ..).trans (report_mask ..)
  exact (State.stationState_of_mask (State.silence_mask _) :).trans (State.stationState_of_mask told :)

/-- An unloader that is muted feeds nothing (R70, R82). -/
theorem State.enterMuted_gov {s : State} (unloader : s.isUnloader = true) :
    s.enterMuted.gov.feed = 0 ∧ s.enterMuted.gov.target = 0 := by
  have hand (f : MachineFrame) (u : State) : (u.handMachine f).gov = u.gov := by
    unfold State.handMachine; split <;> rfl
  have e : s.enterMuted.gov = (((s.setStation .muted).reportMuted s.link.txFaults).holdOffClamp .state).gov :=
    State.silence_gov _
  rw [e, State.reportMuted, State.report_eq]
  unfold State.holdOffClamp
  rw [if_pos (show State.isUnloader { s.setStation .muted with console := _ } = true from unloader)]
  dsimp only
  split
  · rw [hand]; exact ⟨rfl, rfl⟩
  · rename_i still
    exact ⟨Nat.eq_zero_of_not_pos still, rfl⟩

/-- The station state after R19. -/
theorem State.judgeTxFaults_state (s : State) : s.judgeTxFaults.station.state =
    if s.transmits = true ∧ 160 ≤ s.link.txFaults then .muted
    else if s.station.state = .active ∧ 64 ≤ s.link.txFaults then .degraded
    else if s.station.state = .degraded ∧ s.link.txFaults < 32 then .active else s.station.state := by
  have told (l : Level) (b : Source) (c : Nat) (as : List Nat) (u : State) : (u.report l b c as).station = u.station := by
    rw [State.report_eq]
  have after (u : State) : u.drainTest.claimRetest.station.state = u.station.state :=
    (State.stationState_of_mask ((claimRetest_mask _).trans (drainTest_mask _)) :)
  by_cases mutes : s.transmits = true ∧ 160 ≤ s.link.txFaults
  · rw [if_pos mutes, State.judgeTxFaults_mutes mutes.1 mutes.2, State.enterMuted_state]
  · rw [if_neg mutes]
    have pass : ¬ (s.transmits && decide (160 ≤ s.link.txFaults)) = true := by simpa using mutes
    unfold State.judgeTxFaults
    rw [if_neg pass]
    split
    · rw [after, State.reportDegraded, told]; rfl
    · split
      · rw [after, State.tripAtActive_state, State.reportLinkRecovered, told]; rfl
      · rfl

end Sys2Proof.Machine

namespace Sys2Proof.Machine

/-! ### The settlement of O6 -/

/-- A RAISE that returns, its conditions met: it stands, or is offered again with its new target. -/
theorem State.raiseFailed_stands {s : State} {x : Nat} (h : s.raiseStands) :
    ∃ new : Nat, (new : Int) = s.share.grant + s.increment ∧ s.raiseFailed x false = { s with
      share := { s.share with raise := .queued new }
      link := if new = x then s.link else s.link.placeSingle (.raise new s.share.grant) } := by
  have room : 10 ≤ s.increment := h.2.2.2.2
  have active : s.station.state = .active := h.2.2.1
  refine ⟨s.share.grant + s.increment.toNat, by omega, ?_⟩
  have review := State.reviewRaise_stands (s := s.setRaise (.queued x)) (x := x) rfl h
  unfold State.raiseFailed
  rw [if_neg (by decide), review]
  have same : (s.setRaise (.queued x)).increment = s.increment := rfl
  have grant : (s.setRaise (.queued x)).share.grant = s.share.grant := rfl
  rw [same, grant]
  split
  · rename_i e
    rw [e]; rfl
  · have tx := State.transmits_of_active active
    exact State.offerSingle_of_transmits (s := (s.setRaise (.queued x)).setRaise (.queued _)) tx nofun

theorem State.raiseFailed_ends {s : State} {x : Nat} (h : ¬ s.raiseStands) (line : s.link.onLine = none)
    (held : s.link.held = none) : s.raiseFailed x false = { s with
      share := { s.share with raise := .none }
      link := { s.link with normal := s.link.normal.filter (fun c => c.kind != .raise) } } := by
  unfold State.raiseFailed
  rw [if_neg (by decide), State.reviewRaise_ends (s := s.setRaise (.queued x)) rfl h]
  have taken : s.link.withdraw .raise =
      { s.link with normal := s.link.normal.filter (fun c => c.kind != .raise) } := by
    simp only [Link.withdraw, line, held, Option.map_none]
  unfold State.withdraw
  exact congrArg (fun l => { s with link := l, share := { s.share with raise := .none } }) taken

/-- A CLAIM that returns to the queue is tested there (R112). -/
theorem State.claimFailed_queued (s : State) :
    s.claimFailed false = State.retestQueued { s with claim := { s.claim with phase := .queued } } := rfl

theorem State.retestQueued_of_no_request {s : State} (h : s.claim.request = none) : s.retestQueued = s := by
  simp only [State.retestQueued, h]

theorem State.claimFailed_blocked {s : State} {r : ClaimRequest} {b : BlockedReason} (line : s.link.onLine = none)
    (held : s.link.held = none) (request : s.claim.request = some r) (blocked : s.claimBlocked r = some b) :
    s.claimFailed false = { s with
      link := { s.link with normal := s.link.normal.filter (fun c => c.kind != .claim) }
      claim := { s.claim with phase := .none, own := none, request := some { r with blocked := some b } }
      order := s.order.setBlocked (some b) } := by
  have taken : s.link.withdraw .claim =
      { s.link with normal := s.link.normal.filter (fun c => c.kind != .claim) } := by
    simp only [Link.withdraw, line, held, Option.map_none]
  rw [State.claimFailed_queued,
    State.retestQueued_blocked (s := { s with claim := { s.claim with phase := .queued } }) request blocked]
  simp only [State.withdraw, taken, State.dropClaim, State.setBlocked, request, Option.map_some]

/-- A CLAIM that was withdrawn is dropped, and the waiters are told (R112, R117). -/
theorem State.claimFailed_withdrawn (s : State) :
    (s.claimFailed true).claim.waitOrder = false ∧ (s.claimFailed true).claim.waitStation = false
      ∧ (s.claim.waitOrder = true → (s.claimFailed true).order.releaseOut = false)
      ∧ (s.claim.waitStation = true → s.station.state = .leaving → (s.claimFailed true).station.leaveRelease = true) := by
  let dropped : State := { s with claim := { s.claim with phase := .none, own := none, withdrawn := false } }
  have tested : dropped.signalReleased.SameWaits (s.claimFailed true) := .claimRetest
  obtain ⟨order, station, release, leave⟩ := dropped.signalReleased_waits
  exact ⟨tested.order.trans order, tested.station.trans station, fun w => tested.release.trans (release w),
    fun w st => (congrArg Station.leaveRelease tested.leave).trans (leave w st)⟩

theorem State.claimFailed_unwaited {s : State} (order : s.claim.waitOrder = false) (station : s.claim.waitStation = false)
    (request : s.claim.request = none) :
    s.claimFailed true = { s with claim := { s.claim with phase := .none, own := none, withdrawn := false } } := by
  have told : State.signalReleased { s with claim := { s.claim with phase := .none, own := none, withdrawn := false } }
      = { s with claim := { s.claim with phase := .none, own := none, withdrawn := false } } := by
    simp only [State.signalReleased, order, station, Bool.false_eq_true, if_false]
  unfold State.claimFailed
  rw [if_pos rfl, told]
  exact State.claimRetest_of_no_request (s := { s with claim := { s.claim with
    phase := .none, own := none, withdrawn := false } }) request

/-- The entry to DEGRADED as a request sees it (R106, R109, R112). -/
theorem State.claimRetest_degraded {s : State} (st : s.station.state ≠ .active) {r : ClaimRequest}
    (request : s.claim.request = some r) (phase : s.claim.phase = .none ∨ s.claim.phase = .queued) :
    s.claimRetest.claim = { s.claim with
        phase := .none, own := if s.claim.phase = .queued then none else s.claim.own
        request := some { r with blocked := some .link } }
      ∧ s.claimRetest.order = s.order.setBlocked (some .link)
      ∧ s.claimRetest.link.normal = if s.claim.phase = .queued
        then s.link.normal.filter (fun d => d.kind != .claim) else s.link.normal := by
  have blocked := State.claimBlocked_of_not_active st r
  obtain phase | phase := phase
  · have test : s.claimRetest = s.setBlocked (some .link) := by
      simp only [State.claimRetest, phase, State.examineRequest, request, blocked]
    rw [test]
    refine ⟨?_, rfl, by rw [phase]; rfl⟩
    simp only [State.setBlocked, request, Option.map_some, phase, reduceCtorEq, if_false]
  · have test : s.claimRetest = ((s.withdraw .claim).dropClaim).setBlocked (some .link) := by
      simp only [State.claimRetest, phase, State.retestQueued_blocked request blocked]
    rw [test]
    refine ⟨?_, rfl, by rw [phase]; rfl⟩
    simp only [State.setBlocked, State.dropClaim, State.withdraw, request, Option.map_some, phase, if_true]

theorem State.claimRetest_of_phase {s : State} (h : s.claim.request = none ∨ (s.claim.phase ≠ .none ∧ s.claim.phase ≠ .queued)) :
    s.claimRetest = s := by
  obtain request | ⟨notNone, notQueued⟩ := h
  · exact State.claimRetest_of_no_request request
  · unfold State.claimRetest
    split
    · rename_i e; exact absurd e notNone
    · rename_i e; exact absurd e notQueued
    · rfl

/-- A failed attempt changes the station controller in LEAVING alone (R175). -/
theorem State.attemptFailed_station {s : State} {a : Attempt} (line : s.link.onLine = some a)
    (h : s.station.state ≠ .leaving) : s.attemptFailed.station = s.station := by
  have raise (x : Nat) (b : Bool) (u : State) : (u.raiseFailed x b).station = u.station := by
    unfold State.raiseFailed
    split
    · rfl
    · exact State.OnlyRaise.station (.reviewRaise false)
  have leave {u : State} (hu : u.station.state ≠ .leaving) : u.leaveReleased = u := if_neg hu
  have claim (b : Bool) {u : State} (hu : u.station.state ≠ .leaving) : (u.claimFailed b).station = u.station := by
    have told {v : State} (hv : v.station.state ≠ .leaving) : v.signalReleased.station = v.station := by
      have order (w : State) : w.orderReleased.station = w.station :=
        State.SameWaits.orderReleased.leave
      unfold State.signalReleased
      dsimp only
      split <;> split
      · rw [leave (by rw [order]; exact hv), order]
      · rw [leave]; exact hv
      · exact order _
      · rfl
    unfold State.claimFailed
    split
    · exact State.SameWaits.claimRetest.leave.trans (told hu)
    · exact State.SameWaits.claimRetest.leave
  rw [State.attemptFailed_eq line]
  cases a.content
  case raise x g => exact raise x _ _
  case claim b => exact claim _ h
  all_goals rfl

/-- Settles O6: where the frame returns to, by its kind; then R19 by its branches. -/
theorem failedAttemptReturnsTheFrame : Obligations.FailedAttemptReturnsTheFrame := by
  intro t s a live line back n i stands
  have lost := exec_lostArbitration live t
  have fault := exec_transmitFault live t
  have line' : (s.advance t).link.onLine = some a := line
  rw [State.abortAttempt_eq line'] at fault
  have raised : a.content.kind = .raise → ∀ b, a.withdrawn = b → ∃ x g, a.content = .raise x g
      ∧ (s.advance t).attemptFailed = ((s.advance t).back a).raiseFailed x b := by
    rintro k b rfl
    obtain ⟨x, g, e⟩ := Content.kind_raise k
    exact ⟨x, g, e, by rw [State.attemptFailed_eq line', e]; rfl⟩
  have claimed : a.content.kind = .claim → ∀ b, a.withdrawn = b →
      (s.advance t).attemptFailed = ((s.advance t).back a).claimFailed b := by
    rintro k b rfl
    rw [State.attemptFailed_eq line', Content.failed_claim k]
  have masked := State.attemptFailed_mask line'
  have state : (s.advance t).attemptFailed.station.state = s.station.state := (State.stationState_of_mask masked :)
  have chargedState : (s.advance t).charged.station.state = s.station.state := state
  have transmits : (s.advance t).charged.transmits = s.transmits := congrArg StationState.transmits state
  have stays (h1 : s.transmits = true → n < 160) (h2 : s.station.state = .active → n < 64)
      (h3 : s.station.state = .degraded → 32 ≤ n) : (s.advance t).charged.judgeTxFaults = (s.advance t).charged :=
    State.judgeTxFaults_stays (fun h => h1 (transmits ▸ h)) (fun h => h2 (chargedState ▸ h)) (fun h => h3 (chargedState ▸ h))
  refine ⟨fun raise claim => ?_, fun k w => ?_, fun target current e w hs => ?_, fun k w hs => ?_, fun k w idle => ?_,
    fun k w r b request blocked => ?_, fun k w r b x request unblocked own position => ?_, fun k w => ?_, ?_, ?_, ?_⟩
  · have failed : (s.advance t).attemptFailed = (s.advance t).back a := by
      rw [State.attemptFailed_eq line', Content.failed_plain raise claim]; rfl
    rw [failed] at lost
    refine ⟨lost, fun low degraded => ?_⟩
    rw [fault, stays (fun _ => by omega) (fun _ => low) degraded]
    unfold State.charged
    rw [failed]; rfl
  · obtain ⟨x, g, -, failed⟩ := raised k true w
    rw [lost, failed]; rfl
  · obtain ⟨x, g, e', failed⟩ := raised (by rw [e]; rfl) false w
    obtain ⟨rfl, rfl⟩ := Content.raise.inj (e.symm.trans e')
    obtain ⟨new, hn, he⟩ := State.raiseFailed_stands (s := (s.advance t).back a) (x := target) hs
    refine ⟨new, hn, ?_⟩
    rw [lost, failed, he]; rfl
  · obtain ⟨x, g, -, failed⟩ := raised k false w
    rw [lost, failed, State.raiseFailed_ends (s := (s.advance t).back a) hs rfl rfl]; rfl
  · rw [lost, claimed k false w, State.claimFailed_queued, State.retestQueued_of_no_request]
    · rfl
    · exact idle
  · rw [lost, claimed k false w, State.claimFailed_blocked (s := (s.advance t).back a) rfl rfl request blocked]; rfl
  · have moved := State.retestQueued_moved (s := { (s.advance t).back a with claim := { s.claim with phase := .queued } })
      request unblocked own position
    refine lost.trans (congrArg Host.Outcome.next ((claimed k false w).trans (moved.trans ?_)))
    exact if_congr Iff.rfl rfl rfl
  · obtain ⟨order, station, release, leave⟩ := State.claimFailed_withdrawn ((s.advance t).back a)
    rw [claimed k true w] at lost
    refine ⟨_, lost, order, station, release, leave, fun o st request => ?_⟩
    exact State.claimFailed_unwaited (s := (s.advance t).back a) o st request
  · exact ⟨_, lost, State.attemptFailed_line line', State.txFaults_attemptFailed line',
      (State.rank_of_mask masked :), state⟩
  · have facts := (s.advance t).charged.judgeTxFaults_lineFacts
    have stands' := congrArg (fun f => f.2.2) facts
    have faults := congrArg Link.txFaults stands'
    have occupancy := congrArg Link.occupancy stands'
    have rank := (congrArg Link.rank stands').trans (State.rank_of_mask masked :)
    have chargedLine : (s.advance t).charged.link.onLine = none := State.attemptFailed_line line'
    have judged := (s.advance t).charged.judgeTxFaults_state
    rw [transmits, chargedState] at judged
    refine ⟨_, fault, ?_, faults, rank, occupancy, judged, fun tx high => ?_⟩
    · exact State.judgeTxFaults_line_none chargedLine
    · rw [State.judgeTxFaults_mutes (transmits.trans tx) high]
      have lineOk := State.enterMuted_lineOk chargedLine
      obtain ⟨urgent, normal, held, -⟩ := lineOk.2.1 (by rw [State.transmits, State.enterMuted_state]; rfl)
      have straps : (s.advance t).charged.isUnloader = s.isUnloader :=
        congrArg (fun p => p.role == .unloader) (State.straps_of_mask masked :)
      exact ⟨urgent, normal, held, fun un => State.enterMuted_gov (straps.trans un)⟩
  · intro s1 h
    obtain rfl := Host.Outcome.next.inj (lost.symm.trans h)
    intro charged
    have same : (s.advance t).charged = charged := rfl
    refine ⟨fun h1 h2 h3 => fault.trans (congrArg _ (stays h1 h2 h3)), fun active high low idle => ⟨_, fault, ?_⟩⟩
    let entered : State := { charged with
      station := { s.station with state := .degraded }
      console := if 2 ≤ s.station.reportLevel
        then (s.advance t).attemptFailed.console.enqueue ⟨.warning, .link, 3, [BitVec.ofNat 32 n]⟩
        else (s.advance t).attemptFailed.console }
    have station : (s.advance t).attemptFailed.station = s.station :=
      State.attemptFailed_station line' (by rw [advance_station, active]; decide)
    have told : (s.advance t).charged.judgeTxFaults = entered.claimRetest := by
      rw [State.judgeTxFaults_degrades (chargedState.trans active) high low, State.drainTest_of_not_lowering]
      · congr 1
        rw [State.reportDegraded, State.report_eq]
        simp only [State.setStation, State.charged, station, entered, charged]
        rfl
      · rw [State.reportDegraded, State.report_eq]; exact idle
    rw [told]
    have line1 : entered.link.onLine = none := State.attemptFailed_line line'
    have held1 : entered.link.held = none := State.attemptFailed_held line'
    have only := State.OnlyClaims.claimRetest line1
    refine ⟨?_, fun h => ?_, fun r request phase => ?_⟩
    · refine only.eq.trans ?_
      rw [State.withClaims, only.held held1, ← held1]
    · rw [State.claimRetest_of_phase (s := entered) h]
      exact ⟨rfl, rfl, rfl⟩
    · exact State.claimRetest_degraded (s := entered) nofun request phase

end Sys2Proof.Machine

/-! ## The end of the listen (R67, R68, R172, R173) -/

namespace Sys2Proof.Machine

theorem exec_listenTimerExpiry {s : State} {d : Nat} (live : s.inReset = none) (listen : s.station.listen = some d) :
    exec .listenTimerExpiry s = .next (s.advance d).enterActive := by
  change Host.Outcome.next (s.expire s.station.listen State.enterActive) = _
  rw [listen, expire_run d _ s live]

/-! ### What stands in the normal set -/

/-- Contents of the kind `k` stay where they stand, in the normal set or behind the frame of their kind on the line. -/
structure State.Spares (k : Kind) (s t : State) : Prop where
  normal : ∀ f : Content, f.kind = k → (f ∈ t.link.normal ↔ f ∈ s.link.normal)
  held : s.link.lineKind = some k → ∀ f, f.kind = k → s.link.held = some f → t.link.held = some f
  line : t.link.lineKind = s.link.lineKind

namespace State.Spares

variable {k : Kind} {s t u : State}

theorem refl : s.Spares k s := ⟨fun _ _ => Iff.rfl, fun _ _ _ h => h, rfl⟩

theorem trans (h : s.Spares k t) (h' : t.Spares k u) : s.Spares k u where
  normal f hf := (h'.normal f hf).trans (h.normal f hf)
  held e f hf hs := h'.held (h.line.trans e) f hf (h.held e f hf hs)
  line := h'.line.trans h.line

theorem frame (h : t.link = s.link) : s.Spares k t := ⟨fun _ _ => by rw [h], fun _ _ _ e => by rw [h]; exact e, by rw [h]⟩

theorem after (h' : t.Spares k u) (h : t.link = s.link) : s.Spares k u := (frame h).trans h'

theorem report (l : Level) (b : Source) (c : Nat) (as : List Nat) : s.Spares k (s.report l b c as) :=
  frame (by rw [State.report_eq])

theorem lineKind_withdraw (j : Kind) (l : Link) : (l.withdraw j).lineKind = l.lineKind := by
  unfold Link.withdraw Link.lineKind
  cases l.onLine with
  | none => rfl
  | some a => simp only [Option.map_some]; split <;> rfl

theorem replaceKind_mem_iff {c f : Content} (ne : f.kind ≠ c.kind) {l : List Content} :
    f ∈ replaceKind c l ↔ f ∈ l := by
  induction l with
  | nil => rfl
  | cons x l ih =>
    have notC : f ≠ c := fun e => ne (e ▸ rfl)
    unfold replaceKind
    split
    · rename_i e
      have notX : f ≠ x := fun e' => ne (e' ▸ e)
      simp [notC, notX]
    · simp [ih]

theorem placeSingle (c : Content) (ne : c.kind ≠ k) (l : Link) :
    (∀ f : Content, f.kind = k → (f ∈ (l.placeSingle c).normal ↔ f ∈ l.normal))
      ∧ (l.lineKind = some k → (l.placeSingle c).held = l.held) := by
  unfold Link.placeSingle
  split
  · rename_i own
    exact ⟨fun _ _ => Iff.rfl, fun e => absurd (Option.some.inj (own.symm.trans e)) ne⟩
  · split
    · exact ⟨fun f hf => replaceKind_mem_iff (hf ▸ ne.symm), fun _ => rfl⟩
    · refine ⟨fun f hf => ?_, fun _ => rfl⟩
      have notC : f ≠ c := fun e => ne (e ▸ hf)
      simp [notC]

theorem withdraw {j : Kind} (ne : j ≠ k) : s.Spares k (s.withdraw j) := by
  refine ⟨fun f hf => ?_, fun _ f hf e => ?_, lineKind_withdraw j s.link⟩
  · simp only [State.withdraw, Link.withdraw, List.mem_filter, bne_iff_ne, ne_eq, hf, ne.symm, not_false_eq_true, and_true]
  · simp only [State.withdraw, Link.withdraw, e, hf, if_neg ne.symm]

theorem offerSingle (c : Content) (ne : c.kind ≠ k) (raise : k ≠ .raise) : s.Spares k (s.offerSingle c) := by
  have placed (u : State) : u.Spares k { u with link := u.link.placeSingle c } := by
    obtain ⟨normal, held⟩ := placeSingle c ne u.link
    exact ⟨normal, fun e f _ hf => (held e).trans hf, by simp only [Link.lineKind, Link.placeSingle_onLine]⟩
  unfold State.offerSingle
  split
  · dsimp only
    split
    · exact (withdraw raise.symm).trans (placed (s.withdraw .raise))
    · exact placed s
  · exact refl

theorem offerUrgent (c : Content) : s.Spares k (s.offerUrgent c) := by
  unfold State.offerUrgent
  split
  · exact ⟨fun _ _ => Iff.rfl, fun _ _ _ h => h, rfl⟩
  · exact refl

section

variable (raise : k ≠ .raise) (claim : k ≠ .claim) (lower : k ≠ .lower)

include raise claim

theorem claimRetest : s.Spares k s.claimRetest := by
  have offer (r : ClaimRequest) (v : State) : v.Spares k (v.offerClaim r) :=
    (offerSingle (.claim _) claim.symm raise).after rfl
  unfold State.claimRetest
  split
  · unfold State.examineRequest
    split
    · exact refl
    · split
      · exact frame rfl
      · exact (offer _ _).after rfl
  · unfold State.retestQueued
    split
    · exact refl
    · split
      · exact (withdraw claim.symm).trans (frame rfl)
      · split
        · split
          · exact refl
          · exact offer _ _
        · exact offer _ _
  · exact refl

omit claim in
include lower in
theorem drainTest : s.Spares k s.drainTest := by
  unfold State.drainTest
  split
  · split
    · exact (offerSingle (.lower _) lower.symm raise).after rfl
    · exact refl
  · exact refl

/-- A halt gained in the intake role (R61, R109). -/
theorem haltGained (e : Bool) (intake : s.isUnloader = false) : s.Spares k (s.haltGained e) := by
  have clamp : s.holdOffClamp .halt = s := if_neg (by rw [intake]; decide)
  have refreshed (v : State) : v.refreshHeld.link = v.link := by
    unfold State.refreshHeld; split <;> [(split <;> rfl); rfl]
  unfold State.haltGained
  dsimp only
  rw [clamp, intake, Bool.and_false, if_neg (by decide)]
  exact (claimRetest raise claim).after (refreshed _)

theorem originateHalt (h : OwnHalt) (intake : s.isUnloader = false) : s.Spares k (s.originateHalt h) := by
  have offered (v : State) : v.Spares k v.offerHalt := by
    unfold State.offerHalt
    split
    · exact offerUrgent _
    · exact refl
  unfold State.originateHalt State.reportHaltOut
  dsimp only
  refine trans (trans ?_ (offered _)) ((report ..).after rfl)
  split
  · exact frame rfl
  · refine (haltGained raise claim _ ?_).after rfl
    exact intake

end

end State.Spares

/-! ### A halt of the belt in the intake role (R61, R62, R63, R68) -/

theorem State.urgentCount_of_mask {s t : State} (h : s.mask = t.mask) : s.link.urgentCount = t.link.urgentCount := by
  have kind (u : State) : u.mask.link.lineKind = u.link.lineKind := by
    simp only [State.mask, Link.lineKind, Option.map_map]; rfl
  have count (u : State) : u.mask.link.urgentCount = u.link.urgentCount := by
    simp only [Link.urgentCount, kind]; rfl
  rw [← count s, h, count t]

/-- What a halt that the station originates leaves of the fields that the signals do not write. -/
theorem State.originateHalt_mask (h : OwnHalt) (s : State) (tx : s.transmits = true) :
    (s.originateHalt h).mask = { s with
      share := { s.share with
        ownHalt := some h, halts := haltInsert s.share.halts s.own, haltTimer := some (s.now + Config.haltRepeat) }
      link := { s.link with urgent := if s.link.urgentCount < 2 then s.link.urgent ++ [Content.halt h.scope h.reason]
        else s.link.urgent } }.mask := by
  let joined : State := { s with share := { s.share with ownHalt := some h, halts := haltInsert s.share.halts s.own } }
  have gained : ∃ u, (if haltMember s.share.halts s.own then joined else joined.haltGained (!s.halted)) = u
      ∧ u.mask = joined.mask := by
    split
    · exact ⟨_, rfl, rfl⟩
    · exact ⟨_, rfl, haltGained_mask ..⟩
  obtain ⟨u, e, masked⟩ := gained
  have own : u.share.ownHalt = some h := State.ownHalt_of_mask masked
  have urgent : u.link.urgent = s.link.urgent := (State.urgent_of_mask masked :)
  have count : u.link.urgentCount = s.link.urgentCount := (State.urgentCount_of_mask masked :)
  have transmits : u.transmits = true := (congrArg StationState.transmits (State.stationState_of_mask masked)).trans tx
  have offered : u.offerHalt = { u with link := { u.link with
      urgent := if s.link.urgentCount < 2 then s.link.urgent ++ [Content.halt h.scope h.reason] else s.link.urgent } } := by
    unfold State.offerHalt
    rw [own]
    simp only [State.offerUrgent, State.urgentFull, transmits, count, urgent, Bool.true_and]
    by_cases room : s.link.urgentCount < 2
    · simp only [room, Nat.not_le.mpr room, decide_false, Bool.not_false, if_true]
    · simp only [room, Nat.not_lt.mp room, decide_true, Bool.not_true, Bool.false_eq_true, if_false]
      rw [← urgent]
  have now : u.now = s.now := (State.now_of_mask masked :)
  unfold State.originateHalt State.reportHaltOut
  dsimp only
  rw [report_mask, e, offered]
  have repeats (v : State) (x : List Content) (y : Option Nat) : State.mask { v with
      link := { v.link with urgent := x }, share := { v.share with haltTimer := y } }
      = { v.mask with link := { v.mask.link with urgent := x }, share := { v.mask.share with haltTimer := y } } := rfl
  rw [show _ = _ from repeats u _ _, masked, now]
  rfl

/-- The belt trips at this entry to ACTIVE (R68). -/
def State.trips (s : State) : Prop :=
  s.isIntake = true ∧ s.share.beltRunning = some false ∧ s.share.ownHalt = none

theorem State.tripAtActive_of_trips {s : State} (h : s.trips) : s.tripAtActive = s.originateHalt ⟨.belt, 100⟩ := by
  obtain ⟨intake, stopped, free⟩ := h
  unfold State.tripAtActive State.beltTrip
  rw [if_pos (by simp [intake, stopped]), if_pos (by simp [free])]
  rfl

theorem State.tripAtActive_of_not_trips {s : State} (h : ¬ s.trips) : s.tripAtActive = s := by
  unfold State.tripAtActive State.beltTrip
  split
  · rename_i found
    simp only [Bool.and_eq_true, beq_iff_eq] at found
    exact if_neg fun free => h ⟨found.1, found.2, by simpa using free⟩
  · rfl

theorem State.isUnloader_of_isIntake {s : State} (h : s.isIntake = true) : s.isUnloader = false := by
  unfold State.isIntake at h
  unfold State.isUnloader
  cases e : s.station.straps.role <;> simp_all

theorem State.Spares.tripAtActive {k : Kind} {s : State} (raise : k ≠ .raise) (claim : k ≠ .claim) :
    s.Spares k s.tripAtActive := by
  by_cases trips : s.trips
  · rw [State.tripAtActive_of_trips trips]
    exact .originateHalt raise claim _ (State.isUnloader_of_isIntake trips.1)
  · rw [State.tripAtActive_of_not_trips trips]
    exact .refl

/-- What the test of a belt trip leaves (R68). -/
theorem State.tripAtActive_mask (s : State) (tx : s.transmits = true) :
    s.tripAtActive.mask = { s with
      share := { s.share with
        ownHalt := s.tripAtActive.share.ownHalt, halts := s.tripAtActive.share.halts
        haltTimer := s.tripAtActive.share.haltTimer }
      link := { s.link with urgent := s.tripAtActive.link.urgent } }.mask := by
  by_cases trips : s.trips
  · have masked := State.originateHalt_mask ⟨.belt, 100⟩ s tx
    rw [State.tripAtActive_of_trips trips, State.ownHalt_of_mask masked, State.halts_of_mask masked,
      State.haltTimer_of_mask masked, State.urgent_of_mask masked]
    exact masked
  · rw [State.tripAtActive_of_not_trips trips]

theorem State.refreshHeld_eq (s : State) : s.refreshHeld = { s with order := s.refreshHeld.order } := by
  unfold State.refreshHeld; split <;> [(split <;> rfl); rfl]

theorem State.drainTest_console (s : State) : s.drainTest.console = s.console := by
  unfold State.drainTest
  split
  · split
    · rw [State.offerSingle_console]; rfl
    · rfl
  · rfl

/-- A belt trip reports HALT_OUT and no more. -/
theorem State.tripAtActive_length_le (s : State) :
    s.tripAtActive.console.reports.length ≤ s.console.reports.length + 1 := by
  by_cases trips : s.trips
  · rw [State.tripAtActive_of_trips trips]
    have unloader := State.isUnloader_of_isIntake trips.1
    have clamp {v : State} (hv : v.isUnloader = false) : v.holdOffClamp .halt = v := if_neg (by rw [hv]; decide)
    have gained {v : State} (e : Bool) (hv : v.isUnloader = false) : (v.haltGained e).console = v.console := by
      unfold State.haltGained
      dsimp only
      rw [clamp hv, hv, Bool.and_false, if_neg (by decide), State.claimRetest_eq, State.refreshHeld_eq]
    have offered (v : State) : v.offerHalt.console = v.console := by
      unfold State.offerHalt
      split <;> [exact State.offerUrgent_console ..; rfl]
    unfold State.originateHalt State.reportHaltOut
    refine (State.report_length_le ..).trans ?_
    dsimp only
    rw [offered]
    split
    · exact Nat.le_refl _
    · rw [gained]
      exact unloader
  · rw [State.tripAtActive_of_not_trips trips]
    omega

end Sys2Proof.Machine

namespace Sys2Proof.Machine

/-! ### The states on the way to ACTIVE -/

/-- A STATUS is offered and its timer started, in ACTIVE (R172). -/
def State.listened (s : State) : State := (s.setStation .active).offerStatus.startStatus

/-- After R19, the watch and the TALLY timer have started, and an intake has offered its CAPACITY (R37, R67, R101). -/
def State.announced (s : State) : State :=
  let u := s.listened.judgeTxFaults.startWatch.startTally
  if u.isIntake then u.offerCapacity else u

theorem State.enterActive_announced (s : State) :
    s.enterActive = s.announced.tripAtActive.drainTest.refreshHeld.claimRetest.reportJoin s.station.helloCause := by
  rw [State.enterActive_eq]
  congr 4
  unfold State.intakeActive State.announced State.listened
  dsimp only
  split
  · rfl
  · rename_i h
    exact (State.tripAtActive_of_not_trips fun trips => h trips.1).symm

theorem State.listened_mask (s : State) : s.listened.mask = { s with station := { s.station with
    state := .active, statusTimer := some (s.now + 500), listen := none } }.mask := by
  unfold State.listened
  have started (u : State) : u.startStatus.mask = { u.mask with station := { u.mask.station with
    statusTimer := some (u.mask.now + 500), listen := none } } := rfl
  rw [started, State.offerStatus, offerSingle_mask]
  rfl

/-- Below 160 the entry stands, or DEGRADED follows it at 64 (R19). -/
theorem State.judged_cases {s : State} (low : s.link.txFaults < 160) :
    (64 ≤ s.link.txFaults ∧ s.listened.judgeTxFaults
        = ((s.listened.setStation .degraded).reportDegraded s.link.txFaults).drainTest.claimRetest)
      ∨ (s.link.txFaults < 64 ∧ s.listened.judgeTxFaults = s.listened) := by
  have faults : s.listened.link.txFaults = s.link.txFaults := (State.txFaults_of_mask s.listened_mask :)
  have state : s.listened.station.state = .active := (State.stationState_of_mask s.listened_mask :)
  by_cases high : 64 ≤ s.link.txFaults
  · refine .inl ⟨high, ?_⟩
    rw [State.judgeTxFaults_degrades state (faults ▸ high) (faults ▸ low), faults]
  · refine .inr ⟨by omega, State.judgeTxFaults_stays (fun _ => faults ▸ low) (fun _ => faults ▸ by omega) fun e => ?_⟩
    rw [state] at e; cases e

theorem State.judged_mask {s : State} (low : s.link.txFaults < 160) :
    s.listened.judgeTxFaults.mask = { s with station := { s.station with
      state := if 64 ≤ s.link.txFaults then .degraded else .active, statusTimer := some (s.now + 500), listen := none } }.mask := by
  have entered (u : State) (st : StationState) :
      (u.setStation st).mask = { u.mask with station := { u.mask.station with state := st } } := rfl
  obtain ⟨high, e⟩ | ⟨few, e⟩ := State.judged_cases low
  · rw [e, claimRetest_mask, drainTest_mask, State.reportDegraded, report_mask, entered, State.listened_mask, if_pos high]
    rfl
  · rw [e, State.listened_mask, if_neg (by omega)]

/-- The repeat of an announced CAPACITY after the entry (R67). -/
def State.capTimerActive (s : State) : Option Nat :=
  if s.isIntake = true ∧ s.share.beltCap.isSome = true then some (s.now + 5000) else s.share.capTimer

theorem State.offerCapacity_mask (s : State) : s.offerCapacity.mask = { s.mask with share := { s.mask.share with
    capTimer := if s.mask.share.beltCap.isSome then some (s.mask.now + 5000) else s.mask.share.capTimer } } := by
  unfold State.offerCapacity
  have beltCap : s.mask.share.beltCap = s.share.beltCap := rfl
  rw [beltCap]
  cases s.share.beltCap with
  | none => rfl
  | some c =>
    have timed (u : State) : State.mask { u with share := { u.share with capTimer := some (u.now + Config.capacityRepeat) } }
        = { u.mask with share := { u.mask.share with capTimer := some (u.mask.now + 5000) } } := rfl
    dsimp only
    rw [timed, offerSingle_mask]
    rfl

theorem State.announced_mask {s : State} (low : s.link.txFaults < 160) :
    s.announced.mask = { s with
      station := { s.station with
        state := if 64 ≤ s.link.txFaults then .degraded else .active, statusTimer := some (s.now + 500), listen := none }
      table := { s.table with watchStart := some s.now, watchDeadline := some (s.now + 1500) }
      plan := { s.plan with tallyTimer := if s.readyPlan.isSome then some (s.now + 5000) else s.plan.tallyTimer }
      share := { s.share with capTimer := s.capTimerActive } }.mask := by
  have watch (u : State) : u.startWatch.mask = { u.mask with table := { u.mask.table with
    watchStart := some u.mask.now, watchDeadline := some (u.mask.now + 1500) } } := rfl
  have tally (u : State) : u.startTally.mask = { u.mask with plan := { u.mask.plan with
      tallyTimer := if u.mask.readyPlan.isSome then some (u.mask.now + 5000) else u.mask.plan.tallyTimer } } := by
    have ready : u.mask.readyPlan = u.readyPlan := rfl
    unfold State.startTally
    rw [ready]
    split <;> rfl
  let u := s.listened.judgeTxFaults.startWatch.startTally
  have masked : u.mask = { s with
      station := { s.station with
        state := if 64 ≤ s.link.txFaults then .degraded else .active, statusTimer := some (s.now + 500), listen := none }
      table := { s.table with watchStart := some s.now, watchDeadline := some (s.now + 1500) }
      plan := { s.plan with tallyTimer := if s.readyPlan.isSome then some (s.now + 5000) else s.plan.tallyTimer } }.mask := by
    simp only [u]
    rw [tally, watch, State.judged_mask low]
    rfl
  have intake : u.isIntake = s.isIntake := congrArg (fun p => p.role == .intake) (State.straps_of_mask masked :)
  unfold State.announced State.capTimerActive
  change (if u.isIntake then u.offerCapacity else u).mask = _
  rw [intake]
  cases s.isIntake with
  | false =>
    rw [if_neg (by decide), masked]
    simp
  | true =>
    rw [if_pos rfl, State.offerCapacity_mask, masked]
    simp only [true_and]
    rfl

theorem State.announced_length_le {s : State} (low : s.link.txFaults < 160) :
    s.announced.console.reports.length ≤ s.console.reports.length + 1 := by
  have first : s.listened.console = s.console := by
    unfold State.listened State.startStatus State.offerStatus
    dsimp only
    rw [State.offerSingle_console]; rfl
  have judged : s.listened.judgeTxFaults.console.reports.length ≤ s.console.reports.length + 1 := by
    obtain ⟨-, e⟩ | ⟨-, e⟩ := State.judged_cases low
    · rw [e, State.claimRetest_eq]
      dsimp only
      rw [State.drainTest_console]
      refine (State.report_length_le ..).trans ?_
      change s.listened.console.reports.length + 1 ≤ _
      rw [first]
    · rw [e, first]; omega
  have tally (u : State) : u.startTally.console = u.console := by unfold State.startTally; split <;> rfl
  have capacity (u : State) : u.offerCapacity.console = u.console := by
    unfold State.offerCapacity
    split
    · dsimp only; rw [State.offerSingle_console]
    · rfl
  refine Nat.le_trans (Nat.le_of_eq ?_) judged
  unfold State.announced
  dsimp only
  split
  · rw [capacity, tally]; rfl
  · rw [tally]; rfl

/-- An offered single kind stands in the normal set, or behind the frame of its kind on the line (R14). -/
theorem Link.placeSingle_stands (c : Content) (l : Link) :
    (l.lineKind = some c.kind → (l.placeSingle c).held = some c) ∧ (l.lineKind ≠ some c.kind → c ∈ (l.placeSingle c).normal) := by
  have replaced : ∀ {l : List Content}, (l.any fun d => d.kind == c.kind) = true → c ∈ replaceKind c l := by
    intro l
    induction l with
    | nil => nofun
    | cons x l ih =>
      intro h
      unfold replaceKind
      split
      · exact List.mem_cons_self ..
      · rename_i ne
        refine List.mem_cons_of_mem _ (ih ?_)
        simpa [ne] using h
  unfold Link.placeSingle
  split
  · rename_i own
    exact ⟨fun _ => rfl, fun ne => absurd own ne⟩
  · rename_i ne
    refine ⟨fun e => absurd e ne, fun _ => ?_⟩
    split
    · rename_i found; exact replaced found
    · exact List.mem_append_right _ (List.mem_singleton.mpr rfl)

end Sys2Proof.Machine

namespace Sys2Proof.Machine

/-! ### What stands in the normal set on the way to ACTIVE -/

theorem State.listened_spares {k : Kind} (status : k ≠ .status) (raise : k ≠ .raise) (s : State) :
    s.Spares k s.listened :=
  (State.Spares.after (.offerSingle (.status _) status.symm raise) rfl :
    s.Spares k (s.setStation .active).offerStatus).trans (.frame rfl)

theorem State.judged_spares {k : Kind} (raise : k ≠ .raise) (claim : k ≠ .claim) (lower : k ≠ .lower) {s : State}
    (low : s.link.txFaults < 160) : s.listened.Spares k s.listened.judgeTxFaults := by
  obtain ⟨-, e⟩ | ⟨-, e⟩ := State.judged_cases low
  · rw [e]
    have told : s.listened.Spares k ((s.listened.setStation .degraded).reportDegraded s.link.txFaults) :=
      .after (.report ..) rfl
    exact (told.trans (.drainTest raise lower)).trans (.claimRetest raise claim)
  · rw [e]; exact .refl

theorem State.timed_spares {k : Kind} (s : State) : s.Spares k s.startWatch.startTally := by
  have tally : s.startWatch.startTally.link = s.startWatch.link := by
    unfold State.startTally; split <;> rfl
  exact .frame tally

theorem State.offerCapacity_spares {k : Kind} (capacity : k ≠ .capacity) (raise : k ≠ .raise) (s : State) :
    s.Spares k s.offerCapacity := by
  unfold State.offerCapacity
  split
  · exact (State.Spares.offerSingle (.capacity _) capacity.symm raise).trans (.frame rfl)
  · exact .refl

/-- After the CAPACITY the entry leaves every kind but RAISE, LOWER and CLAIM where it stands. -/
theorem State.settled_spares {k : Kind} (raise : k ≠ .raise) (claim : k ≠ .claim) (lower : k ≠ .lower) (s : State)
    (cause : Option StartCause) :
    s.Spares k (s.tripAtActive.drainTest.refreshHeld.claimRetest.reportJoin cause) := by
  have refreshed (u : State) : u.Spares k u.refreshHeld := .frame (by rw [State.refreshHeld_eq])
  have joined (u : State) : u.Spares k (u.reportJoin cause) := by
    unfold State.reportJoin
    split
    · exact .report ..
    · exact .refl
  exact ((((State.Spares.tripAtActive raise claim).trans (.drainTest raise lower)).trans (refreshed _)).trans
    (.claimRetest raise claim)).trans (joined _)

theorem State.enterActive_status {s : State} (low : s.link.txFaults < 160) (line : s.link.onLine = none) :
    ∃ b, Content.status b ∈ s.enterActive.link.normal := by
  let b := (s.setStation .active).statusBody
  have offered : (s.setStation .active).offerStatus.link = s.link.placeSingle (.status b) := by
    unfold State.offerStatus
    rw [State.offerSingle_of_transmits (c := .status _) rfl nofun]
    rfl
  have placed : Content.status b ∈ s.listened.link.normal := by
    change Content.status b ∈ (s.setStation .active).offerStatus.link.normal
    rw [offered]
    exact (Link.placeSingle_stands ..).2 (by simp [Link.lineKind, line])
  have announced : s.listened.Spares .status s.announced := by
    have timed : s.listened.Spares .status s.listened.judgeTxFaults.startWatch.startTally :=
      (State.judged_spares (by decide) (by decide) (by decide) low).trans (State.timed_spares _)
    unfold State.announced
    dsimp only
    split
    · exact timed.trans (State.offerCapacity_spares (by decide) (by decide) _)
    · exact timed
  rw [State.enterActive_announced]
  exact ⟨b, (((announced.trans (State.settled_spares (by decide) (by decide) (by decide) _ _)).normal _ rfl)).mpr placed⟩

/-- The timers have started, and the CAPACITY is still to be offered. -/
theorem State.timed_capacity {s : State} (low : s.link.txFaults < 160) :
    s.Spares .capacity s.listened.judgeTxFaults.startWatch.startTally :=
  ((State.listened_spares (by decide) (by decide) s).trans (State.judged_spares (by decide) (by decide) (by decide) low)).trans (State.timed_spares _)

theorem State.timed_mask {s : State} (low : s.link.txFaults < 160) :
    s.listened.judgeTxFaults.startWatch.startTally.isIntake = s.isIntake
      ∧ s.listened.judgeTxFaults.startWatch.startTally.share.beltCap = s.share.beltCap
      ∧ s.listened.judgeTxFaults.startWatch.startTally.transmits = true := by
  have masked := State.judged_mask low
  have tally (u : State) : u.startWatch.startTally.station = u.station ∧ u.startWatch.startTally.share = u.share := by
    unfold State.startTally; split <;> exact ⟨rfl, rfl⟩
  obtain ⟨station, share⟩ := tally s.listened.judgeTxFaults
  refine ⟨?_, ?_, ?_⟩
  · simp only [State.isIntake, station]
    exact congrArg (fun p => p.role == .intake) (State.straps_of_mask masked :)
  · rw [share]; exact (State.beltCap_of_mask masked :)
  · simp only [State.transmits, station]
    rw [State.stationState_of_mask masked]
    dsimp only
    split <;> rfl

theorem State.enterActive_capacity {s : State} (low : s.link.txFaults < 160) {c : Nat} (intake : s.isIntake = true)
    (cap : s.share.beltCap = some c) :
    .capacity c ∈ s.enterActive.link.normal ∨ s.enterActive.link.held = some (.capacity c) := by
  obtain ⟨intake', cap', tx⟩ := State.timed_mask low
  have announced : s.announced.link = s.listened.judgeTxFaults.startWatch.startTally.link.placeSingle (.capacity c) := by
    unfold State.announced
    dsimp only
    rw [intake', if_pos intake]
    unfold State.offerCapacity
    rw [cap', cap]
    dsimp only
    rw [State.offerSingle_of_transmits (c := .capacity c) tx nofun]
  have rest := State.settled_spares (k := .capacity) (by decide) (by decide) (by decide) s.announced s.station.helloCause
  obtain ⟨behind, queued⟩ := Link.placeSingle_stands (.capacity c)
    s.listened.judgeTxFaults.startWatch.startTally.link
  rw [State.enterActive_announced]
  by_cases own : s.listened.judgeTxFaults.startWatch.startTally.link.lineKind = some .capacity
  · have line : s.announced.link.lineKind = some .capacity := by
      rw [announced, Link.lineKind, Link.placeSingle_onLine]; exact own
    exact .inr (rest.held line _ rfl (announced ▸ behind own))
  · exact .inl ((rest.normal _ rfl).mpr (announced ▸ queued own))

theorem State.enterActive_no_capacity {s : State} (low : s.link.txFaults < 160)
    (none : ¬ (s.isIntake = true ∧ s.share.beltCap.isSome = true)) :
    ∀ f ∈ s.enterActive.link.normal, f.kind = .capacity → f ∈ s.link.normal := by
  obtain ⟨intake, cap, -⟩ := State.timed_mask low
  have announced : s.announced = s.listened.judgeTxFaults.startWatch.startTally := by
    unfold State.announced
    dsimp only
    rw [intake]
    split
    · rename_i i
      unfold State.offerCapacity
      rw [cap]
      split
      · rename_i c e; exact absurd ⟨i, by rw [e]; rfl⟩ none
      · rfl
    · rfl
  intro f hf k
  rw [State.enterActive_announced, announced] at hf
  exact (((State.timed_capacity low).trans (State.settled_spares (by decide) (by decide) (by decide) _ _)).normal f k).mp hf

/-- What the entry to ACTIVE leaves of the fields that the signals do not write: the belt trip's among them. -/
theorem State.enterActive_mask {s : State} (low : s.link.txFaults < 160) :
    s.enterActive.mask = { s with
      station := { s.station with
        state := if 64 ≤ s.link.txFaults then .degraded else .active, statusTimer := some (s.now + 500), listen := none }
      table := { s.table with watchStart := some s.now, watchDeadline := some (s.now + 1500) }
      plan := { s.plan with tallyTimer := if s.readyPlan.isSome then some (s.now + 5000) else s.plan.tallyTimer }
      share := { s.share with
        capTimer := s.capTimerActive, ownHalt := s.announced.tripAtActive.share.ownHalt
        halts := s.announced.tripAtActive.share.halts, haltTimer := s.announced.tripAtActive.share.haltTimer }
      link := { s.link with urgent := s.announced.tripAtActive.link.urgent } }.mask := by
  have prepared := State.announced_mask low
  have tx : s.announced.transmits = true := by
    rw [State.transmits, State.stationState_of_mask prepared]
    dsimp only
    split <;> rfl
  have joined (u : State) (c : Option StartCause) : (u.reportJoin c).mask = u.mask := by
    unfold State.reportJoin; split <;> [exact report_mask ..; rfl]
  have fields (u : State) (x : Option OwnHalt) (y : BitVec 16) (z : Option Nat) (us : List Content) :
      State.mask { u with share := { u.share with ownHalt := x, halts := y, haltTimer := z }, link := { u.link with urgent := us } }
      = { u.mask with share := { u.mask.share with ownHalt := x, halts := y, haltTimer := z }
                      link := { u.mask.link with urgent := us } } := rfl
  rw [State.enterActive_announced, joined, claimRetest_mask, refreshHeld_mask, drainTest_mask,
    State.tripAtActive_mask _ tx, fields, prepared]
  rfl

/-- What the belt trip finds at the entry is what stood before it. -/
theorem State.announced_trips {s : State} (low : s.link.txFaults < 160) : s.announced.trips ↔ s.trips := by
  have prepared := State.announced_mask low
  have intake : s.announced.isIntake = s.isIntake := congrArg (fun p => p.role == .intake) (State.straps_of_mask prepared :)
  have stopped : s.announced.share.beltRunning = s.share.beltRunning := congrArg (fun u => u.share.beltRunning) prepared
  have free : s.announced.share.ownHalt = s.share.ownHalt := (State.ownHalt_of_mask prepared :)
  rw [State.trips, intake, stopped, free, State.trips]

theorem State.enterActive_trips {s : State} (low : s.link.txFaults < 160) (trips : s.trips) :
    s.enterActive.share.ownHalt = some ⟨.belt, 100⟩ ∧ s.enterActive.share.haltTimer = some (s.now + 1000)
      ∧ s.enterActive.share.halts = haltInsert s.share.halts s.own
      ∧ s.enterActive.link.urgent = if s.link.urgentCount < 2 then s.link.urgent ++ [Content.halt .belt 100]
        else s.link.urgent := by
  have total := State.enterActive_mask low
  have prepared := State.announced_mask low
  have tx : s.announced.transmits = true := by
    rw [State.transmits, State.stationState_of_mask prepared]
    dsimp only
    split <;> rfl
  have tripped := s.announced.originateHalt_mask ⟨.belt, 100⟩ tx
  rw [← State.tripAtActive_of_trips ((State.announced_trips low).mpr trips)] at tripped
  have own : s.announced.own = s.own := congrArg Straps.number (State.straps_of_mask prepared :)
  have clock : s.announced.now = s.now := (State.now_of_mask prepared :)
  have halts : s.announced.share.halts = s.share.halts := (State.halts_of_mask prepared :)
  have urgent : s.announced.link.urgent = s.link.urgent := (State.urgent_of_mask prepared :)
  have count : s.announced.link.urgentCount = s.link.urgentCount := (State.urgentCount_of_mask prepared :)
  refine ⟨(State.ownHalt_of_mask total).trans (State.ownHalt_of_mask tripped),
    (State.haltTimer_of_mask total).trans ((State.haltTimer_of_mask tripped).trans ?_),
    (State.halts_of_mask total).trans ((State.halts_of_mask tripped).trans ?_),
    (State.urgent_of_mask total).trans ((State.urgent_of_mask tripped).trans ?_)⟩
  · dsimp only; rw [clock]; rfl
  · dsimp only; rw [halts, own]
  · dsimp only; rw [count, urgent]

theorem State.enterActive_not_trips {s : State} (low : s.link.txFaults < 160) (h : ¬ s.trips) :
    s.enterActive.share.ownHalt = s.share.ownHalt ∧ s.enterActive.share.haltTimer = s.share.haltTimer
      ∧ s.enterActive.share.halts = s.share.halts ∧ s.enterActive.link.urgent = s.link.urgent := by
  have total := State.enterActive_mask low
  have prepared := State.announced_mask low
  rw [State.tripAtActive_of_not_trips fun x => h ((State.announced_trips low).mp x)] at total
  exact ⟨(State.ownHalt_of_mask total :).trans (State.ownHalt_of_mask prepared :),
    (State.haltTimer_of_mask total :).trans (State.haltTimer_of_mask prepared :),
    (State.halts_of_mask total :).trans (State.halts_of_mask prepared :),
    (State.urgent_of_mask total :).trans (State.urgent_of_mask prepared :)⟩

/-- JOINED is the last report of the entry (R172). -/
theorem State.enterActive_joined {s : State} (low : s.link.txFaults < 160) {c : StartCause}
    (hello : s.station.helloCause = some c) (level : 3 ≤ s.station.reportLevel) (room : s.console.reports.length ≤ 12) :
    ⟨.info, .station, 33, [BitVec.ofNat 32 c.code]⟩ ∈ s.enterActive.console.reports := by
  let last := s.announced.tripAtActive.drainTest.refreshHeld.claimRetest
  have entered : s.enterActive = last.reportJoined c := by rw [State.enterActive_announced, hello]; rfl
  have short : last.console.reports.length < 16 := by
    have same : last.console = s.announced.tripAtActive.console := by
      simp only [last]
      rw [State.claimRetest_eq, State.refreshHeld_eq]
      exact State.drainTest_console _
    have first := State.announced_length_le low
    have second := s.announced.tripAtActive_length_le
    rw [same]; omega
  have levels : 3 ≤ last.station.reportLevel := by
    have masked : last.mask = s.enterActive.mask := by rw [entered]; exact (report_mask ..).symm
    have same := congrArg (fun u => u.station.reportLevel) (masked.trans (State.enterActive_mask low))
    exact level.trans_eq same.symm
  rw [entered, State.reportJoined, State.report_reports (l := .info) .station 33 [c.code] levels short]
  exact List.mem_append_right _ (List.mem_singleton.mpr rfl)

/-- Settles O36: the fields by their mask, the queues by what the entry spares, JOINED by the room for it. -/
theorem listenEndsInActive : Obligations.ListenEndsInActive := by
  intro s d live listen joining low now
  have low' : (s.advance d).link.txFaults < 160 := low
  have total := State.enterActive_mask low'
  have capTimer : (s.advance d).enterActive.share.capTimer = (s.advance d).capTimerActive :=
    congrArg (fun u => u.share.capTimer) total
  refine ⟨_, exec_listenTimerExpiry live listen, (State.stationState_of_mask total :),
    congrArg (fun u => u.station.listen) total, congrArg (fun u => u.station.statusTimer) total,
    (State.table_of_mask total :), (State.plan_of_mask total :), State.enterActive_status low',
    (State.grant_of_mask total :), (State.config_of_mask total :),
    fun c hello level room => State.enterActive_joined low' hello level room, fun c i cap => ⟨capTimer.trans ?_, ?_⟩,
    fun none => ⟨capTimer.trans (if_neg none), State.enterActive_no_capacity low' none⟩,
    fun h => State.enterActive_trips low' h, fun h => State.enterActive_not_trips low' h⟩
  · exact if_pos ⟨i, by rw [advance_share, cap]; rfl⟩
  · exact State.enterActive_capacity low' i cap

end Sys2Proof.Machine

/-! ## What a change of S or C does to the own raise while no own frame is on the line (R43, R48, R50) -/

namespace Sys2Proof.Machine

/-! ### Contents of the other kinds stand -/

/-- No own frame is on the line of `t`, and contents of every kind but `k` stand queued and held as in `s`. -/
structure State.KeepsBut (k : Kind) (s t : State) : Prop where
  line : t.link.onLine = none
  normal : ∀ f : Content, f.kind ≠ k → (f ∈ t.link.normal ↔ f ∈ s.link.normal)
  held : ∀ f : Content, f.kind ≠ k → (t.link.held = some f ↔ s.link.held = some f)

namespace State.KeepsBut

variable {k : Kind} {s t u : State}

theorem frame (line : s.link.onLine = none) (h : t.link = s.link) : s.KeepsBut k t :=
  ⟨by rw [h]; exact line, fun _ _ => by rw [h], fun _ _ => by rw [h]⟩

theorem refl (line : s.link.onLine = none) : s.KeepsBut k s := frame line rfl

theorem trans (h : s.KeepsBut k t) (h' : t.KeepsBut k u) : s.KeepsBut k u :=
  ⟨h'.line, fun f hf => (h'.normal f hf).trans (h.normal f hf), fun f hf => (h'.held f hf).trans (h.held f hf)⟩

theorem after (h' : t.KeepsBut k u) (h : t.link = s.link) : s.KeepsBut k u :=
  ⟨h'.line, fun f hf => by rw [h'.normal f hf, h], fun f hf => by rw [h'.held f hf, h]⟩

theorem withdraw (line : s.link.onLine = none) (k : Kind) : s.KeepsBut k (s.withdraw k) where
  line := by simp only [State.withdraw, Link.withdraw, line, Option.map_none]
  normal f hf := by simp [State.withdraw, Link.withdraw, hf]
  held f hf := by
    simp only [State.withdraw, Link.withdraw]
    split
    · rename_i c e
      split
      · rename_i hc
        have ne : c ≠ f := fun e' => hf (e' ▸ hc)
        simp [e, ne]
      · rw [e]
    · rename_i e
      rw [e]

theorem placeSingle (line : s.link.onLine = none) (c : Content) :
    s.KeepsBut c.kind { s with link := s.link.placeSingle c } := by
  rw [Link.placeSingle_of_line_none c line]
  refine ⟨line, fun f hf => ?_, fun _ _ => Iff.rfl⟩
  have ne : f ≠ c := fun e => hf (e ▸ rfl)
  dsimp only
  split
  · exact State.Spares.replaceKind_mem_iff hf
  · simp [ne]

theorem offerSingle (line : s.link.onLine = none) {c : Content} (hk : c.kind = k) (lower : k ≠ .lower) :
    s.KeepsBut k (s.offerSingle c) := by
  subst hk
  unfold State.offerSingle
  split
  · exact placeSingle line c
  · exact refl line

/-- The claim unit's own test moves CLAIMs alone. -/
theorem claimRetest (line : s.link.onLine = none) : s.KeepsBut .claim s.claimRetest := by
  have placed (v : State) (hv : v.link.onLine = none) (c : ClaimBody) : v.KeepsBut .claim (v.offerSingle (.claim c)) :=
    offerSingle hv rfl nofun
  have offer (r : ClaimRequest) (v : State) (hv : v.link.onLine = none) : v.KeepsBut .claim (v.offerClaim r) := by
    refine (placed _ ?_ _).after rfl
    exact hv
  unfold State.claimRetest
  split
  · unfold State.examineRequest
    split
    · exact refl line
    · split
      · exact frame line rfl
      · exact (offer _ (s.setBlocked none) line).after rfl
  · unfold State.retestQueued
    split
    · exact refl line
    · split
      · exact (withdraw line .claim).trans (frame (withdraw line .claim).line rfl)
      · split
        · split
          · exact refl line
          · exact offer _ _ line
        · exact offer _ _ line
  · exact refl line

end State.KeepsBut

/-- With no own frame on the line, a LOWER that is pending stands queued or held. -/
theorem Link.lowerPending_iff {l : Link} (line : l.onLine = none) {g : Nat} :
    l.lowerPending g = true ↔ .lower g ∈ l.normal ∨ l.held = some (.lower g) := by
  unfold Link.lowerPending Link.holds
  cases held : l.held <;> simp [line]

theorem State.KeepsBut.lowerPending {k : Kind} {s t : State} (h : s.KeepsBut k t) (lower : k ≠ .lower)
    (line : s.link.onLine = none) (g : Nat) : t.link.lowerPending g = s.link.lowerPending g := by
  rw [Bool.eq_iff_iff, Link.lowerPending_iff h.line, Link.lowerPending_iff line, h.normal (.lower g) lower.symm,
    h.held (.lower g) lower.symm]

/-! ### What the raise turns on -/

/-- What the examination of the own raise reads, apart from S, C and the raise, stands. -/
structure State.SameRoom (s t : State) : Prop where
  allowed : t.gov.allowed = s.gov.allowed
  station : t.station = s.station
  poor : t.link.rxPoor = s.link.rxPoor
  grant : t.share.grant = s.share.grant
  lowering : t.share.lowering = s.share.lowering
  halts : t.share.halts = s.share.halts
  feed : t.share.feed = s.share.feed

namespace State.SameRoom

variable {s t u : State}

theorem trans (h : s.SameRoom t) (h' : t.SameRoom u) : s.SameRoom u :=
  ⟨h'.allowed.trans h.allowed, h'.station.trans h.station, h'.poor.trans h.poor, h'.grant.trans h.grant,
    h'.lowering.trans h.lowering, h'.halts.trans h.halts, h'.feed.trans h.feed⟩

theorem transmits (h : s.SameRoom t) : t.transmits = s.transmits := congrArg (fun u => u.state.transmits) h.station

theorem increment (h : s.SameRoom t) : t.increment
    = min (min ((s.gov.allowed : Int) - s.share.grant) 200) ((t.share.capacity : Int) - t.share.resv - s.share.grant) := by
  rw [State.increment, State.headroom, h.allowed, h.grant]

theorem raiseStands (h : s.SameRoom t) : t.raiseStands ↔ s.halted = false ∧ s.share.lowering = none
    ∧ s.station.state = .active ∧ s.link.rxPoor = false ∧ 10 ≤ t.increment := by
  rw [State.raiseStands, State.halted, State.halted, h.halts, h.lowering, h.station, h.poor]

/-- With the same S and no more of C the raise stands no better. -/
theorem raiseStands_of_le (h : s.SameRoom t) (resv : t.share.resv = s.share.resv) (less : t.share.capacity ≤ s.share.capacity)
    (stands : t.raiseStands) : s.raiseStands := by
  obtain ⟨calm, lowering, active, poor, room⟩ := h.raiseStands.mp stands
  refine ⟨calm, lowering, active, poor, room.trans ?_⟩
  rw [h.increment, State.increment, State.headroom, resv]
  omega

theorem feedAtMost (h : s.SameRoom t) (n : Nat) : t.feedAtMost n = s.feedAtMost n := by
  rw [State.feedAtMost, State.feedAtMost, h.feed]

end State.SameRoom

/-- The raise, the yield and the view of `s` stand in `t`, with all that the raise's examination reads. -/
structure State.Aside (s t : State) : Prop where
  room : s.SameRoom t
  raise : t.share.raise = s.share.raise
  owed : t.share.yieldOwed = s.share.yieldOwed
  resv : t.share.resv = s.share.resv
  capacity : t.share.capacity = s.share.capacity
  console : t.console = s.console
  keeps : s.KeepsBut .claim t

namespace State.Aside

variable {s t u : State}

theorem trans (h : s.Aside t) (h' : t.Aside u) : s.Aside u :=
  ⟨h.room.trans h'.room, h'.raise.trans h.raise, h'.owed.trans h.owed, h'.resv.trans h.resv,
    h'.capacity.trans h.capacity, h'.console.trans h.console, h.keeps.trans h'.keeps⟩

theorem setEntry (line : s.link.onLine = none) (j : StationNo) (e : PeerEntry) : s.Aside (s.setEntry j e) :=
  ⟨⟨rfl, rfl, rfl, rfl, rfl, rfl, rfl⟩, rfl, rfl, rfl, rfl, rfl, .frame line rfl⟩

theorem setCaps (line : s.link.onLine = none) (v : Vector (Option Nat) 16) :
    s.Aside { s with share := { s.share with intakeCaps := v } } :=
  ⟨⟨rfl, rfl, rfl, rfl, rfl, rfl, rfl⟩, rfl, rfl, rfl, rfl, rfl, .frame line rfl⟩

theorem claimRetest (line : s.link.onLine = none) : s.Aside s.claimRetest := by
  have eq := (State.OnlyClaims.claimRetest line).eq
  have poor : s.claimRetest.link.rxPoor = s.link.rxPoor := by rw [eq]; rfl
  have share : s.claimRetest.share = s.share := by rw [eq]; rfl
  have gov : s.claimRetest.gov = s.gov := by rw [eq]; rfl
  exact ⟨⟨congrArg Governor.allowed gov, by rw [eq]; rfl, poor, congrArg Share.grant share, congrArg Share.lowering share,
      congrArg Share.halts share, congrArg Share.feed share⟩,
    congrArg Share.raise share, congrArg Share.yieldOwed share, congrArg Share.resv share, congrArg Share.capacity share,
    by rw [eq]; rfl, .claimRetest line⟩

end State.Aside

end Sys2Proof.Machine

/-! ## The raise after the view has changed (R48, R50) -/

namespace Sys2Proof.Machine

/-- The raise of `s` as R48 and R50 leave it in `t`, under the S and C that stand in `t`. -/
structure State.RaiseFollows (s t : State) : Prop where
  room : s.SameRoom t
  line : t.link.onLine = none
  idle : s.share.raise = .none ∨ (∃ b, s.share.raise.isSending b = true) →
    t.share.raise = s.share.raise ∧ t.share.yieldOwed = s.share.yieldOwed ∧ t.console = s.console ∧ s.KeepsBut .claim t
  fits : ∀ x d, s.share.raise = .settling x d → t.share.resv + x ≤ t.share.capacity →
    t.share.raise = .settling x d ∧ t.share.yieldOwed = s.share.yieldOwed ∧ t.console = s.console
  yields : ∀ x d, s.share.raise = .settling x d → t.share.capacity < t.share.resv + x →
    t.share.raise = .none ∧ t.share.yieldOwed = (s.share.yieldOwed || s.transmits)
      ∧ (3 ≤ s.station.reportLevel → s.console.reports.length < 16 →
        ⟨.info, .share, 12, [BitVec.ofNat 32 x, 1#32]⟩ ∈ t.console.reports)
      ∧ (s.transmits = true → s.share.lowering = none → s.feedAtMost (s.share.grant + 10) = true →
        t.link.lowerPending s.share.grant = true)
  stands : ∀ old, s.share.raise = .queued old → t.raiseStands →
    t.share.raise = .queued (s.share.grant + t.increment.toNat)
      ∧ (s.share.grant + t.increment.toNat ≠ old
          ∨ .raise (s.share.grant + t.increment.toNat) s.share.grant ∈ s.link.normal →
        .raise (s.share.grant + t.increment.toNat) s.share.grant ∈ t.link.normal)
  ends : ∀ old, s.share.raise = .queued old → ¬ t.raiseStands →
    t.share.raise = .none ∧ ∀ c ∈ t.link.normal, c.kind ≠ .raise

/-! ### The raise's movements -/

theorem State.settleConflict_of_conflict {s : State} {x d : Nat} (settling : s.share.raise = .settling x d)
    (short : s.share.capacity < s.share.resv + x) : s.settleConflict = s.abandonSettling .conflict := by
  simp only [State.settleConflict, settling, if_pos short]

theorem State.settleConflict_of_fits {s : State} {x d : Nat} (settling : s.share.raise = .settling x d)
    (fits : s.share.resv + x ≤ s.share.capacity) : s.settleConflict = s := by
  simp only [State.settleConflict, settling, if_neg (Nat.not_lt.mpr fits)]

theorem State.reviewRaise_of_not_queued {s : State} (b : Bool) (h : s.share.raise.isQueued = false) : s.reviewRaise b = s := by
  unfold State.reviewRaise
  split
  · rename_i x e
    simp [e, Raise.isQueued] at h
  · rfl

theorem State.offerSingle_lower_mem {s : State} (tx : s.transmits = true) (line : s.link.onLine = none) (g : Nat) :
    .lower g ∈ (s.offerSingle (.lower g)).link.normal := by
  have offered : s.offerSingle (.lower g) = { s with link := (s.link.withdraw .raise).placeSingle (.lower g) } := if_pos tx
  rw [offered]
  refine (Link.placeSingle_stands ..).2 ?_
  simp [Link.lineKind, Link.withdraw, line]

theorem State.offerSingle_onLine (c : Content) {s : State} (line : s.link.onLine = none) :
    (s.offerSingle c).link.onLine = none :=
  State.line_of_mask (offerSingle_mask c s) line

/-- A SETTLING raise abandoned (R50): where its LOWER can be sent the yield is owed and tested at once (R57). -/
theorem State.abandonSettling_eq {s : State} {x d : Nat} (settling : s.share.raise = .settling x d) (c : YieldCause) :
    ∃ v : State, s.abandonSettling c = (if s.transmits then v.yieldTest else v)
      ∧ v = { s with
        share := { s.share with raise := .none, yieldOwed := s.share.yieldOwed || s.transmits }, console := v.console }
      ∧ (3 ≤ s.station.reportLevel → s.console.reports.length < 16 →
        ⟨.info, .share, 12, [BitVec.ofNat 32 x, BitVec.ofNat 32 c.code]⟩ ∈ v.console.reports) := by
  have told := State.report_reports (l := .info) (s := s.setRaise .none) .share 12 [x, c.code]
  have reported := State.report_eq .info .share 12 [x, c.code] (s.setRaise .none)
  have listed (level : 3 ≤ s.station.reportLevel) (room : s.console.reports.length < 16) :
      ⟨.info, .share, 12, [BitVec.ofNat 32 x, BitVec.ofNat 32 c.code]⟩
        ∈ ((s.setRaise .none).reportRaiseYielded x c).console.reports := by
    rw [State.reportRaiseYielded, told level room]
    exact List.mem_append_right _ (List.mem_singleton.mpr rfl)
  cases tx : s.transmits with
  | true =>
    refine ⟨{ (s.setRaise .none).reportRaiseYielded x c with
      share := { ((s.setRaise .none).reportRaiseYielded x c).share with yieldOwed := true } }, ?_, ?_, listed⟩
    · simp only [State.abandonSettling, settling, tx]; rfl
    · rw [Bool.or_true, State.reportRaiseYielded, reported]; rfl
  | false =>
    refine ⟨(s.setRaise .none).reportRaiseYielded x c, ?_, ?_, listed⟩
    · simp only [State.abandonSettling, settling, tx]; rfl
    · rw [Bool.or_false, State.reportRaiseYielded, reported]; rfl

theorem State.yieldTest_share (s : State) : s.yieldTest.share = s.share := by
  unfold State.yieldTest
  split
  · exact State.offerSingle_share ..
  · rfl

theorem State.yieldTest_owed {s : State} (owed : s.share.yieldOwed = true) (lowering : s.share.lowering = none)
    (feed : s.feedAtMost (s.share.grant + 10) = true) : s.yieldTest = s.offerSingle (.lower s.share.grant) := by
  unfold State.yieldTest
  exact if_pos (by simp [owed, lowering, feed])

/-- A SETTLING raise abandoned while no own frame is on the line. -/
theorem State.abandonSettling_settling {s : State} {x d : Nat} (settling : s.share.raise = .settling x d) (c : YieldCause)
    (line : s.link.onLine = none) :
    (s.abandonSettling c).share = { s.share with raise := .none, yieldOwed := s.share.yieldOwed || s.transmits }
      ∧ (3 ≤ s.station.reportLevel → s.console.reports.length < 16 →
        ⟨.info, .share, 12, [BitVec.ofNat 32 x, BitVec.ofNat 32 c.code]⟩ ∈ (s.abandonSettling c).console.reports)
      ∧ (s.transmits = true → s.share.lowering = none → s.feedAtMost (s.share.grant + 10) = true →
        (s.abandonSettling c).link.lowerPending s.share.grant = true) := by
  obtain ⟨v, ended, shape, told⟩ := State.abandonSettling_eq settling c
  have share : v.share = { s.share with raise := .none, yieldOwed := s.share.yieldOwed || s.transmits } := by rw [shape]
  rw [ended]
  refine ⟨?_, fun level room => ?_, fun tx lowering feed => ?_⟩
  · split
    · exact (State.yieldTest_share v).trans share
    · exact share
  · have after : v.console.reports <+: (if s.transmits then v.yieldTest else v).console.reports := by
      split
      · exact (State.Reaches.refl.yieldTest).reports
      · exact List.prefix_refl _
    exact after.subset (told level room)
  · have grant : v.share.grant = s.share.grant := by rw [share]
    have line' : v.link.onLine = none := by rw [shape]; exact line
    have tx' : v.transmits = true := by rw [shape]; exact tx
    have feed' : v.feedAtMost (v.share.grant + 10) = true := by rw [grant, State.feedAtMost, share]; exact feed
    rw [if_pos tx, State.yieldTest_owed (by rw [share, tx, Bool.or_true]) (by rw [share]; exact lowering) feed', grant]
    exact (Link.lowerPending_iff (State.offerSingle_onLine _ line')).mpr (.inl (State.offerSingle_lower_mem tx' line' _))

/-! ### One recomputation -/

theorem State.SameRoom.onlyRaise {s t : State} (h : s.OnlyRaise t) (masked : t.mask = s.mask) : s.SameRoom t := by
  have poor : t.link.rxPoor = s.link.rxPoor := congrArg (fun u => u.link.rxPoor) masked
  exact ⟨by rw [h], by rw [h], poor, by rw [h], by rw [h], by rw [h], by rw [h]⟩

/-- A view put in place, before the raise is examined. -/
def State.viewed (resv capacity : Nat) (s : State) : State :=
  { s with share := { s.share with resv := resv, capacity := capacity } }

/-- R48 and then R50 under a view (R43). -/
def State.examined (resv capacity : Nat) (s : State) : State := ((s.viewed resv capacity).reviewRaise false).settleConflict

theorem State.recompute_examined (s : State) : s.recompute =
    if s.sumReserved = s.share.resv ∧ s.effectiveCapacity = s.share.capacity then s
    else s.examined s.sumReserved s.effectiveCapacity := rfl

section

variable {s : State} (resv capacity : Nat)

theorem State.examined_onlyRaise : (s.viewed resv capacity).OnlyRaise (s.examined resv capacity) :=
  (State.OnlyRaise.reviewRaise false).trans .settleConflict

theorem State.examined_mask : (s.examined resv capacity).mask = s.mask :=
  (settleConflict_mask _).trans (reviewRaise_mask ..)

theorem State.examined_room : s.SameRoom (s.examined resv capacity) :=
  .onlyRaise (.trans (t := s.viewed resv capacity) rfl (State.examined_onlyRaise ..)) (State.examined_mask ..)

theorem State.examined_of_idle (queued : s.share.raise.isQueued = false) (settling : s.share.raise.isSettling = false) :
    s.examined resv capacity = s.viewed resv capacity := by
  unfold State.examined
  rw [State.reviewRaise_of_not_queued (s := s.viewed resv capacity) false queued]
  exact State.settleConflict_of_not_settling (s.viewed resv capacity) settling

theorem State.examined_settling {x d : Nat} (settling : s.share.raise = .settling x d) :
    s.examined resv capacity = if capacity < resv + x then (s.viewed resv capacity).abandonSettling .conflict
      else s.viewed resv capacity := by
  have stays : (s.viewed resv capacity).reviewRaise false = s.viewed resv capacity :=
    State.reviewRaise_of_not_queued false (by change s.share.raise.isQueued = false; rw [settling]; rfl)
  unfold State.examined
  rw [stays]
  split
  · rename_i short
    exact State.settleConflict_of_conflict (s := s.viewed resv capacity) settling short
  · rename_i fits
    exact State.settleConflict_of_fits (s := s.viewed resv capacity) settling (Nat.not_lt.mp fits)

theorem State.examined_queued {x : Nat} (queued : s.share.raise = .queued x) :
    s.examined resv capacity = (s.viewed resv capacity).reviewRaise false := by
  refine State.settleConflict_of_not_settling _ ?_
  by_cases stands : (s.viewed resv capacity).raiseStands
  · rw [State.reviewRaise_stands (s := s.viewed resv capacity) queued stands]
    split
    · change s.share.raise.isSettling = false
      rw [queued]; rfl
    · rw [State.offerRaise, State.offerSingle_share]; rfl
  · rw [State.reviewRaise_ends (s := s.viewed resv capacity) queued stands]; rfl

theorem State.offerRaise_share (x : Nat) (s : State) : (s.offerRaise x).share = { s.share with raise := .queued x } :=
  State.offerSingle_share ..

theorem State.examined_view (line : s.link.onLine = none) : (s.examined resv capacity).share.resv = resv
    ∧ (s.examined resv capacity).share.capacity = capacity := by
  cases raise : s.share.raise with
  | none | sending =>
    rw [State.examined_of_idle resv capacity (by rw [raise]; rfl) (by rw [raise]; rfl)]
    exact ⟨rfl, rfl⟩
  | queued x =>
    rw [State.examined_queued resv capacity raise]
    by_cases stands : (s.viewed resv capacity).raiseStands
    · rw [State.reviewRaise_stands (s := s.viewed resv capacity) raise stands]
      split
      · exact ⟨rfl, rfl⟩
      · rw [State.offerRaise_share]; exact ⟨rfl, rfl⟩
    · rw [State.reviewRaise_ends (s := s.viewed resv capacity) raise stands]
      exact ⟨rfl, rfl⟩
  | settling x d =>
    rw [State.examined_settling resv capacity raise]
    split
    · rw [(State.abandonSettling_settling (s := s.viewed resv capacity) raise .conflict line).1]
      exact ⟨rfl, rfl⟩
    · exact ⟨rfl, rfl⟩

theorem State.SameRoom.viewed_iff {s t : State} (h : s.SameRoom t) :
    t.raiseStands ↔ (s.viewed t.share.resv t.share.capacity).raiseStands := by
  rw [h.raiseStands, h.increment]
  exact Iff.rfl

theorem State.offerRaise_mem {s : State} (tx : s.transmits = true) (line : s.link.onLine = none) (x : Nat) :
    .raise x s.share.grant ∈ (s.offerRaise x).link.normal := by
  have offered : s.offerRaise x = { s.setRaise (.queued x) with link := s.link.placeSingle (.raise x s.share.grant) } :=
    State.offerSingle_of_transmits (s := s.setRaise (.queued x)) (c := .raise x s.share.grant) tx nofun
  rw [offered]
  exact (Link.placeSingle_stands _ _).2 (by simp [Link.lineKind, line])

/-- The examination under a view leaves the raise as R48 and R50 say. -/
theorem State.examined_follows (line : s.link.onLine = none) : s.RaiseFollows (s.examined resv capacity) := by
  obtain ⟨hresv, hcap⟩ := State.examined_view resv capacity line
  have room : s.SameRoom (s.examined resv capacity) := State.examined_room ..
  have standsIff := room.viewed_iff
  have increment : (s.examined resv capacity).increment = (s.viewed resv capacity).increment := by
    rw [room.increment, hresv, hcap]; rfl
  rw [hresv, hcap] at standsIff
  have viewed : s.KeepsBut .claim (s.viewed resv capacity) := .frame line rfl
  constructor
  case room => exact room
  case line => exact State.line_of_mask (State.examined_mask ..) line
  case idle =>
    intro idle
    have same : s.examined resv capacity = s.viewed resv capacity := by
      refine State.examined_of_idle resv capacity ?_ ?_ <;>
      · obtain none | ⟨b, sending⟩ := idle
        · rw [none]; rfl
        · cases raise : s.share.raise <;> simp_all [Raise.isQueued, Raise.isSettling, Raise.isSending]
    rw [same]
    exact ⟨rfl, rfl, rfl, viewed⟩
  case fits =>
    intro x d settling fits
    rw [hresv, hcap] at fits
    rw [State.examined_settling resv capacity settling, if_neg (Nat.not_lt.mpr fits)]
    exact ⟨settling, rfl, rfl⟩
  case yields =>
    intro x d settling short
    rw [hresv, hcap] at short
    obtain ⟨share, told, lower⟩ := State.abandonSettling_settling (s := s.viewed resv capacity) settling .conflict line
    rw [State.examined_settling resv capacity settling, if_pos short]
    exact ⟨by rw [share], by rw [share]; rfl, told, lower⟩
  case stands =>
    intro old queued stands
    rw [increment]
    have review := State.reviewRaise_stands (s := s.viewed resv capacity) queued (standsIff.mp stands)
    have reviewed := (State.examined_queued resv capacity queued).trans review
    by_cases same : s.share.grant + (s.viewed resv capacity).increment.toNat = old
    · rw [reviewed.trans (if_pos same)]
      exact ⟨same ▸ queued, fun stood => stood.resolve_left (not_not_intro same)⟩
    · have tx : (s.viewed resv capacity).transmits = true :=
        State.transmits_of_active (standsIff.mp stands).2.2.1
      rw [reviewed.trans (if_neg same)]
      exact ⟨by rw [State.offerRaise_share]; rfl, fun _ => State.offerRaise_mem tx line _⟩
  case ends =>
    intro old queued falls
    rw [State.examined_queued resv capacity queued,
      State.reviewRaise_ends (s := s.viewed resv capacity) queued fun h => falls (standsIff.mpr h)]
    refine ⟨rfl, fun c hc => ?_⟩
    simp only [State.setRaise, State.withdraw, Link.withdraw, List.mem_filter, bne_iff_ne, ne_eq] at hc
    exact hc.2

end

end Sys2Proof.Machine

/-! ## One change of the view after another (R43, R48, R50, R116) -/

namespace Sys2Proof.Machine

/-- The station's part of the report condition, and what the raise reads, seen through what stands. -/
theorem State.Aside.increment {s t : State} (h : s.Aside t) : t.increment = s.increment := by
  rw [h.room.increment, State.increment, State.headroom, h.resv, h.capacity]

theorem State.Aside.raiseStands {s t : State} (h : s.Aside t) : t.raiseStands ↔ s.raiseStands := by
  rw [h.room.raiseStands, h.increment, State.raiseStands]

namespace State.RaiseFollows

variable {s t u : State}

theorem aside (h : s.RaiseFollows t) (a : t.Aside u) : s.RaiseFollows u where
  room := h.room.trans a.room
  line := a.keeps.line
  idle i :=
    have ⟨raise, owed, console, keeps⟩ := h.idle i
    ⟨a.raise.trans raise, a.owed.trans owed, a.console.trans console, keeps.trans a.keeps⟩
  fits x d e f := by
    rw [a.resv, a.capacity] at f
    have ⟨raise, owed, console⟩ := h.fits x d e f
    exact ⟨a.raise.trans raise, a.owed.trans owed, a.console.trans console⟩
  yields x d e f := by
    rw [a.resv, a.capacity] at f
    have ⟨raise, owed, told, lower⟩ := h.yields x d e f
    refine ⟨a.raise.trans raise, a.owed.trans owed, fun l r => by rw [a.console]; exact told l r, fun tx l f => ?_⟩
    rw [a.keeps.lowerPending nofun h.line]
    exact lower tx l f
  stands old e f := by
    have ⟨raise, moved⟩ := h.stands old e (a.raiseStands.mp f)
    rw [a.increment]
    exact ⟨a.raise.trans raise, fun stood => (a.keeps.normal (.raise _ _) nofun).mpr (moved stood)⟩
  ends old e f := by
    have ⟨raise, gone⟩ := h.ends old e fun k => f (a.raiseStands.mpr k)
    refine ⟨a.raise.trans raise, fun c hc isRaise => ?_⟩
    exact gone c ((a.keeps.normal c (by rw [isRaise]; nofun)).mp hc) isRaise

theorem after (h : t.RaiseFollows u) (a : s.Aside t) : s.RaiseFollows u where
  room := a.room.trans h.room
  line := h.line
  idle i := by
    rw [← a.raise] at i
    have ⟨raise, owed, console, keeps⟩ := h.idle i
    exact ⟨raise.trans a.raise, owed.trans a.owed, console.trans a.console, a.keeps.trans keeps⟩
  fits x d e f :=
    have ⟨raise, owed, console⟩ := h.fits x d (a.raise.trans e) f
    ⟨raise, owed.trans a.owed, console.trans a.console⟩
  yields x d e f := by
    have ⟨raise, owed, told, lower⟩ := h.yields x d (a.raise.trans e) f
    rw [a.room.feedAtMost, a.room.grant, a.room.lowering, a.room.transmits] at lower
    rw [a.console, a.room.station] at told
    exact ⟨raise, by rw [owed, a.owed, a.room.transmits], told, lower⟩
  stands old e f := by
    have ⟨raise, moved⟩ := h.stands old (a.raise.trans e) f
    rw [a.room.grant] at raise moved
    exact ⟨raise, fun stood => moved (stood.imp_right (a.keeps.normal (.raise _ _) nofun).mpr)⟩
  ends old e f := h.ends old (a.raise.trans e) f

/-- A second change that takes C no higher, with S the same, leaves the raise as though it had come alone. -/
theorem chain (h : s.RaiseFollows t) (h' : t.RaiseFollows u) (resv : u.share.resv = t.share.resv)
    (less : u.share.capacity ≤ t.share.capacity) : s.RaiseFollows u where
  room := h.room.trans h'.room
  line := h'.line
  idle i :=
    have ⟨raise, owed, console, keeps⟩ := h.idle i
    have ⟨raise', owed', console', keeps'⟩ := h'.idle (raise ▸ i)
    ⟨raise'.trans raise, owed'.trans owed, console'.trans console, keeps.trans keeps'⟩
  fits x d e f :=
    have ⟨raise, owed, console⟩ := h.fits x d e (by omega)
    have ⟨raise', owed', console'⟩ := h'.fits x d raise f
    ⟨raise', owed'.trans owed, console'.trans console⟩
  yields x d e f := by
    by_cases fits : t.share.resv + x ≤ t.share.capacity
    · have ⟨raise, owed, console⟩ := h.fits x d e fits
      have ⟨raise', owed', told, lower⟩ := h'.yields x d raise f
      rw [h.room.feedAtMost, h.room.grant, h.room.lowering, h.room.transmits] at lower
      rw [console, h.room.station] at told
      exact ⟨raise', by rw [owed', owed, h.room.transmits], told, lower⟩
    · have ⟨raise, owed, told, lower⟩ := h.yields x d e (by omega)
      have ⟨raise', owed', console, keeps⟩ := h'.idle (.inl raise)
      refine ⟨raise'.trans raise, owed'.trans owed, fun l r => by rw [console]; exact told l r, fun tx l f => ?_⟩
      rw [keeps.lowerPending nofun h.line]
      exact lower tx l f
  stands old e f := by
    have ⟨raise, moved⟩ := h.stands old e (h'.room.raiseStands_of_le resv less f)
    have ⟨raise', moved'⟩ := h'.stands _ raise f
    rw [h.room.grant] at raise' moved'
    refine ⟨raise', fun stood => ?_⟩
    by_cases again : s.share.grant + u.increment.toNat = s.share.grant + t.increment.toNat
    · rw [← again] at moved
      exact moved' (.inr (moved stood))
    · exact moved' (.inl again)
  ends old e f := by
    by_cases stands : t.raiseStands
    · exact h'.ends _ (h.stands old e stands).1 f
    · have ⟨raise, gone⟩ := h.ends old e stands
      obtain ⟨raise', -, -, keeps⟩ := h'.idle (.inl raise)
      refine ⟨raise'.trans raise, fun c hc isRaise => ?_⟩
      exact gone c ((keeps.normal c (by rw [isRaise]; nofun)).mp hc) isRaise

end State.RaiseFollows

end Sys2Proof.Machine

/-! ## What the lowering's movements and a yield leave unchanged (R52, R53, R116) -/

namespace Sys2Proof.Machine

theorem State.handMachine_eq (f : MachineFrame) (s : State) :
    s.handMachine f = { s with machine := (s.handMachine f).machine } := by
  unfold State.handMachine; split <;> rfl

theorem State.setFeed_eq (f : Nat) (s : State) :
    s.setFeed f = { s with gov := (s.setFeed f).gov, machine := (s.setFeed f).machine } := by
  unfold State.setFeed; split <;> rfl

theorem State.holdOffClamp_eq (c : HoldOff) (s : State) :
    s.holdOffClamp c = { s with gov := (s.holdOffClamp c).gov, machine := (s.holdOffClamp c).machine } := by
  have stopped : (s.setFeed 0).handMachine (.setpoint 0) = { s with
      gov := ((s.setFeed 0).handMachine (.setpoint 0)).gov, machine := ((s.setFeed 0).handMachine (.setpoint 0)).machine } := by
    rw [State.handMachine_eq, State.setFeed_eq]
  unfold State.holdOffClamp
  dsimp only
  split
  · split
    · rw [stopped]
    · rfl
  · rfl

theorem State.clampIfRan_eq (b : Bool) (s : State) :
    s.clampIfRan b = { s with gov := (s.clampIfRan b).gov, machine := (s.clampIfRan b).machine } := by
  unfold State.clampIfRan
  split
  · exact State.holdOffClamp_eq ..
  · rfl

/-- `t` comes of `s` by movements of the lowering and of the feed's clamps: the rest of the share unit and the other blocks
stand. -/
def State.OnlyLowering (s t : State) : Prop :=
  t = { s with
    link := t.link, gov := t.gov, machine := t.machine
    share := { s.share with
      lowering := t.share.lowering, releaseTimer := t.share.releaseTimer, yieldOwed := t.share.yieldOwed } }

namespace State.OnlyLowering

variable {s t u : State}

theorem refl : s.OnlyLowering s := rfl

theorem trans (h : s.OnlyLowering t) (h' : t.OnlyLowering u) : s.OnlyLowering u := by
  unfold State.OnlyLowering at h h'
  rw [h] at h'
  exact h'

theorem handMachine (f : MachineFrame) : s.OnlyLowering (s.handMachine f) := by
  rw [State.handMachine_eq]; rfl

theorem setFeed (f : Nat) : s.OnlyLowering (s.setFeed f) := by
  rw [State.setFeed_eq]; rfl

theorem loweringClamp (n : Nat) : s.OnlyLowering (s.loweringClamp n) := by
  unfold State.loweringClamp
  split
  · exact (setFeed _).trans (handMachine _)
  · exact refl

theorem offerSingle (c : Content) : s.OnlyLowering (s.offerSingle c) := by
  rw [State.offerSingle_eq]; rfl

theorem setLowering (l : Option Lowering) : s.OnlyLowering (s.setLowering l) := rfl

theorem drainTest : s.OnlyLowering s.drainTest := by
  unfold State.drainTest
  split
  · split
    · exact (setLowering _).trans (offerSingle _)
    · exact refl
  · exact refl

theorem armDrain : s.OnlyLowering s.armDrain := by
  unfold State.armDrain
  split
  · split
    · exact setLowering _
    · exact refl
  · exact refl

theorem startLowering (c : LowerCause) (n : Nat) : s.OnlyLowering (s.startLowering c n) := by
  have started (v : State) (l : Lowering) : v.OnlyLowering
    { v with share := { v.share with lowering := some l, releaseTimer := none, yieldOwed := false } } := rfl
  exact (((started s _).trans (loweringClamp n)).trans drainTest).trans armDrain

theorem deepenLowering (l : Lowering) (c : LowerCause) (n : Nat) : s.OnlyLowering (s.deepenLowering l c n) :=
  (((setLowering _).trans (loweringClamp n)).trans drainTest).trans armDrain

/-- Once its raise is at an end, a lower request whose requester takes no signal moves the lowering alone. -/
theorem lowerRequest {c : LowerCause} (quiet : ∀ v : State, v.signalDrained c = v) (n : Nat) :
    (s.abandonRaise .lower).OnlyLowering (s.lowerRequest c n) := by
  unfold State.lowerRequest
  dsimp only
  split
  · split
    · exact startLowering c n
    · rw [quiet]; exact refl
  · split
    · exact deepenLowering _ c n
    · exact setLowering _

theorem raise (h : s.OnlyLowering t) : t.share.raise = s.share.raise := by rw [h]

end State.OnlyLowering

theorem State.lowerRequest_alive {c : LowerCause} (quiet : ∀ v : State, v.signalDrained c = v) (n : Nat) (s : State) :
    (s.lowerRequest c n).share.raise.alive = false := by
  rw [(State.OnlyLowering.lowerRequest quiet n).raise]
  exact State.abandonRaise_alive .lower s

/-! ### A yield (R116, R133) -/

/-- With the own claim RELEASING, the release request of the order unit waits (R117). -/
theorem State.orderRelease_of_releasing {s : State} (h : s.claim.phase = .releasing) :
    s.orderRelease.share = s.share ∧ s.orderRelease.claim.phase = .releasing := by
  simp only [State.orderRelease, State.startRelease, h]
  exact ⟨rfl, h⟩

theorem State.orderYield_of_releasing {s : State} (h : s.claim.phase = .releasing) :
    s.orderYield.share = s.share ∧ s.orderYield.claim.phase = .releasing := by
  have waits (u : OrderUnit) := State.orderRelease_of_releasing (s := { s with order := u }) h
  unfold State.orderYield
  split
  · exact ⟨rfl, h⟩
  · split
    · exact waits _
    · refine (State.orderRelease_of_releasing ?_).imp_left fun e => e.trans ?_
      · rw [State.clampIfRan_eq]; exact h
      · rw [State.clampIfRan_eq]
    · exact State.orderRelease_of_releasing h
    · exact State.orderRelease_of_releasing h
    · exact State.orderRelease_of_releasing h
    · exact ⟨rfl, h⟩

theorem State.enterReleasing_eq (s : State) : s.enterReleasing.share = s.share ∧ s.enterReleasing.claim.phase = .releasing := by
  unfold State.enterReleasing
  dsimp only
  split
  · exact ⟨State.offerSingle_share .., by rw [State.offerSingle_claim]⟩
  · exact ⟨rfl, rfl⟩

/-- A claim that yields makes its lower request, and is RELEASING (R116). -/
theorem State.yieldClaim_eq (c : ClaimBody) (j : StationNo) (k : Conflict) (s : State) :
    (s.yieldClaim c j k).share = (s.stopTravel.lowerRequest .claim 0).share
      ∧ (s.yieldClaim c j k).claim.phase = .releasing := by
  obtain ⟨share, phase⟩ := State.enterReleasing_eq (s.stopTravel.lowerRequest .claim 0)
  have reported : ((s.stopTravel.lowerRequest .claim 0).enterReleasing.reportClaimYielded c.hold c.slot j k).share
      = (s.stopTravel.lowerRequest .claim 0).share := by
    rw [State.reportClaimYielded, State.report_eq]; exact share
  have releasing : ((s.stopTravel.lowerRequest .claim 0).enterReleasing.reportClaimYielded c.hold c.slot j k).claim.phase
      = .releasing := by
    rw [State.reportClaimYielded, State.report_eq]; exact phase
  obtain ⟨share', phase'⟩ := State.orderYield_of_releasing releasing
  exact ⟨share'.trans reported, phase'⟩

/-- The conflict test finds nothing to yield to, or the claim yields (R113, R116). -/
theorem State.conflictTest_cases (f : Found) (s : State) :
    s.conflictTest f = s ∨ (s.claim.phase ≠ .releasing ∧ ∃ c j k, s.conflictTest f = s.yieldClaim c j k) := by
  unfold State.conflictTest
  split
  · rename_i settled
    split
    · split
      · refine .inr ⟨?_, _, _, _, rfl⟩
        obtain e | e := settled <;> rw [e] <;> nofun
      · exact .inl rfl
    · exact .inl rfl
  · exact .inl rfl

theorem State.claimRetest_not_releasing {s : State} (h : s.claim.phase ≠ .releasing) :
    s.claimRetest.claim.phase ≠ .releasing := by
  have offered (r : ClaimRequest) (v : State) : (v.offerClaim r).claim.phase ≠ .releasing := by
    unfold State.offerClaim
    dsimp only
    rw [State.offerSingle_claim]
    nofun
  unfold State.claimRetest
  split
  · unfold State.examineRequest
    split
    · exact h
    · split
      · exact h
      · exact offered _ _
  · unfold State.retestQueued
    split
    · exact h
    · split
      · exact nofun
      · split
        · split
          · exact h
          · exact offered _ _
        · exact offered _ _
  · exact h

end Sys2Proof.Machine

/-! ## S and C after a sender has been heard again (R24, R28, R43, R44) -/

namespace Sys2Proof.Machine

/-! ### C -/

theorem le_foldl_minOpt {x : Nat} : ∀ {l : List (Option Nat)} {c : Nat},
    x ≤ l.foldl minOpt c ↔ x ≤ c ∧ ∀ d, some d ∈ l → x ≤ d
  | [], c => by simp
  | none :: l, c => by
    rw [List.foldl_cons, le_foldl_minOpt]
    simp [minOpt]
  | some e :: l, c => by
    rw [List.foldl_cons, le_foldl_minOpt]
    simp [minOpt, and_assoc]

/-- Every bound of C (R44). -/
theorem State.le_effectiveCapacity {s : State} {c : ConfigRecord} (config : s.station.config = some c) {x : Nat} :
    x ≤ s.effectiveCapacity ↔ (x ≤ c.capacity ∧ ∀ i ∈ s.peers, ∀ d, (s.entry i).markedCapacity = some d → x ≤ d)
      ∧ ∀ i : StationNo, i ∈ stations → ∀ d, s.share.intakeCaps[i] = some d → x ≤ d := by
  unfold State.effectiveCapacity
  rw [config]
  dsimp only
  rw [le_foldl_minOpt, le_foldl_minOpt]
  simp only [List.mem_map]
  grind

/-- S, C and what else the raise's view is made of: the entries, the configuration and the straps. -/
structure State.SameView (s t : State) : Prop where
  table : t.table = s.table
  config : t.station.config = s.station.config
  straps : t.station.straps = s.station.straps

theorem State.SameView.sumReserved {s t : State} (h : s.SameView t) : t.sumReserved = s.sumReserved := by
  unfold State.sumReserved State.peers State.own State.entry
  rw [h.table, h.straps]

theorem State.mem_peers {s : State} {j : StationNo} (peer : j ≠ s.own) : j ∈ s.peers := by
  have all : ∀ i : StationNo, i ∈ stations := by decide
  simp [State.peers, peer, all j]

/-- Where a station is heard again, C falls, if it moves, to the capacity that the entry's mark holds. -/
theorem State.capacity_after_hearing {s t : State} {j : StationNo} (peer : j ≠ s.own)
    (config : t.station.config = s.station.config) (straps : t.station.straps = s.station.straps)
    (others : ∀ i, i ≠ j → t.entry i = s.entry i) (caps : t.share.intakeCaps = s.share.intakeCaps)
    (mark : (t.entry j).markedCapacity = (s.entry j).markedCapacity ∨ (s.entry j).markedCapacity = none) :
    t.effectiveCapacity = s.effectiveCapacity ∨ (t.effectiveCapacity < s.effectiveCapacity
      ∧ ∀ u : State, t.SameView u → u.effectiveCapacity ≤ t.effectiveCapacity) := by
  have peers : t.peers = s.peers := by unfold State.peers State.own; rw [straps]
  cases c : s.station.config with
  | none =>
    have c' := config.trans c
    left
    simp only [State.effectiveCapacity, c, c']
  | some r =>
    have c' := config.trans c
    have bounds (x : Nat) : x ≤ t.effectiveCapacity ↔
        x ≤ s.effectiveCapacity ∧ ∀ d, (t.entry j).markedCapacity = some d → x ≤ d := by
      rw [State.le_effectiveCapacity c, State.le_effectiveCapacity c', peers, caps]
      have member : j ∈ s.peers := State.mem_peers peer
      constructor
      · rintro ⟨⟨own, marks⟩, list⟩
        refine ⟨⟨⟨own, fun i hi d e => ?_⟩, list⟩, marks j member⟩
        by_cases same : i = j
        · subst same
          obtain kept | fresh := mark
          · exact marks i hi d (kept.trans e)
          · exact absurd (fresh.symm.trans e) nofun
        · exact marks i hi d (by rw [others i same]; exact e)
      · rintro ⟨⟨⟨own, marks⟩, list⟩, marked⟩
        refine ⟨⟨own, fun i hi d e => ?_⟩, list⟩
        by_cases same : i = j
        · subst same; exact marked d e
        · exact marks i hi d (by rw [← others i same]; exact e)
    have least := (bounds t.effectiveCapacity).mp le_rfl
    cases marked : (t.entry j).markedCapacity with
    | none =>
      exact .inl (le_antisymm least.1 ((bounds _).mpr ⟨le_rfl, fun d e => absurd (marked.symm.trans e) nofun⟩))
    | some d =>
      have only (x : Nat) (h : x ≤ d) : ∀ e, (t.entry j).markedCapacity = some e → x ≤ e := by
        intro e he
        cases marked.symm.trans he
        exact h
      by_cases above : s.effectiveCapacity ≤ d
      · exact .inl (le_antisymm least.1 ((bounds _).mpr ⟨le_rfl, only _ above⟩))
      · have reached := (bounds d).mpr ⟨by omega, only d le_rfl⟩
        have within := least.2 d marked
        refine .inr ⟨by omega, fun u view => ?_⟩
        have entry : u.entry j = t.entry j := by unfold State.entry; rw [view.table]
        have peers' : j ∈ u.peers := State.mem_peers (by rw [State.own, view.straps, straps]; exact peer)
        have held := ((State.le_effectiveCapacity (view.config.trans c')).mp le_rfl).1.2 j peers' d (by rw [entry]; exact marked)
        omega

/-! ### S -/

/-- An entry that held nothing and is heard again adds nothing to S (R24, R28). -/
theorem State.sumReserved_after_hearing {s t : State} {j : StationNo} (straps : t.station.straps = s.station.straps)
    (others : ∀ i, i ≠ j → t.entry i = s.entry i)
    (same : ∀ b, (if (t.entry j).counted b then (t.entry j).reservation else 0)
      = if (s.entry j).counted b then (s.entry j).reservation else 0) :
    t.sumReserved = s.sumReserved := by
  have peers : t.peers = s.peers := by unfold State.peers State.own; rw [straps]
  unfold State.sumReserved
  rw [peers, straps]
  refine congrArg List.sum (List.map_congr_left fun i _ => ?_)
  by_cases e : i = j
  · rw [e]; exact same _
  · rw [others i e]

namespace PeerEntry

variable (e : PeerEntry) (t : Nat)

theorem hear_counted (b : Belt) (held : e.heard = false → e.grant = 0 ∧ e.raise = none ∧ e.claim = none) :
    (if (e.hear false t).counted b then (e.hear false t).reservation else 0) = if e.counted b then e.reservation else 0 := by
  have reservation : (e.hear false t).reservation = e.reservation := rfl
  cases heard : e.heard with
  | true =>
    have counted : (e.hear false t).counted b = e.counted b := by
      unfold PeerEntry.counted
      rw [heard]; rfl
    rw [counted, reservation]
  | false =>
    obtain ⟨grant, raise, -⟩ := held heard
    have nothing : e.reservation = 0 := by rw [PeerEntry.reservation, raise]; exact grant
    rw [reservation, nothing, ite_self, ite_self]

theorem hear_marked : (e.hear false t).markedCapacity = e.markedCapacity ∨ e.markedCapacity = none := by
  cases heard : e.heard with
  | true => left; unfold PeerEntry.markedCapacity; rw [heard]; rfl
  | false => right; unfold PeerEntry.markedCapacity; rw [heard]; rfl

theorem hear_unchanged (present : e.presence = .present) : (e.hear false t).changed e = false := by
  simp [PeerEntry.changed, PeerEntry.hear, present]

end PeerEntry

end Sys2Proof.Machine

/-! ## The own raise after a good frame of a peer (R25, R43, R48, R50, R116) -/

namespace Sys2Proof.Machine

theorem State.recompute_follows {s : State} (line : s.link.onLine = none) :
    (s.recompute = s ∧ s.viewCurrent) ∨ (s.RaiseFollows s.recompute ∧ ¬ s.viewCurrent
      ∧ s.recompute.share.resv = s.sumReserved ∧ s.recompute.share.capacity = s.effectiveCapacity) := by
  rw [State.recompute_examined]
  split
  · rename_i current
    exact .inl ⟨rfl, current.1.symm, current.2.symm⟩
  · rename_i stale
    exact .inr ⟨State.examined_follows _ _ line, fun v => stale ⟨v.1.symm, v.2.symm⟩, State.examined_view _ _ line⟩

theorem State.recompute_claim (s : State) : s.recompute.claim = s.claim := State.OnlyRaise.recompute.claim

/-- What has become of the own raise between two states: the own claim has yielded and no raise is left alive, or the claim
has not yielded and the raise stands beside an unmoved view, or follows one that moved. -/
def State.Followed (s t : State) : Prop :=
  (s.claim.phase ≠ .releasing ∧ t.claim.phase = .releasing ∧ t.share.raise.alive = false)
    ∨ ((s.claim.phase ≠ .releasing → t.claim.phase ≠ .releasing)
      ∧ (s.Aside t ∨ (s.RaiseFollows t ∧ (t.share.resv ≠ s.share.resv ∨ t.share.capacity ≠ s.share.capacity))))

/-- A sender heard again: the view moves, if at all, by a fall of C that what follows does not undo. -/
def State.Settled (s t : State) : Prop :=
  (s.claim.phase ≠ .releasing ∧ t.claim.phase = .releasing ∧ t.share.raise.alive = false)
    ∨ ((s.claim.phase ≠ .releasing → t.claim.phase ≠ .releasing)
      ∧ (s.Aside t ∨ (s.RaiseFollows t ∧ t.share.resv = s.share.resv ∧ t.share.capacity < s.share.capacity
        ∧ ∀ u : State, t.SameView u → u.sumReserved = t.share.resv ∧ u.effectiveCapacity ≤ t.share.capacity)))

theorem State.Settled.followed {s t : State} (h : s.Settled t) : s.Followed t :=
  h.imp_right (And.imp_right (Or.imp_right fun ⟨follows, _, less, _⟩ => ⟨follows, .inr (Nat.ne_of_lt less)⟩))

/-- Steps 1 to 3 of R25 for a kind that writes no field. -/
theorem State.tableTake_settled {s : State} {j : StationNo} (line : s.link.onLine = none) (peer : j ≠ s.own)
    (known : (s.entry j).presence = .present ∨ (s.viewCurrent ∧ s.unheardHoldNothing)) :
    s.Settled (s.tableTake j false id false .other) := by
  let v := s.setEntry j ((s.entry j).hear false s.now)
  have entered : s.Aside v := .setEntry line j _
  have taken : s.tableTake j false id false .other
      = if (v.entry j).changed (s.entry j) then v.recompute.claimRetest.conflictTest .other else v := rfl
  have same : v.entry j = (s.entry j).hear false s.now := State.entry_setEntry_same ..
  by_cases changed : (v.entry j).changed (s.entry j)
  · rw [taken, if_pos changed]
    have ⟨⟨resv, capacity⟩, unheard⟩ : s.viewCurrent ∧ s.unheardHoldNothing := by
      refine known.resolve_left fun present => ?_
      rw [same, PeerEntry.hear_unchanged _ _ present] at changed
      exact absurd changed (by decide)
    have others : ∀ i, i ≠ j → v.entry i = s.entry i := fun i hi => State.entry_setEntry_ne s _ hi
    have reserved : v.sumReserved = s.sumReserved := by
      refine State.sumReserved_after_hearing rfl others fun b => ?_
      rw [same]
      exact PeerEntry.hear_counted _ _ b (unheard j)
    have fallen := State.capacity_after_hearing (t := v) peer rfl rfl others rfl
      (by rw [same]; exact PeerEntry.hear_marked ..)
    have line' : v.recompute.link.onLine = none := State.line_of_mask (recompute_mask v) line
    have beside : v.recompute.Aside v.recompute.claimRetest := .claimRetest line'
    obtain e | ⟨free, c, i, k, e⟩ := State.conflictTest_cases .other v.recompute.claimRetest <;> rw [e]
    · refine .inr ⟨fun h => State.claimRetest_not_releasing (by rw [State.recompute_claim]; exact h), ?_⟩
      obtain ⟨stands, -⟩ | ⟨follows, stale, hresv, hcap⟩ := State.recompute_follows (s := v) line
      · rw [stands] at beside ⊢
        exact .inl (entered.trans beside)
      · obtain even | ⟨less, bound⟩ := fallen
        · exact absurd ⟨resv.trans reserved.symm, capacity.trans even.symm⟩ stale
        · refine .inr ⟨(follows.after entered).aside beside, ?_, ?_, fun u view => ?_⟩
          · rw [beside.resv, hresv, reserved, resv]
          · rw [beside.capacity, hcap, capacity]; exact less
          · have masked : v.recompute.claimRetest.mask = v.mask := (claimRetest_mask _).trans (recompute_mask v)
            have table : v.recompute.claimRetest.table = v.table := (State.table_of_mask masked :)
            have config : v.recompute.claimRetest.station.config = v.station.config := (State.config_of_mask masked :)
            have straps : v.recompute.claimRetest.station.straps = v.station.straps := (State.straps_of_mask masked :)
            have view' : v.SameView u := ⟨view.table.trans table, view.config.trans config, view.straps.trans straps⟩
            rw [beside.resv, beside.capacity, hresv, hcap]
            exact ⟨view'.sumReserved, bound u view'⟩
    · obtain ⟨share, phase⟩ := State.yieldClaim_eq c i k v.recompute.claimRetest
      refine .inl ⟨fun releasing => free ?_, phase, ?_⟩
      · have now : v.recompute.claim.phase = .releasing := by rw [State.recompute_claim]; exact releasing
        have stays : v.recompute.claimRetest = v.recompute := by simp only [State.claimRetest, now]
        rw [stays, now]
      · rw [share]
        exact State.lowerRequest_alive (fun _ => rfl) 0 _
  · rw [taken, if_neg changed]
    exact .inr ⟨id, .inl entered⟩

/-- The intake capacity list takes a value, and C is recomputed (R44, R45). -/
theorem State.Settled.recordCapacity {s t : State} (h : s.Settled t) (line : t.link.onLine = none) (j : StationNo) (c : Nat) :
    s.Followed (t.recordCapacity j c) := by
  let w : State := { t with share :=
    { t.share with intakeCaps := t.share.intakeCaps.set j.val (some (min c Config.capacityMax)) j.isLt } }
  have beside : t.Aside w := .setCaps line _
  have recorded : t.recordCapacity j c = w.recompute := rfl
  have claim : w.recompute.claim = t.claim := State.recompute_claim w
  rw [recorded]
  obtain ⟨free, phase, ended⟩ | ⟨free, h⟩ := h
  · refine .inl ⟨free, by rw [claim]; exact phase, ?_⟩
    obtain ⟨stands, -⟩ | ⟨follows, -⟩ := State.recompute_follows (s := w) line
    · rw [stands]; exact ended
    · have idle : w.share.raise = .none ∨ ∃ b, w.share.raise.isSending b = true := by
        change t.share.raise = .none ∨ ∃ b, t.share.raise.isSending b = true
        cases raise : t.share.raise with
        | none => exact .inl rfl
        | sending x b => exact .inr ⟨b.isSome, beq_self_eq_true _⟩
        | queued | settling => rw [raise] at ended; cases ended
      rw [(follows.idle idle).1]
      exact ended
  · refine .inr ⟨fun e => by rw [claim]; exact free e, ?_⟩
    obtain ⟨stands, current⟩ | ⟨follows, stale, hresv, hcap⟩ := State.recompute_follows (s := w) line
    · rw [stands]
      obtain aside | ⟨follows, -, less, -⟩ := h
      · exact .inl (aside.trans beside)
      · exact .inr ⟨follows.aside beside, .inr (Nat.ne_of_lt less)⟩
    · right
      obtain aside | ⟨follows', resv, less, bound⟩ := h
      · refine ⟨follows.after (aside.trans beside), ?_⟩
        by_contra both
        simp only [not_or, ne_eq, Decidable.not_not] at both
        exact stale ⟨(aside.trans beside).resv.trans (both.1.symm.trans hresv),
          (aside.trans beside).capacity.trans (both.2.symm.trans hcap)⟩
      · obtain ⟨reserved, least⟩ := bound w ⟨rfl, rfl, rfl⟩
        have lower : w.recompute.share.capacity ≤ t.share.capacity := hcap.trans_le least
        exact ⟨(follows'.aside beside).chain follows (hresv.trans reserved) lower, .inr (by omega)⟩

end Sys2Proof.Machine

/-! ## RECALL and CAPACITY (R43, R44, R45, R48, R50, R103) -/

namespace Sys2Proof.Machine

/-- A good frame is counted: the claim's test may follow a report (R18, R109). -/
theorem State.countRxGood_claims (s : State) : ∃ w : State,
    w.claim = s.claim ∧ w.link.normal = s.link.normal ∧ w.link.held = s.link.held ∧ w.link.onLine = s.link.onLine
      ∧ (s.countRxGood = w ∨ s.countRxGood = w.claimRetest) := by
  unfold State.countRxGood
  dsimp only
  split
  · refine ⟨_, ?_, ?_, ?_, ?_, .inr rfl⟩ <;>
    · rw [State.reportLinkRecovered, State.report_eq]
  · exact ⟨{ s with link := { s.link with rxFaults := s.link.rxFaults - 1 } }, rfl, rfl, rfl, rfl, .inl rfl⟩

theorem State.received_claims (t : Nat) (k : Kind) (s : State) : ∃ w : State,
    w.claim = s.claim ∧ w.link.normal = s.link.normal ∧ w.link.held = s.link.held ∧ w.link.onLine = s.link.onLine
      ∧ ((s.advance t).received k = w ∨ (s.advance t).received k = w.claimRetest) :=
  State.countRxGood_claims ((s.advance t).markOccupancy true (if k = .hello then .hello else .taken))

theorem State.received_keeps (t : Nat) (k : Kind) {s : State} (line : s.link.onLine = none) :
    s.KeepsBut .claim ((s.advance t).received k) := by
  obtain ⟨w, -, normal, held, onLine, e | e⟩ := State.received_claims t k s
  all_goals
    have counted : s.KeepsBut .claim w := ⟨onLine.trans line, fun _ _ => by rw [normal], fun _ _ => by rw [held]⟩
    rw [e]
  · exact counted
  · exact counted.trans (.claimRetest counted.line)

theorem State.received_phase (t : Nat) (k : Kind) (s : State) :
    ((s.advance t).received k).claim.phase = .releasing ↔ s.claim.phase = .releasing := by
  obtain ⟨w, claim, -, -, -, e | e⟩ := State.received_claims t k s <;> rw [e, ← claim]
  by_cases releasing : w.claim.phase = .releasing
  · rw [State.claimRetest_of_phase (.inr (by rw [releasing]; decide))]
  · exact iff_of_false (State.claimRetest_not_releasing releasing) releasing

/-- What the raise's examination reads of the share unit, the governor and the station is as it was before the frame. -/
theorem State.received_same (t : Nat) (k : Kind) {s : State} (line : s.link.onLine = none) :
    ((s.advance t).received k).share = s.share ∧ ((s.advance t).received k).gov = s.gov
      ∧ ((s.advance t).received k).station = s.station ∧ ((s.advance t).received k).table = s.table
      ∧ ((s.advance t).received k).plan = s.plan
      ∧ ((s.advance t).received k).console = s.heardConsole := by
  rw [(State.received_onlyClaims t k line).eq]
  exact ⟨rfl, rfl, rfl, rfl, rfl, rfl⟩

/-- The raise followed from the state in which the frame is handed on is followed from the state before it. -/
theorem State.Followed.view {s u t : State} (share : u.share = s.share) (gov : u.gov = s.gov)
    (station : u.station = s.station) (phase : u.claim.phase = .releasing ↔ s.claim.phase = .releasing)
    (short : u.console.reports.length ≤ s.console.reports.length + 1) (h : u.Followed t) : s.raiseFollowsView t := by
  have room (k : s.console.reports.length ≤ 10) : u.console.reports.length < 16 := by omega
  have sends : u.transmits = s.transmits := congrArg (fun v => v.state.transmits) station
  have calm : u.halted = s.halted := congrArg (fun v : Share => v.halts != 0#16) share
  obtain ⟨free, releasing, ended⟩ | ⟨free, h⟩ := h
  · have yields : s.claim.phase ≠ .releasing ∧ t.claim.phase = .releasing := ⟨fun e => free (phase.mpr e), releasing⟩
    exact ⟨fun _ => ended, fun no => absurd yields no, fun no => absurd yields no, fun no => absurd yields no⟩
  · have stays : ¬ (s.claim.phase ≠ .releasing ∧ t.claim.phase = .releasing) := fun ⟨no, yes⟩ =>
      free (fun e => no (phase.mp e)) yes
    refine ⟨fun yes => absurd yes stays, fun _ still => ?_, fun _ moved x d settling => ?_, fun _ moved old queued => ?_⟩
    · obtain aside | ⟨follows, moved⟩ := h
      · exact ⟨aside.raise.trans (by rw [share]), aside.owed.trans (by rw [share])⟩
      · rw [← share] at still ⊢
        have idle := still.resolve_left (not_not_intro moved)
        exact ⟨(follows.idle idle).1, (follows.idle idle).2.1⟩
    · obtain aside | ⟨follows, -⟩ := h
      · exact absurd moved (by rw [aside.resv, aside.capacity, share]; simp)
      · rw [← share] at settling
        refine ⟨fun fits => ?_, fun short => ?_⟩
        · have ⟨raise, owed, _⟩ := follows.fits x d settling fits
          exact ⟨raise, by rw [owed, share]⟩
        · have ⟨raise, owed, told, lower⟩ := follows.yields x d settling short
          rw [share, sends] at lower
          rw [station] at told
          refine ⟨raise, by rw [owed, share, sends], fun level few => told level (room few), fun tx lowering feed => ?_⟩
          refine lower tx lowering ?_
          obtain ⟨f, hf, le⟩ := feed
          rw [State.feedAtMost, share, hf]
          exact decide_eq_true le
    · obtain aside | ⟨follows, -⟩ := h
      · exact absurd moved (by rw [aside.resv, aside.capacity, share]; simp)
      · rw [← share] at queued
        have poor : t.link.rxPoor = u.link.rxPoor := follows.room.poor
        have increment : t.increment = min (min ((s.gov.allowed : Int) - s.share.grant) 200)
            ((t.share.capacity : Int) - t.share.resv - s.share.grant) := by
          rw [follows.room.increment, gov, share]
        have standsIff := follows.room.raiseStands
        rw [← poor, calm, share, station, increment] at standsIff
        refine ⟨fun stands => ?_, fun falls => follows.ends old queued fun h => falls (standsIff.mp h)⟩
        obtain ⟨raise, moved⟩ := follows.stands old queued (standsIff.mpr stands)
        have room := stands.2.2.2.2
        rw [increment, share] at raise moved
        refine ⟨_, ?_, raise, fun ne => .inl (moved (.inl ne))⟩
        omega

/-! ### The state in which a frame is handed on -/

/-- The sender's entry after a frame of a kind that writes no field. -/
def State.refreshed (t : Nat) (j : StationNo) (s : State) : Table :=
  { s.table with entries := s.table.entries.set j.val { s.entry j with
      presence := .present, lastHeard := max s.now t
      lastSeq := if (s.entry j).presence = .present then (s.entry j).lastSeq else none } j.isLt }

/-- Steps 1 to 3 of R25 for a frame that writes no field. -/
def State.taken (t : Nat) (k : Kind) (j : StationNo) (s : State) : State :=
  ((s.advance t).received k).tableTake j false id false .other

section

variable {s : State} (t : Nat) (k : Kind) (j : StationNo)

theorem State.taken_mask (line : s.link.onLine = none) :
    (s.taken t k j).mask = { s.heard t k with table := s.refreshed t j }.mask := by
  unfold State.taken
  rw [State.tableTake_mask, (State.received_onlyClaims t k line).eq]
  exact State.heardConsole_mask s { s.heard t k with table := s.refreshed t j } rfl

theorem State.taken_straps (line : s.link.onLine = none) : (s.taken t k j).station.straps = s.station.straps :=
  (State.straps_of_mask (State.taken_mask t k j line) :)

theorem State.taken_plan (line : s.link.onLine = none) : (s.taken t k j).plan = s.plan :=
  (State.plan_of_mask (State.taken_mask t k j line) :)

theorem State.taken_state (line : s.link.onLine = none) : (s.taken t k j).station.state = s.station.state :=
  (State.stationState_of_mask (State.taken_mask t k j line) :)

theorem State.taken_line (line : s.link.onLine = none) : (s.taken t k j).link.onLine = none :=
  State.line_of_mask (State.taken_mask t k j line) line

end

/-- The codes of the two belts and of the quay are no station's number. -/
theorem destFor_iff (p : Straps) (d : Nat) :
    destFor p d = true ↔ d = p.number.val ∨ d = Belt.dest p.belt ∨ d = 31 := by
  simp [destFor, or_assoc]

theorem Belt.dest_cases (b : Belt) : Belt.dest b = 16 ∨ Belt.dest b = 17 := by
  cases b <;> simp [Belt.dest]

/-! ### RECALL (R103) -/

theorem pairsGood_iff : ∀ {l : List (Nat × Nat)}, pairsGood l = true ↔
    (l.map fun q => q.1).Pairwise (· < ·) ∧ ∀ h ∈ l.map fun q => q.1, 1 ≤ h ∧ h ≤ 12
  | [] => by simp [pairsGood]
  | [(h, m)] => by simp [pairsGood]
  | (h, m) :: (h', m') :: rest => by
    have ih := pairsGood_iff (l := (h', m') :: rest)
    simp only [pairsGood, Bool.and_eq_true, decide_eq_true_eq, ih, List.map_cons, List.pairwise_cons, List.forall_mem_cons]
    constructor
    · rintro ⟨⟨low, step⟩, ⟨above, ordered⟩, range, ranges⟩
      exact ⟨⟨⟨step, fun k hk => step.trans (above k hk)⟩, above, ordered⟩, ⟨low, by omega⟩, range, ranges⟩
    · rintro ⟨⟨⟨step, -⟩, above, ordered⟩, ⟨low, -⟩, range, ranges⟩
      exact ⟨⟨low, step⟩, ⟨above, ordered⟩, range, ranges⟩

theorem massAt_setMass {v : Vector Nat 12} {k m h : Nat} (hk : 1 ≤ k ∧ k ≤ 12) :
    massAt (setMass v k m) h = if h = k then m else massAt v h := by
  unfold setMass
  rw [dif_pos hk, massAt_set]
  exact if_congr (by omega) rfl rfl

theorem massAt_raiseBase {n h : Nat} : ∀ {l : List (Nat × Nat)} {v : Vector Nat 12},
    (l.map fun q => q.1).Pairwise (· < ·) → (∀ k ∈ l.map fun q => q.1, 1 ≤ k ∧ k ≤ 12) →
      massAt (raiseBase n l v) h = if h ≤ n then max (massAt v h) ((l.lookup h).getD 0) else massAt v h
  | [], v, _, _ => by simp [raiseBase]
  | (k, m) :: rest, v, ordered, range => by
    rw [List.map_cons, List.pairwise_cons] at ordered
    rw [List.map_cons, List.forall_mem_cons] at range
    have later : rest.lookup k = none := by
      rw [List.lookup_eq_none_iff]
      intro q hq
      have above : k < q.1 := ordered.1 q.1 (List.mem_map_of_mem hq)
      exact bne_iff_ne.mpr (Nat.ne_of_lt above)
    rw [raiseBase, massAt_raiseBase ordered.2 range.2, List.lookup_cons]
    by_cases same : h = k
    · subst same
      by_cases low : h ≤ n
      · rw [if_pos low, if_pos low, if_pos low, massAt_setMass range.1, if_pos rfl, later]
        simp
      · rw [if_neg low, if_neg low, if_neg low]
    · have other : massAt (if k ≤ n then setMass v k (max (massAt v k) m) else v) h = massAt v h := by
        split
        · rw [massAt_setMass range.1, if_neg same]
        · rfl
      rw [other, (beq_eq_false_iff_ne).mpr same]

/-- A RECALL for this station is applied in JOINING under an equal READY plan, and reported late otherwise. -/
theorem State.applyRecall_cases (j : StationNo) (b : TallyBody) (s : State) :
    (∃ r, s.readyPlan = some r ∧ r.id = b.planId ∧ pairsGood b.pairs = true ∧ s.station.state = .joining
        ∧ s.applyRecall j b = { s with plan :=
          { s.plan with recallBase := raiseBase r.count b.pairs s.plan.recallBase } })
      ∨ (((∀ r, s.readyPlan = some r → r.id ≠ b.planId) ∨ pairsGood b.pairs = false ∨ s.station.state ≠ .joining)
        ∧ (s.applyRecall j b).mask = s.mask) := by
  unfold State.applyRecall
  split
  · rename_i good
    split
    · rename_i r ready
      split
      · rename_i fits
        exact .inl ⟨r, ready, fits.2.symm, good, fits.1, rfl⟩
      · rename_i late
        refine .inr ⟨?_, report_mask ..⟩
        by_cases joining : s.station.state = .joining
        · refine .inl fun r' ready' e => late ⟨joining, ?_⟩
          cases ready.symm.trans ready'
          exact e.symm
        · exact .inr (.inr joining)
    · rename_i none
      exact .inr ⟨.inl fun r ready => absurd (none.symm.trans ready) nofun, report_mask ..⟩
  · rename_i bad
    exact .inr ⟨.inr (.inl (Bool.not_eq_true _ ▸ bad)), report_mask ..⟩

theorem exec_recallTaken {s : State} {t : Nat} {j : StationNo} {d : BitVec 5} {p : Bytes} {b : TallyBody}
    (live : s.inReset = none) (listens : s.listens = true) (peer : j ≠ s.own) (body : readTally p = some b)
    (station : d.toNat ≤ 15) :
    exec (.recallTaken t j d p) s = .next (if d.toNat = s.own.val then (s.taken t .recall j).applyRecall j b
      else s.taken t .recall j) := by
  have line := State.listens_line listens
  have dest : destFor (s.taken t .recall j).station.straps d.toNat = true ↔ d.toNat = s.own.val := by
    rw [State.taken_straps t .recall j line, destFor_iff]
    have := Belt.dest_cases s.station.straps.belt
    constructor
    · rintro (own | belt | quay)
      · exact own
      · omega
      · omega
    · exact .inl
  have e := State.receive_eq (k := .recall) (dest := d.toNat) t j b (fun b => State.applyRecallFrame j d.toNat b) live listens
    (decide_eq_true station)
  rw [if_neg peer] at e
  change Host.Outcome.next (s.live t (·.receive j .recall d.toNat (readTally p) _)) = _
  rw [body, e]
  exact congrArg Host.Outcome.next (if_congr dest rfl rfl)

theorem exec_capacityTaken {s : State} {t : Nat} {j : StationNo} {d : BitVec 5} {p : Bytes} {c : Nat}
    (live : s.inReset = none) (listens : s.listens = true) (peer : j ≠ s.own) (body : readWord p = some c)
    (belt : d.toNat = 16 ∨ d.toNat = 17) :
    exec (.capacityTaken t j d p) s = .next (if d.toNat = Belt.dest s.station.straps.belt then
      (s.taken t .capacity j).recordCapacity j c else s.taken t .capacity j) := by
  have line := State.listens_line listens
  have dest : destFor (s.taken t .capacity j).station.straps d.toNat = true ↔ d.toNat = Belt.dest s.station.straps.belt := by
    rw [State.taken_straps t .capacity j line, destFor_iff]
    constructor
    · rintro (own | belt | quay)
      · omega
      · exact belt
      · omega
    · exact fun e => .inr (.inl e)
  have permits : Kind.permits .capacity d.toNat = true := by simpa [Kind.permits] using belt
  have e := State.receive_eq t j c (fun c => State.applyCapacity j d.toNat c) live listens permits
  rw [if_neg peer] at e
  change Host.Outcome.next (s.live t (·.receive j .capacity d.toNat (readWord p) _)) = _
  rw [body, e]
  exact congrArg Host.Outcome.next (if_congr dest rfl rfl)

theorem State.recordCapacity_mask (j : StationNo) (c : Nat) (s : State) : (s.recordCapacity j c).mask =
    { s with share := { s.share with intakeCaps := s.share.intakeCaps.set j.val (some (min c 6000)) j.isLt } }.mask :=
  recompute_mask _

theorem State.setCaps_mask (v : Vector (Option Nat) 16) (s : State) :
    { s with share := { s.share with intakeCaps := v } }.mask
      = { s.mask with share := { s.mask.share with intakeCaps := v } } := rfl

theorem State.setPlan_mask (v : PlanStore) (s : State) : { s with plan := v }.mask = { s.mask with plan := v } := rfl

/-- After a recomputation C is current (R43, R44). -/
theorem State.recompute_capacity {s : State} (line : s.link.onLine = none) :
    s.recompute.share.capacity = s.recompute.effectiveCapacity := by
  have entries : s.recompute.effectiveCapacity = s.effectiveCapacity := by
    have only := State.OnlyRaise.recompute (s := s)
    unfold State.OnlyRaise at only
    rw [only]
    rfl
  obtain ⟨stands, current⟩ | ⟨-, -, -, capacity⟩ := State.recompute_follows line
  · rw [entries, stands]; exact current.2
  · rw [entries]; exact capacity

/-- Settles O15: the recall base by induction on the pairs, the raise by what each change of the view makes of it. -/
theorem recallAndCapacityAreAppliedWhereTheyAreFor : Obligations.RecallAndCapacityAreAppliedWhereTheyAreFor := by
  intro t j d p s live listens peer
  have line := State.listens_line listens
  refine ⟨fun b body station => ?_, fun c body belt => ?_⟩
  · have total := State.taken_mask t .recall j line
    have plan := State.taken_plan t .recall j line
    have ready : (s.taken t .recall j).readyPlan = s.readyPlan := by unfold State.readyPlan; rw [plan]
    have state := State.taken_state t .recall j line
    refine ⟨_, exec_recallTaken live listens peer body station, ?_⟩
    have stands (v : State) (h : v.mask = (s.taken t .recall j).mask) : v.plan = s.plan
        ∧ v.mask = { s.heard t .recall with
          table := s.refreshed t j, plan := { s.plan with recallBase := v.plan.recallBase } }.mask := by
      have same : v.plan = s.plan := (State.plan_of_mask h :).trans plan
      rw [same]
      exact ⟨rfl, h.trans total⟩
    by_cases own : d.toNat = s.own.val
    · rw [if_pos own]
      obtain ⟨r, isReady, equal, good, joining, e⟩ | ⟨why, masked⟩ :=
        State.applyRecall_cases j b (s.taken t .recall j)
      · rw [ready] at isReady
        rw [state] at joining
        rw [e, plan]
        refine ⟨?_, fun r' ready' _ _ _ _ h low high => ?_, fun none => ?_⟩
        · rw [State.setPlan_mask, total]; rfl
        · cases isReady.symm.trans ready'
          obtain ⟨ordered, range⟩ := pairsGood_iff.mp good
          exact massAt_raiseBase ordered range
        · obtain other | bad | away | late := none
          · exact absurd equal (other r isReady)
          · exact absurd (pairsGood_iff.mp good) bad
          · exact absurd own away
          · exact absurd joining late
      · obtain ⟨same, masked⟩ := stands _ masked
        refine ⟨masked, fun r isReady equal good _ joining => ?_, fun _ => by rw [same]⟩
        rw [ready, state] at why
        obtain other | bad | late := why
        · exact absurd equal (other r isReady)
        · exact absurd (pairsGood_iff.mpr good) (by rw [bad]; decide)
        · exact absurd joining late
    · rw [if_neg own]
      obtain ⟨same, masked⟩ := stands _ rfl
      exact ⟨masked, fun _ _ _ _ here => absurd here own, fun _ => by rw [same]⟩
  · have total := State.taken_mask t .capacity j line
    obtain ⟨share, gov, station, table, -, console⟩ := State.received_same t .capacity line
    have line' : ((s.advance t).received .capacity).link.onLine = none := (State.received_keeps t .capacity line).line
    refine ⟨_, exec_capacityTaken live listens peer body belt, fun known => ?_, ?_, fun here => ?_⟩
    · have known' : (((s.advance t).received .capacity).entry j).presence = .present
          ∨ (((s.advance t).received .capacity).viewCurrent ∧ ((s.advance t).received .capacity).unheardHoldNothing) := by
        refine known.imp (fun present => ?_) fun ⟨⟨resv, cap⟩, unheard⟩ => ?_
        · rw [State.entry, table]; exact present
        · have view : s.SameView ((s.advance t).received .capacity) := ⟨table, by rw [station], by rw [station]⟩
          have capacity : ((s.advance t).received .capacity).effectiveCapacity = s.effectiveCapacity := by
            unfold State.effectiveCapacity State.peers State.own State.entry
            rw [table, station, share]
          refine ⟨⟨by rw [share, view.sumReserved]; exact resv, by rw [share, capacity]; exact cap⟩, fun i heard => ?_⟩
          have entry : ((s.advance t).received .capacity).entry i = s.entry i := by rw [State.entry, table, State.entry]
          rw [entry] at heard ⊢
          exact unheard i heard
      have settled : ((s.advance t).received .capacity).Settled (s.taken t .capacity j) :=
        State.tableTake_settled line' (by rw [State.own, station]; exact peer) known'
      refine State.Followed.view share gov station (State.received_phase ..)
        (by rw [console]; exact State.heardConsole_length_le s) ?_
      split
      · exact settled.recordCapacity (State.taken_line t .capacity j line) j c
      · exact settled.followed
    · split
      · have caps : (s.taken t .capacity j).share.intakeCaps = s.share.intakeCaps := (State.intakeCaps_of_mask total :)
        rw [State.recordCapacity_mask, State.setCaps_mask, caps, total]
        rfl
      · exact total
    · rw [if_pos here]
      exact State.recompute_capacity (s := { s.taken t .capacity j with share := _ }) (State.taken_line t .capacity j line)

end Sys2Proof.Machine

/-! ## A lowering to 0 at a halt (R48, R50, R52, R53, R55, R57, R61, R82) -/

namespace Sys2Proof.Machine

/-! ### A LOWER offered while no own frame is on the line -/

/-- No own frame is on the line of `t`, and what stands queued or held there stood in `s`, but for a LOWER with grant `g`. -/
structure State.AddsLower (g : Nat) (s t : State) : Prop where
  line : t.link.onLine = none
  normal : ∀ f ∈ t.link.normal, f = .lower g ∨ f ∈ s.link.normal
  held : ∀ f, t.link.held = some f → s.link.held = some f

namespace State.AddsLower

variable {g : Nat} {s t u : State}

theorem frame (line : s.link.onLine = none) (h : t.link = s.link) : s.AddsLower g t :=
  ⟨by rw [h]; exact line, fun _ e => .inr (h ▸ e), fun _ e => h ▸ e⟩

theorem trans (h : s.AddsLower g t) (h' : t.AddsLower g u) : s.AddsLower g u :=
  ⟨h'.line, fun f e => (h'.normal f e).elim .inl (h.normal f), fun f e => h.held f (h'.held f e)⟩

theorem after (h : t.AddsLower g u) (link : t.link = s.link) : s.AddsLower g u :=
  ⟨h.line, fun f e => link ▸ h.normal f e, fun f e => link ▸ h.held f e⟩

theorem withdraw (line : s.link.onLine = none) (k : Kind) : s.AddsLower g (s.withdraw k) where
  line := (State.KeepsBut.withdraw line k).line
  normal f e := .inr (List.mem_of_mem_filter e)
  held f e := by
    simp only [State.withdraw, Link.withdraw] at e
    split at e
    · rename_i c held
      split at e
      · cases e
      · exact held.trans e
    · cases e

theorem offerSingle (line : s.link.onLine = none) (g : Nat) : s.AddsLower g (s.offerSingle (.lower g)) := by
  unfold State.offerSingle
  split
  · have placed (v : State) (free : v.link.onLine = none) :
        v.AddsLower g { v with link := v.link.placeSingle (.lower g) } := by
      refine ⟨by rw [Link.placeSingle_onLine]; exact free, fun f e => Link.placeSingle_mem e, fun f e => ?_⟩
      obtain ⟨-, own⟩ | held := Link.placeSingle_held (Option.mem_def.mpr e)
      · simp [Link.lineKind, free] at own
      · exact held
    exact (withdraw line .raise).trans (placed (s.withdraw .raise) (withdraw (g := g) line .raise).line)
  · exact frame line rfl

theorem not_pending (h : s.AddsLower g t) (line : s.link.onLine = none) {n : Nat} (ne : n ≠ g)
    (free : s.link.lowerPending n = false) : t.link.lowerPending n = false := by
  rw [← Bool.not_eq_true, Link.lowerPending_iff line] at free
  rw [← Bool.not_eq_true, Link.lowerPending_iff h.line]
  rintro (queued | held)
  · obtain e | queued := h.normal _ queued
    · cases e; exact ne rfl
    · exact free (.inl queued)
  · exact free (.inr (h.held _ held))

theorem no_raise (h : s.AddsLower g t) (free : ∀ c ∈ s.link.normal, c.kind ≠ .raise) :
    ∀ c ∈ t.link.normal, c.kind ≠ .raise := by
  intro c hc
  obtain rfl | stood := h.normal c hc
  · nofun
  · exact free c stood

end State.AddsLower

/-! ### The drain (R53, R55) -/

theorem State.drainTest_of_lowering {s : State} {l : Lowering} (lowering : s.share.lowering = some l) :
    s.drainTest = if !s.link.lowerPending l.target && s.transmits && s.feedAtMost (l.target + 10) then
      (s.setLowering (some { l with deadline := none })).offerSingle (.lower l.target) else s := by
  simp only [State.drainTest, lowering]

theorem State.armDrain_of_lowering {s : State} {l : Lowering} (lowering : s.share.lowering = some l) :
    s.armDrain = if l.deadline.isNone && s.transmits && !s.link.lowerPending l.target then
      s.setLowering (some { l with deadline := some (s.now + Config.drainDeadline) }) else s := by
  simp only [State.armDrain, lowering]

/-- A lowering whose target was set while no own frame is on the line: its LOWER is offered where the feed allows it, and
its deadline runs where none is pending. -/
theorem State.drain_cases {s : State} {l : Lowering} (lowering : s.share.lowering = some l) (line : s.link.onLine = none) :
    ∃ x, s.drainTest.armDrain.share = { s.share with lowering := some { l with deadline := x } }
      ∧ s.AddsLower l.target s.drainTest.armDrain
      ∧ (s.transmits = false → x = l.deadline)
      ∧ (s.transmits = true → s.feedAtMost (l.target + 10) = true →
        (l.deadline = none → x = none) ∧ s.drainTest.armDrain.link.lowerPending l.target = true)
      ∧ (s.transmits = true → s.feedAtMost (l.target + 10) = false → s.link.lowerPending l.target = false →
        (l.deadline = none → x = some (s.now + 15000)) ∧ s.drainTest.armDrain.link = s.link) := by
  have test := State.drainTest_of_lowering lowering
  by_cases sends : !s.link.lowerPending l.target && s.transmits && s.feedAtMost (l.target + 10)
  · rw [if_pos sends] at test
    simp only [Bool.and_eq_true, Bool.not_eq_true'] at sends
    obtain ⟨⟨free, tx⟩, ready⟩ := sends
    have adds : s.AddsLower l.target s.drainTest := by
      rw [test]
      exact State.AddsLower.trans (t := s.setLowering (some { l with deadline := none })) (.frame line rfl)
        (.offerSingle (s := s.setLowering (some { l with deadline := none })) line l.target)
    have pending : s.drainTest.link.lowerPending l.target = true := by
      refine (Link.lowerPending_iff adds.line).mpr (.inl ?_)
      rw [test]
      exact State.offerSingle_lower_mem (s := s.setLowering (some { l with deadline := none })) tx line l.target
    have share : s.drainTest.share = { s.share with lowering := some { l with deadline := none } } := by
      rw [test, State.offerSingle_share]; rfl
    have armed : s.drainTest.armDrain = s.drainTest := by
      rw [State.armDrain_of_lowering (l := { l with deadline := none }) (by rw [share]), if_neg (by simp [pending])]
    rw [armed]
    exact ⟨none, share, adds, fun silent => absurd (silent.symm.trans tx) (by decide), fun _ _ => ⟨fun _ => rfl, pending⟩,
      fun _ idle => absurd (idle.symm.trans ready) (by decide)⟩
  · rw [if_neg sends] at test
    rw [test, State.armDrain_of_lowering lowering]
    split
    · rename_i arms
      simp only [Bool.and_eq_true, Bool.not_eq_true', Option.isNone_iff_eq_none] at arms
      obtain ⟨⟨fresh, tx⟩, free⟩ := arms
      refine ⟨some (s.now + Config.drainDeadline), rfl, .frame line rfl,
        fun silent => absurd (silent.symm.trans tx) (by decide), fun _ ready => ?_, fun _ _ _ => ⟨fun _ => rfl, rfl⟩⟩
      exact absurd (by simp [free, tx, ready]) sends
    · rename_i stays
      refine ⟨l.deadline, by rw [← lowering], .frame line rfl, fun _ => rfl, fun tx ready => ⟨id, ?_⟩,
        fun tx idle free => ⟨fun fresh => absurd (by simp [fresh, tx, free]) stays, rfl⟩⟩
      by_contra free
      exact sends (by simp [free, tx, ready])

/-! ### The raise at a halt (R48, R50) -/

theorem State.abandonRaise_of_not_alive {s : State} (h : s.share.raise.alive = false) (c : YieldCause) :
    s.abandonRaise c = s := by
  cases raise : s.share.raise with
  | none => simp only [State.abandonRaise, raise]
  | queued | settling => rw [raise] at h; cases h
  | sending x b =>
    cases b with
    | none => rw [raise] at h; cases h
    | some => simp only [State.abandonRaise, raise]

theorem State.yieldTest_addsLower {s : State} (line : s.link.onLine = none) : s.AddsLower s.share.grant s.yieldTest := by
  unfold State.yieldTest
  split
  · exact .offerSingle line _
  · exact .frame line rfl

/-- What a halt makes of the own raise while no own frame is on the line. -/
theorem State.abandonRaise_halt {s : State} (line : s.link.onLine = none) :
    (s.abandonRaise .halt).share = { s.share with
        raise := s.share.raise.underHalt, yieldOwed := s.share.yieldOwed || (s.share.raise.isSettling && s.transmits) }
      ∧ s.AddsLower s.share.grant (s.abandonRaise .halt)
      ∧ (∀ x, s.share.raise = .queued x → ∀ c ∈ (s.abandonRaise .halt).link.normal, c.kind ≠ .raise)
      ∧ (∀ x d, s.share.raise = .settling x d → 3 ≤ s.station.reportLevel → s.console.reports.length < 16 →
        ⟨.info, .share, 12, [BitVec.ofNat 32 x, 2#32]⟩ ∈ (s.abandonRaise .halt).console.reports) := by
  cases raise : s.share.raise with
  | none =>
    rw [State.abandonRaise_of_not_alive (by rw [raise]; rfl)]
    exact ⟨by rw [Raise.underHalt_none, Raise.isSettling_none, Bool.false_and, Bool.or_false, ← raise], .frame line rfl,
      nofun, nofun⟩
  | queued x =>
    have ended : s.abandonRaise .halt = (s.withdraw .raise).setRaise .none := by simp only [State.abandonRaise, raise]
    rw [ended]
    refine ⟨by simp [State.setRaise, State.withdraw], ?_, fun _ _ c hc => ?_, nofun⟩
    · exact (State.AddsLower.withdraw line .raise).trans (.frame (State.KeepsBut.withdraw line .raise).line rfl)
    · simp only [State.setRaise, State.withdraw, Link.withdraw, List.mem_filter, bne_iff_ne, ne_eq] at hc
      exact hc.2
  | sending x b =>
    cases b with
    | none =>
      have marked : s.abandonRaise .halt = (s.withdraw .raise).setRaise (.sending x (some .halt)) := by
        simp only [State.abandonRaise, raise]
      rw [marked]
      refine ⟨by simp [State.setRaise, State.withdraw], ?_, nofun, nofun⟩
      exact (State.AddsLower.withdraw line .raise).trans (.frame (State.KeepsBut.withdraw line .raise).line rfl)
    | some c =>
      rw [State.abandonRaise_of_not_alive (by rw [raise]; rfl)]
      exact ⟨by rw [Raise.underHalt_sending, Raise.isSettling_sending, Bool.false_and, Bool.or_false, Option.getD_some,
        ← raise], .frame line rfl, nofun, nofun⟩
  | settling x d =>
    have ended : s.abandonRaise .halt = s.abandonSettling .halt := by simp only [State.abandonRaise, raise]
    obtain ⟨share, told, -⟩ := State.abandonSettling_settling raise .halt line
    rw [ended]
    refine ⟨by rw [share]; simp, ?_, nofun, fun x' d' e => by cases e; exact told⟩
    obtain ⟨v, settled, shape, -⟩ := State.abandonSettling_eq raise .halt
    have start : s.AddsLower s.share.grant v := .frame line (by rw [shape])
    have grant : v.share.grant = s.share.grant := by rw [shape]
    rw [settled]
    split
    · rw [← grant] at start ⊢
      exact start.trans (State.yieldTest_addsLower start.line)
    · exact start

end Sys2Proof.Machine

/-! ## The first halt in the unloader role (R48, R50, R52, R61, R82) -/

namespace Sys2Proof.Machine

theorem State.loweringClamp_of_stopped {s : State} (h : s.gov.feed = 0) (n : Nat) : s.loweringClamp n = s := by
  unfold State.loweringClamp
  rw [if_neg (by omega)]

theorem State.drain_gov (s : State) : s.drainTest.armDrain.gov = s.gov := by
  have test (v : State) : v.drainTest.gov = v.gov := by
    unfold State.drainTest
    split
    · split
      · rw [State.offerSingle_gov]; rfl
      · rfl
    · rfl
  rw [← test s]
  unfold State.armDrain
  split
  · split <;> rfl
  · rfl

section

variable {s : State} (ended : s.share.raise.alive = false) (stopped : s.gov.feed = 0)

include ended stopped

/-- A lower request of a halt with target 0, once the feed is stopped and the raise is at an end. -/
theorem State.lowerRequest_halt_none (lowering : s.share.lowering = none) :
    s.lowerRequest .halt 0 = if 0 < s.share.grant then
        State.armDrain (State.drainTest { s with share :=
          { s.share with lowering := some ⟨0, none, false, false, false⟩, releaseTimer := none, yieldOwed := false } })
      else s := by
  unfold State.lowerRequest State.startLowering
  rw [State.abandonRaise_of_not_alive ended]
  simp only [lowering]
  refine if_congr Iff.rfl (congrArg (fun v => State.armDrain (State.drainTest v)) ?_) rfl
  exact State.loweringClamp_of_stopped (by exact stopped) 0

theorem State.lowerRequest_halt_some {l : Lowering} (lowering : s.share.lowering = some l) :
    s.lowerRequest .halt 0 = if 0 < l.target then (s.setLowering (some { l with target := 0 })).drainTest.armDrain
      else s.setLowering (some l) := by
  unfold State.lowerRequest State.deepenLowering
  rw [State.abandonRaise_of_not_alive ended]
  simp only [lowering]
  refine if_congr Iff.rfl (congrArg (fun v => State.armDrain (State.drainTest v)) ?_) rfl
  exact State.loweringClamp_of_stopped (by exact stopped) 0

theorem State.lowerRequest_halt_gov : (s.lowerRequest .halt 0).gov = s.gov := by
  cases lowering : s.share.lowering with
  | none =>
    rw [State.lowerRequest_halt_none ended stopped lowering]
    split
    · exact State.drain_gov _
    · rfl
  | some l =>
    rw [State.lowerRequest_halt_some ended stopped lowering]
    split
    · exact State.drain_gov _
    · rfl

/-- A lower request with target 0 leaves a lowering to 0 where there is something to lower. -/
theorem State.lowerRequest_halt_target (line : s.link.onLine = none)
    (h : 0 < s.share.grant ∨ s.share.lowering.isSome = true) :
    ∃ l, (s.lowerRequest .halt 0).share.lowering = some l ∧ l.target = 0 := by
  cases lowering : s.share.lowering with
  | none =>
    have grant : 0 < s.share.grant := h.resolve_right (by rw [lowering]; decide)
    rw [State.lowerRequest_halt_none ended stopped lowering, if_pos grant]
    obtain ⟨x, share, -⟩ := State.drain_cases (s := { s with share := { s.share with
      lowering := some ⟨0, none, false, false, false⟩, releaseTimer := none, yieldOwed := false } }) rfl line
    exact ⟨_, congrArg Share.lowering share, rfl⟩
  | some l =>
    rw [State.lowerRequest_halt_some ended stopped lowering]
    split
    · obtain ⟨x, share, -⟩ := State.drain_cases (s := s.setLowering (some { l with target := 0 })) rfl line
      exact ⟨_, congrArg Share.lowering share, rfl⟩
    · rename_i low
      exact ⟨l, rfl, by omega⟩

end

/-! ### The set gains its first member -/

theorem State.holdOffClamp_gov {s : State} (unloader : s.isUnloader = true) (c : HoldOff) :
    (s.holdOffClamp c).gov.feed = 0 ∧ (s.holdOffClamp c).gov.target = 0 ∧ (s.holdOffClamp c).gov.bindTarget = .holdOff c := by
  have handed (f : MachineFrame) (v : State) : (v.handMachine f).gov = v.gov := by rw [State.handMachine_eq]
  unfold State.holdOffClamp
  rw [if_pos unloader]
  dsimp only
  refine ⟨?_, rfl, rfl⟩
  split
  · rw [handed]; rfl
  · omega

/-- The order's held reasons and the claim's test, which end every change of the halt set (R109, R129). -/
theorem State.haltLost_eq (s : State) : s.haltLost.share = s.share ∧ s.haltLost.gov = s.gov := by
  unfold State.haltLost
  rw [State.claimRetest_eq, State.refreshHeld_eq]
  exact ⟨rfl, rfl⟩

theorem State.haltLost_keeps {s : State} (line : s.link.onLine = none) : s.KeepsBut .claim s.haltLost := by
  have refreshed : s.refreshHeld.link = s.link := by rw [State.refreshHeld_eq]
  exact (State.KeepsBut.claimRetest (by rw [refreshed]; exact line)).after refreshed

/-- A halt gained in the unloader role where the set was empty. -/
theorem State.haltGained_first {s : State} (unloader : s.isUnloader = true) : s.haltGained true =
    (((s.holdOffClamp .halt).abandonRaise .halt).lowerRequest .halt 0).haltLost := by
  unfold State.haltGained
  dsimp only
  rw [unloader, Bool.and_self, if_pos rfl]
  rfl

/-- A halt gained elsewhere. -/
theorem State.haltGained_further {s : State} {b : Bool} (h : (b && s.isUnloader) = false) :
    s.haltGained b = (s.holdOffClamp .halt).haltLost := by
  unfold State.haltGained
  dsimp only
  rw [h, if_neg (by decide)]
  rfl

/-- The state from which a first halt lowers: the feed stopped and the raise at an end. -/
def State.haltStopped (s : State) : State := (s.holdOffClamp .halt).abandonRaise .halt

theorem State.haltStopped_alive (s : State) : s.haltStopped.share.raise.alive = false :=
  State.abandonRaise_alive ..

theorem State.haltStopped_gov (s : State) : s.haltStopped.gov = (s.holdOffClamp .halt).gov :=
  (State.OnlyRaise.abandonRaise .halt).gov

theorem State.haltStopped_line {s : State} (line : s.link.onLine = none) : s.haltStopped.link.onLine = none :=
  State.line_of_mask ((abandonRaise_mask ..).trans (holdOffClamp_mask ..)) line

section

variable {s : State}

theorem State.haltGained_gov (unloader : s.isUnloader = true) (b : Bool) :
    (s.haltGained b).gov = (s.holdOffClamp .halt).gov := by
  have stopped : s.haltStopped.gov.feed = 0 := by rw [State.haltStopped_gov]; exact (State.holdOffClamp_gov unloader .halt).1
  cases b with
  | true =>
    rw [State.haltGained_first unloader, (State.haltLost_eq _).2]
    exact (State.lowerRequest_halt_gov s.haltStopped_alive stopped).trans s.haltStopped_gov
  | false => rw [State.haltGained_further (by rfl), (State.haltLost_eq _).2]

/-- A first halt leaves no raise alive, and a lowering to 0 where there is something to lower. -/
theorem State.haltGained_ends (unloader : s.isUnloader = true) (line : s.link.onLine = none) : (s.haltGained true).share.raise.alive = false
    ∧ (0 < s.share.grant ∨ s.share.lowering.isSome = true →
      ∃ l, (s.haltGained true).share.lowering = some l ∧ l.target = 0) := by
  have stopped : s.haltStopped.gov.feed = 0 := by rw [State.haltStopped_gov]; exact (State.holdOffClamp_gov unloader .halt).1
  have only : (s.holdOffClamp .halt).OnlyRaise s.haltStopped := .abandonRaise .halt
  have grant : s.haltStopped.share.grant = s.share.grant := by rw [only, State.holdOffClamp_eq]
  have lowering : s.haltStopped.share.lowering = s.share.lowering := by rw [only, State.holdOffClamp_eq]
  rw [State.haltGained_first unloader, (State.haltLost_eq _).1]
  refine ⟨State.lowerRequest_alive (fun _ => rfl) 0 _, fun h => ?_⟩
  rw [← grant, ← lowering] at h
  exact State.lowerRequest_halt_target s.haltStopped_alive stopped (s.haltStopped_line line) h

end

end Sys2Proof.Machine

/-! ## The raise and the lowering at the first halt (R48, R50, R52, R55, R57, R61) -/

namespace Sys2Proof.Machine

/-- The state from which a first halt lowers, with no own frame on the line. -/
theorem State.haltStopped_facts {s : State} (line : s.link.onLine = none) :
    s.haltStopped.share = { s.share with
        raise := s.share.raise.underHalt, yieldOwed := s.share.yieldOwed || (s.share.raise.isSettling && s.transmits) }
      ∧ s.AddsLower s.share.grant s.haltStopped
      ∧ (∀ x, s.share.raise = .queued x → ∀ c ∈ s.haltStopped.link.normal, c.kind ≠ .raise)
      ∧ (∀ x d, s.share.raise = .settling x d → 3 ≤ s.station.reportLevel → s.console.reports.length < 16 →
        ⟨.info, .share, 12, [BitVec.ofNat 32 x, 2#32]⟩ ∈ s.haltStopped.console.reports) := by
  have clamp := State.holdOffClamp_eq .halt s
  obtain ⟨share, adds, queued, settling⟩ := State.abandonRaise_halt (s := s.holdOffClamp .halt) (by rw [clamp]; exact line)
  rw [clamp] at share adds queued settling
  unfold State.haltStopped
  rw [clamp]
  exact ⟨share, adds.after rfl, queued, settling⟩

theorem State.haltStopped_station (s : State) : s.haltStopped.station = s.station := by
  unfold State.haltStopped
  rw [(State.OnlyRaise.abandonRaise .halt).station, State.holdOffClamp_eq]

theorem State.haltStopped_now (s : State) : s.haltStopped.now = s.now :=
  State.now_of_mask ((abandonRaise_mask ..).trans (holdOffClamp_mask ..))

/-- The lowering that a first halt starts, seen from before the halt reached the raise. -/
theorem State.haltStopped_starts {s : State} (line : s.link.onLine = none) (stopped : s.haltStopped.gov.feed = 0)
    (lowering : s.share.lowering = none) (grant : 0 < s.share.grant) :
    ∃ x, (s.haltStopped.lowerRequest .halt 0).share = { s.haltStopped.share with
        lowering := some ⟨0, x, false, false, false⟩, releaseTimer := none, yieldOwed := false }
      ∧ (s.transmits = false → x = none)
      ∧ (s.transmits = true → s.feedAtMost 10 = true →
        x = none ∧ (s.haltStopped.lowerRequest .halt 0).link.lowerPending 0 = true)
      ∧ (s.transmits = true → s.feedAtMost 10 = false → s.link.lowerPending 0 = false →
        x = some (s.now + 15000) ∧ (s.haltStopped.lowerRequest .halt 0).link.lowerPending 0 = false) := by
  obtain ⟨share, adds, -, -⟩ := State.haltStopped_facts line
  have line' := s.haltStopped_line line
  have sends : s.haltStopped.transmits = s.transmits := congrArg (fun v => v.state.transmits) s.haltStopped_station
  have feed : s.haltStopped.feedAtMost 10 = s.feedAtMost 10 := by unfold State.feedAtMost; rw [share]
  rw [State.lowerRequest_halt_none s.haltStopped_alive stopped (by rw [share]; exact lowering),
    if_pos (by rw [share]; exact grant)]
  obtain ⟨x, drained, -, silent, ready, waits⟩ := State.drain_cases (l := ⟨0, none, false, false, false⟩)
    (s := { s.haltStopped with share := { s.haltStopped.share with
      lowering := some ⟨0, none, false, false, false⟩, releaseTimer := none, yieldOwed := false } }) rfl line'
  rw [← s.haltStopped_now, ← sends, ← feed]
  refine ⟨x, drained, silent, fun tx f => ⟨(ready tx f).1 rfl, (ready tx f).2⟩, fun tx f free => ?_⟩
  have free' := adds.not_pending line (Nat.ne_of_lt grant) free
  obtain ⟨deadline, link⟩ := waits tx f free'
  rw [link]
  exact ⟨deadline rfl, free'⟩

/-- The lowering in progress at a first halt, taken to 0. -/
theorem State.haltStopped_deepens {s : State} (line : s.link.onLine = none) (stopped : s.haltStopped.gov.feed = 0)
    {l : Lowering} (lowering : s.share.lowering = some l) :
    (l.target = 0 → (s.haltStopped.lowerRequest .halt 0).share = s.haltStopped.share)
      ∧ (0 < l.target → ∃ x, (s.haltStopped.lowerRequest .halt 0).share
          = { s.haltStopped.share with lowering := some { l with target := 0, deadline := x } })
      ∧ (0 < l.target → s.transmits = true → s.feedAtMost 10 = true →
        (s.haltStopped.lowerRequest .halt 0).link.lowerPending 0 = true) := by
  obtain ⟨share, -, -, -⟩ := State.haltStopped_facts line
  have lowering' : s.haltStopped.share.lowering = some l := by rw [share]; exact lowering
  have sends : s.haltStopped.transmits = s.transmits := congrArg (fun v => v.state.transmits) s.haltStopped_station
  have feed : s.haltStopped.feedAtMost 10 = s.feedAtMost 10 := by unfold State.feedAtMost; rw [share]
  rw [State.lowerRequest_halt_some s.haltStopped_alive stopped lowering', ← sends, ← feed]
  obtain ⟨x, drained, -, -, ready, -⟩ := State.drain_cases (l := { l with target := 0 })
    (s := s.haltStopped.setLowering (some { l with target := 0 })) rfl (s.haltStopped_line line)
  refine ⟨fun low => ?_, fun high => ?_, fun high tx f => ?_⟩
  · rw [if_neg (by omega), setLowering_share, ← lowering']
  · rw [if_pos high]
    exact ⟨x, drained⟩
  · rw [if_pos high]
    exact (ready tx f).2

/-- Whatever a first halt lowers, it adds a LOWER with grant 0 and no other frame. -/
theorem State.haltStopped_addsLower {s : State} (line : s.link.onLine = none) (stopped : s.haltStopped.gov.feed = 0) :
    s.haltStopped.AddsLower 0 (s.haltStopped.lowerRequest .halt 0) := by
  have line' := s.haltStopped_line line
  cases lowering : s.haltStopped.share.lowering with
  | none =>
    rw [State.lowerRequest_halt_none s.haltStopped_alive stopped lowering]
    split
    · obtain ⟨x, -, adds, -⟩ := State.drain_cases (l := ⟨0, none, false, false, false⟩)
        (s := { s.haltStopped with share := { s.haltStopped.share with
          lowering := some ⟨0, none, false, false, false⟩, releaseTimer := none, yieldOwed := false } }) rfl line'
      exact adds.after rfl
    · exact .frame line' rfl
  | some l =>
    rw [State.lowerRequest_halt_some s.haltStopped_alive stopped lowering]
    split
    · obtain ⟨x, -, adds, -⟩ := State.drain_cases (l := { l with target := 0 })
        (s := s.haltStopped.setLowering (some { l with target := 0 })) rfl line'
      exact adds.after rfl
    · exact .frame line' rfl

end Sys2Proof.Machine

/-! ## HALT and CLEAR (R16, R48, R50, R52, R60, R61, R82) -/

namespace Sys2Proof.Machine

/-- The halt has reached the share unit: the halt set apart, what the raise and the lowering turn on stands as before. -/
structure State.HaltFrom (s v : State) : Prop where
  share : v.share = { s.share with halts := v.share.halts }
  station : v.station = s.station
  keeps : s.KeepsBut .claim v
  room : v.console.reports.length ≤ s.console.reports.length + 2

theorem State.feedAtMost_of {s : State} {n : Nat} (h : ∃ f, s.share.feed = some f ∧ f ≤ n) : s.feedAtMost n = true := by
  obtain ⟨f, hf, le⟩ := h
  rw [State.feedAtMost, hf]
  exact decide_eq_true le

theorem State.feedAtMost_false_of {s : State} {n : Nat} (h : ¬ ∃ f, s.share.feed = some f ∧ f ≤ n) : s.feedAtMost n = false := by
  unfold State.feedAtMost
  split
  · rename_i f hf
    exact decide_eq_false fun le => h ⟨f, hf, le⟩
  · rfl

section

variable {s v : State}

/-- In the unloader role the first halt ends the raise and makes the lower request with target 0. -/
theorem State.haltGained_lowers (unloader : v.isUnloader = true) (line : s.link.onLine = none) (h : s.HaltFrom v) :
    s.haltEndsRaiseAndLowers (v.haltGained true) := by
  obtain ⟨from', station, keeps, room⟩ := h
  have stopped : v.haltStopped.gov.feed = 0 := by rw [State.haltStopped_gov]; exact (State.holdOffClamp_gov unloader .halt).1
  obtain ⟨share, adds, noRaise, told⟩ := State.haltStopped_facts keeps.line
  have adds' := State.haltStopped_addsLower keeps.line stopped
  have quiet := State.haltLost_keeps adds'.line
  have first : v.haltGained true = (v.haltStopped.lowerRequest .halt 0).haltLost := State.haltGained_first unloader
  have lost := (State.haltLost_eq (v.haltStopped.lowerRequest .halt 0)).1
  have lowered := State.OnlyLowering.lowerRequest (c := .halt) (fun _ => rfl) (s := v.haltStopped) 0
  rw [State.abandonRaise_of_not_alive v.haltStopped_alive] at lowered
  have sends : v.transmits = s.transmits := congrArg (fun u => u.state.transmits) station
  have feed (n : Nat) : v.feedAtMost n = s.feedAtMost n := by rw [State.feedAtMost, State.feedAtMost, from']
  have pending := quiet.lowerPending nofun adds'.line 0
  have clock : (v.haltGained true).now = v.now := State.now_of_mask (haltGained_mask true v)
  have raise : (v.haltGained true).share.raise = s.share.raise.underHalt := by
    rw [first, lost, lowered.raise, share, from']
  have owed : v.haltStopped.share.yieldOwed = (s.share.yieldOwed || (s.share.raise.isSettling && s.transmits)) := by
    rw [share, from', sends]
  have timer : v.haltStopped.share.releaseTimer = s.share.releaseTimer := by rw [share, from']
  refine ⟨raise, fun x queued c hc isRaise => ?_, fun x a _ onLine => absurd (line.symm.trans onLine) nofun,
    fun x d settling level few => ?_, fun lowering grant => ?_, fun lowering grant => ?_, fun l lowering => ?_⟩
  · rw [first] at hc
    exact adds'.no_raise (noRaise x (by rw [from']; exact queued)) c ((quiet.normal c (by rw [isRaise]; nofun)).mp hc) isRaise
  · have reported := told x d (by rw [from']; exact settling) (by rw [station]; exact level) (by omega)
    have after : v.haltStopped.console.reports <+: (v.haltGained true).console.reports := by
      rw [first]
      exact (State.Reaches.refl.lowerRequest .halt 0).haltLost.reports
    exact after.subset reported
  · obtain ⟨x, start, silent, ready, waits⟩ := State.haltStopped_starts keeps.line stopped
      (by rw [from']; exact lowering) (by rw [from']; exact grant)
    rw [sends] at silent ready waits
    rw [feed] at ready waits
    rw [State.startsLoweringToZero, clock, raise, first, lost, start, pending]
    refine ⟨Raise.alive_underHalt _, rfl, rfl, x, rfl, silent, fun tx drained => ready tx (State.feedAtMost_of drained),
      fun tx filled free => waits tx (State.feedAtMost_false_of filled) ?_⟩
    rw [keeps.lowerPending nofun line]
    exact free
  · have stays : v.haltStopped.lowerRequest .halt 0 = v.haltStopped := by
      rw [State.lowerRequest_halt_none v.haltStopped_alive stopped (by rw [share, from']; exact lowering), if_neg]
      rw [share, from']
      exact Nat.not_lt.mpr (Nat.le_of_eq grant)
    rw [first, lost, stays, owed, timer]
    exact ⟨by rw [share, from']; exact lowering, rfl, rfl⟩
  · obtain ⟨low, high, offered⟩ := State.haltStopped_deepens keeps.line stopped (l := l) (by rw [from']; exact lowering)
    rw [sends, feed] at offered
    have deep : (v.haltStopped.lowerRequest .halt 0).share.yieldOwed = v.haltStopped.share.yieldOwed
        ∧ (v.haltStopped.lowerRequest .halt 0).share.releaseTimer = v.haltStopped.share.releaseTimer := by
      by_cases zero : l.target = 0
      · rw [low zero]; exact ⟨rfl, rfl⟩
      · obtain ⟨x, deepened⟩ := high (Nat.pos_of_ne_zero zero)
        rw [deepened]; exact ⟨rfl, rfl⟩
    rw [first, lost, pending, deep.1, deep.2, owed, timer]
    refine ⟨rfl, rfl, fun zero => ?_, fun positive => ⟨?_, fun tx drained => offered positive tx (State.feedAtMost_of drained)⟩⟩
    · rw [low zero, share, from']; exact lowering
    · obtain ⟨x, deepened⟩ := high positive
      exact ⟨x, by rw [deepened]⟩

end

end Sys2Proof.Machine

/-! ## What HALT and CLEAR do with the halt set (R35, R60, R61, R82) -/

namespace Sys2Proof.Machine

/-- No signal between blocks ends a lowering in progress: its own LOWER completing does (R54). -/
theorem State.Reaches.lowering_isSome {s t : State} (h : s.Reaches t) (lowering : s.share.lowering.isSome = true) :
    t.share.lowering.isSome = true := by
  have target (u : State) : u.share.lowering.isSome = u.core.target.isSome := by
    simp only [State.core, Option.isSome_map]
  induction h with
  | refl => exact lowering
  | frame _ e ih => rw [target, e, ← target]; exact ih
  | report l b c as _ ih => rw [State.report_eq]; exact ih
  | withdrawClaim _ ih => exact ih
  | offerPlain _ _ ih => rw [State.offerSingle_share]; exact ih
  | @offerListed t c _ _ ih =>
    have share : (t.offerListed c).share = t.share := by
      unfold State.offerListed
      split
      · split
        · rfl
        · rw [State.reportTxqFull, State.report_eq]
      · rfl
    rw [share]; exact ih
  | @offerUrgent t c _ _ ih =>
    have share : (t.offerUrgent c).share = t.share := by unfold State.offerUrgent; split <;> rfl
    rw [share]; exact ih
  | offerYield _ _ _ ih => rw [State.offerSingle_share]; exact ih
  | offerDrain _ _ ih => rw [State.offerSingle_share]; exact ih
  | endQueued _ _ ih => exact ih
  | abandonSending _ _ _ ih => exact ih
  | endSettling _ _ ih => exact ih
  | offerRaise x _ _ _ ih => rw [State.offerRaise_share]; exact ih
  | lower _ _ _ _ ih => rfl

/-! ### The sender's part -/

theorem State.tableTake_present {s : State} {j : StationNo} (present : (s.entry j).presence = .present) (f : Found) :
    s.tableTake j false id false f = s.setEntry j ((s.entry j).hear false s.now) := by
  have taken : s.tableTake j false id false f =
      if ((s.setEntry j ((s.entry j).hear false s.now)).entry j).changed (s.entry j)
      then (s.setEntry j ((s.entry j).hear false s.now)).tableChanged f
      else s.setEntry j ((s.entry j).hear false s.now) := rfl
  rw [taken, if_neg]
  rw [State.entry_setEntry_same, PeerEntry.hear_unchanged _ _ present]
  decide

section

variable {s : State} (t : Nat) {k : Kind} {j : StationNo}

/-- A sender that is PRESENT stays so, and nothing is signalled (R25). -/
theorem State.taken_present (line : s.link.onLine = none) (present : (s.entry j).presence = .present) :
    s.taken t k j = ((s.advance t).received k).setEntry j
      ((((s.advance t).received k).entry j).hear false ((s.advance t).received k).now) := by
  have table := (State.received_same t k line).2.2.2.1
  have entry : (((s.advance t).received k).entry j).presence = .present := by rw [State.entry, table]; exact present
  exact State.tableTake_present entry .other

theorem State.taken_share (line : s.link.onLine = none) (present : (s.entry j).presence = .present) :
    (s.taken t k j).share = s.share := by
  rw [State.taken_present t line present]
  exact (State.received_same t k line).1

theorem State.taken_haltFrom (line : s.link.onLine = none) (present : (s.entry j).presence = .present) :
    s.HaltFrom (s.taken t k j) ∧ (s.taken t k j).console.reports.length ≤ s.console.reports.length + 1 := by
  obtain ⟨share, -, station, -, -, console⟩ := State.received_same t k line
  have keeps := State.received_keeps t k line
  have length : ((s.advance t).received k).console.reports.length ≤ s.console.reports.length + 1 := by
    rw [console]; exact State.heardConsole_length_le s
  rw [State.taken_present t line present]
  exact ⟨⟨share.trans (by rw [setEntry_share, share]), station, keeps.trans (.frame keeps.line rfl), by
    rw [setEntry_console]; omega⟩, length⟩

theorem State.taken_lowering (listens : s.link.onLine = none) (lowering : s.share.lowering.isSome = true) :
    (s.taken t k j).share.lowering.isSome = true := by
  have share := (State.received_same t k listens).1
  refine State.Reaches.lowering_isSome (State.Reaches.refl.tableTake j false id false .other) ?_
  rw [share]; exact lowering

theorem State.rejected_mask (hk : (k == .bye) = false) (line : s.link.onLine = none) :
    (((s.advance t).received k).tableReject j k).mask = { s.heard t k with table := s.refreshed t j }.mask := by
  unfold State.tableReject
  dsimp only
  rw [signalIfChanged_mask, State.reportBadContent, report_mask, hk, (State.received_onlyClaims t k line).eq]
  exact State.heardConsole_mask s { s.heard t k with table := s.refreshed t j } rfl

end

/-! ### The halt set -/

theorem haltInsert_of_member {m : BitVec 16} {j : StationNo} (h : haltMember m j = true) : haltInsert m j = m := by
  refine BitVec.eq_of_getLsbD_eq fun i hi => ?_
  have bit := haltMember_insert m j ⟨i, hi⟩
  unfold haltMember at bit h
  rw [bit]
  by_cases same : (⟨i, hi⟩ : StationNo) = j
  · subst same; simp [h]
  · simp [same]

theorem haltErase_of_not_member {m : BitVec 16} {j : StationNo} (h : haltMember m j = false) : haltErase m j = m := by
  refine BitVec.eq_of_getLsbD_eq fun i hi => ?_
  have bit := haltMember_erase m j ⟨i, hi⟩
  unfold haltMember at bit h
  rw [bit]
  by_cases same : (⟨i, hi⟩ : StationNo) = j
  · subst same; simp [h]
  · simp [same]

theorem State.setHalts_mask (m : BitVec 16) (s : State) :
    { s with share := { s.share with halts := m } }.mask = { s.mask with share := { s.mask.share with halts := m } } := rfl

/-- The halt set of `s` replaced, with the report of the change. -/
def State.haltJoined (j : StationNo) (r : Nat) (s : State) : State :=
  State.reportHaltIn j r { s with share := { s.share with halts := haltInsert s.share.halts j } }

section

variable {s : State} {j : StationNo} (r : Nat)

theorem State.haltIn_member (h : haltMember s.share.halts j = true) : s.haltIn j r = s := if_pos h

theorem State.haltIn_joins (h : haltMember s.share.halts j = false) :
    s.haltIn j r = (s.haltJoined j r).haltGained (!s.halted) := if_neg (by rw [h]; decide)

theorem State.haltJoined_eq : s.haltJoined j r = { s with
    share := { s.share with halts := haltInsert s.share.halts j }, console := (s.haltJoined j r).console } := by
  unfold State.haltJoined
  rw [State.reportHaltIn, State.report_eq]

theorem State.haltIn_mask : (s.haltIn j r).mask =
    { s.mask with share := { s.mask.share with halts := haltInsert s.share.halts j } } := by
  cases member : haltMember s.share.halts j with
  | true => rw [State.haltIn_member r member, haltInsert_of_member member]; rfl
  | false =>
    rw [State.haltIn_joins r member, haltGained_mask, State.haltJoined, State.reportHaltIn, report_mask, State.setHalts_mask]

theorem State.haltRemove_eq : (s.haltRemove j).share = { s.share with halts := haltErase s.share.halts j }
    ∧ (s.haltRemove j).mask = { s.mask with share := { s.mask.share with halts := haltErase s.share.halts j } } := by
  unfold State.haltRemove
  split
  · refine ⟨?_, ?_⟩
    · rw [(State.haltLost_eq _).1, State.reportHaltCleared, State.report_eq]
    · rw [haltLost_mask, State.reportHaltCleared, report_mask, State.setHalts_mask]
  · rename_i out
    rw [haltErase_of_not_member (Bool.not_eq_true _ ▸ out)]
    exact ⟨rfl, rfl⟩

/-- A station that joins where the set is not empty, or in the intake role, changes nothing else of the share unit. -/
theorem State.haltIn_share (h : s.halted = true ∨ s.isIntake = true) :
    (s.haltIn j r).share = { s.share with halts := (s.haltIn j r).share.halts } := by
  cases member : haltMember s.share.halts j with
  | true => rw [State.haltIn_member r member]
  | false =>
    have further : ((!s.halted) && (s.haltJoined j r).isUnloader) = false := by
      obtain halted | intake := h
      · rw [halted]; rfl
      · have role : (s.haltJoined j r).isUnloader = s.isUnloader := by rw [State.haltJoined_eq]; rfl
        rw [role, State.isUnloader_of_isIntake intake, Bool.and_false]
    have share : ((s.haltJoined j r).haltGained (!s.halted)).share = (s.haltJoined j r).share := by
      rw [State.haltGained_further further, (State.haltLost_eq _).1, State.holdOffClamp_eq]
    rw [State.haltIn_joins r member, share, State.haltJoined_eq]

theorem State.not_member_of_not_halted (calm : s.halted = false) : haltMember s.share.halts j = false := by
  have empty : s.share.halts = 0#16 := by simpa [State.halted] using calm
  rw [empty, haltMember]
  simp

end

end Sys2Proof.Machine

/-! ## HALT and CLEAR taken (R16, R35, R60, R61, R82) -/

namespace Sys2Proof.Machine

section

variable {s : State} {t : Nat} {j : StationNo} {d : BitVec 5} {p : Bytes} {r : Nat}
  (live : s.inReset = none) (listens : s.listens = true) (peer : j ≠ s.own) (body : readReason p = some r)
  (urgent : d.toNat = 16 ∨ d.toNat = 17 ∨ d.toNat = 31)

theorem destFor_urgent (urgent : d.toNat = 16 ∨ d.toNat = 17 ∨ d.toNat = 31) (q : Straps) :
    destFor q d.toNat = true ↔ d.toNat = 31 ∨ d.toNat = Belt.dest q.belt := by
  rw [destFor_iff]
  omega

/-- A frame of the line's two urgent kinds that is for this station is judged by its reason (R35, log 14). -/
theorem applyJudged {u w x : State} {q : Straps} {n : Nat} {good : Bool} (hand : State → State)
    (straps : u.station.straps = q) (taken : w.station.straps = q) :
    (if destFor u.station.straps n && !good then x else if destFor w.station.straps n then hand w else w)
      = if destFor q n then (if good then hand w else x) else w := by
  rw [straps, taken]
  cases destFor q n <;> cases good <;> rfl

include live listens peer body urgent

theorem exec_haltTaken : exec (.haltTaken t j d p) s = .next (if destFor s.station.straps d.toNat then
    (if haltReasonGood r then (s.taken t .halt j).haltIn j r else ((s.advance t).received .halt).tableReject j .halt)
    else s.taken t .halt j) := by
  have line := State.listens_line listens
  have permits : Kind.permits .halt d.toNat = true := by simpa [Kind.permits, or_assoc] using urgent
  have e := State.receive_eq t j r (fun r => State.applyHalt j d.toNat r) live listens permits
  rw [if_neg peer] at e
  change Host.Outcome.next (s.live t (·.receive j .halt d.toNat (readReason p) _)) = _
  rw [body, e]
  exact congrArg Host.Outcome.next (applyJudged (w := s.taken t .halt j) (·.haltIn j r)
    (by rw [(State.received_same t .halt line).2.2.1]) (State.taken_straps t .halt j line))

theorem exec_clearTaken : exec (.clearTaken t j d p) s = .next (if destFor s.station.straps d.toNat then
    (if clearReasonGood r then (s.taken t .clear j).haltRemove j else ((s.advance t).received .clear).tableReject j .clear)
    else s.taken t .clear j) := by
  have line := State.listens_line listens
  have permits : Kind.permits .clear d.toNat = true := by simpa [Kind.permits, or_assoc] using urgent
  have e := State.receive_eq t j r (fun r => State.applyClear j d.toNat r) live listens permits
  rw [if_neg peer] at e
  change Host.Outcome.next (s.live t (·.receive j .clear d.toNat (readReason p) _)) = _
  rw [body, e]
  exact congrArg Host.Outcome.next (applyJudged (w := s.taken t .clear j) (·.haltRemove j)
    (by rw [(State.received_same t .clear line).2.2.1]) (State.taken_straps t .clear j line))

end

section

variable {s : State} (t : Nat) {j : StationNo} (r : Nat)

/-- The halt set of the state in which a frame of kind `k` is handed on, changed. -/
theorem State.taken_halts (k : Kind) (line : s.link.onLine = none) (m : BitVec 16) {v : State}
    (masked : v.mask = { (s.taken t k j).mask with share := { (s.taken t k j).mask.share with halts := m } }) :
    v.mask = { s.heard t k with table := s.refreshed t j, share := { s.share with halts := m } }.mask := by
  rw [masked, State.taken_mask t k j line]
  rfl

theorem State.taken_halts_eq (k : Kind) (line : s.link.onLine = none) : (s.taken t k j).share.halts = s.share.halts :=
  (State.halts_of_mask (State.taken_mask t k j line) :)

theorem State.taken_halted (k : Kind) (line : s.link.onLine = none) : (s.taken t k j).halted = s.halted := by
  rw [State.halted, State.taken_halts_eq t k line, State.halted]

theorem State.taken_isUnloader (k : Kind) (line : s.link.onLine = none) : (s.taken t k j).isUnloader = s.isUnloader := by
  rw [State.isUnloader, State.taken_straps t k j line, State.isUnloader]

/-- The HALT that is applied (R60, R61, R82). -/
theorem State.haltIn_taken (line : s.link.onLine = none) :
    haltMember ((s.taken t .halt j).haltIn j r).share.halts j = true
      ∧ (haltMember s.share.halts j = false → s.isUnloader = true →
        ((s.taken t .halt j).haltIn j r).gov.feed = 0 ∧ ((s.taken t .halt j).haltIn j r).gov.target = 0
          ∧ ((s.taken t .halt j).haltIn j r).gov.bindTarget = .holdOff .halt)
      ∧ (s.halted = false → s.isUnloader = true →
        ((s.entry j).presence = .present → s.haltEndsRaiseAndLowers ((s.taken t .halt j).haltIn j r))
        ∧ ((s.taken t .halt j).haltIn j r).share.raise.alive = false
        ∧ (0 < s.share.grant ∨ s.share.lowering.isSome = true →
          ∃ l, ((s.taken t .halt j).haltIn j r).share.lowering = some l ∧ l.target = 0))
      ∧ ((s.entry j).presence = .present → s.halted = true ∨ s.isIntake = true →
        ((s.taken t .halt j).haltIn j r).share = { s.share with halts := ((s.taken t .halt j).haltIn j r).share.halts }) := by
  have halts := State.taken_halts_eq (j := j) t .halt line
  have halted := State.taken_halted (j := j) t .halt line
  have role := State.taken_isUnloader (j := j) t .halt line
  have line' := State.taken_line t .halt j line
  have joined := State.haltJoined_eq (s := s.taken t .halt j) (j := j) r
  have unloads : ((s.taken t .halt j).haltJoined j r).isUnloader = s.isUnloader := by
    rw [joined]; exact role
  refine ⟨?_, fun out unloader => ?_, fun calm unloader => ?_, fun present h => ?_⟩
  · have set : ((s.taken t .halt j).haltIn j r).share.halts = haltInsert (s.taken t .halt j).share.halts j :=
      congrArg (fun v => v.share.halts) (State.haltIn_mask (s := s.taken t .halt j) r)
    rw [set, haltMember_insert]
    simp
  · rw [State.haltIn_joins r (by rw [halts]; exact out), State.haltGained_gov (unloads.trans unloader)]
    exact State.holdOffClamp_gov (unloads.trans unloader) .halt
  · have out := State.not_member_of_not_halted (j := j) calm
    have first : (!(s.taken t .halt j).halted) = true := by rw [halted, calm]; rfl
    rw [State.haltIn_joins r (by rw [halts]; exact out), first]
    obtain ⟨ended, lowered⟩ := State.haltGained_ends (unloads.trans unloader) (by rw [joined]; exact line')
    refine ⟨fun present => ?_, ended, fun h => lowered ?_⟩
    · obtain ⟨⟨share, station, keeps, -⟩, length⟩ := State.taken_haltFrom (k := .halt) t line present
      refine State.haltGained_lowers (unloads.trans unloader) line ⟨?_, ?_, ?_, ?_⟩
      · rw [joined, share]
      · rw [joined]; exact station
      · exact keeps.trans (.frame line' (by rw [joined]))
      · have told : ((s.taken t .halt j).haltJoined j r).console.reports.length
            ≤ (s.taken t .halt j).console.reports.length + 1 := State.report_length_le ..
        omega
    · rw [joined]
      obtain grant | lowering := h
      · exact .inl (grant.trans_eq (State.grant_of_mask (State.taken_mask t .halt j line) :).symm)
      · exact .inr (State.taken_lowering t line lowering)
  · have h' : (s.taken t .halt j).halted = true ∨ (s.taken t .halt j).isIntake = true := by
      rw [halted, State.isIntake, State.taken_straps t .halt j line]
      exact h
    have share := State.haltIn_share (j := j) r h'
    rw [State.taken_share t line present] at share
    exact share

/-- The CLEAR that is applied (R60). -/
theorem State.haltRemove_taken (line : s.link.onLine = none) :
    haltMember ((s.taken t .clear j).haltRemove j).share.halts j = false
      ∧ ((s.entry j).presence = .present → ((s.taken t .clear j).haltRemove j).share
        = { s.share with halts := ((s.taken t .clear j).haltRemove j).share.halts }) := by
  have share := (State.haltRemove_eq (s := s.taken t .clear j) (j := j)).1
  rw [share]
  refine ⟨by simp [haltMember_erase], fun present => ?_⟩
  rw [State.taken_share t line present]

end

/-- Settles O16: the halt set by the frame's destination and reason, the lowering by what a first halt does. -/
theorem haltAndClearChangeTheHaltSet : Obligations.HaltAndClearChangeTheHaltSet := by
  intro t j d p r s live listens peer body urgent
  have line := State.listens_line listens
  have here := destFor_urgent urgent s.station.straps
  have halt := exec_haltTaken (t := t) live listens peer body urgent
  have clear := exec_clearTaken (t := t) live listens peer body urgent
  have rejected (k : Kind) (hk : (k == .bye) = false) := State.rejected_mask (j := j) t hk line
  have haltGood : haltReasonGood r = true ↔ 1 ≤ r ∧ r ≤ 100 := by simp [haltReasonGood]
  have clearGood : clearReasonGood r = true ↔ 1 ≤ r ∧ r ≤ 99 := by simp [clearReasonGood]
  refine ⟨fun mine low high => ?_, fun mine low high => ?_, fun bad => ?_, fun bad => ?_⟩
  · rw [if_pos (here.mpr mine), if_pos (haltGood.mpr ⟨low, high⟩)] at halt
    refine ⟨_, halt, State.haltIn_taken t r line, State.taken_halts t .halt line _ ?_⟩
    rw [State.haltIn_mask, State.taken_halts_eq t .halt line]
    rfl
  · rw [if_pos (here.mpr mine), if_pos (clearGood.mpr ⟨low, high⟩)] at clear
    refine ⟨_, clear, State.haltRemove_taken t line, State.taken_halts t .clear line _ ?_⟩
    rw [State.haltRemove_eq.2, State.taken_halts_eq t .clear line]
    rfl
  · by_cases mine : destFor s.station.straps d.toNat = true
    · have wrong : ¬ haltReasonGood r = true := by
        rw [haltGood]
        obtain ⟨-, range⟩ | away := bad
        · omega
        · exact absurd (here.mp mine) away
      rw [if_pos mine, if_neg wrong] at halt
      exact ⟨_, halt, trivial, rejected .halt rfl⟩
    · rw [if_neg mine] at halt
      exact ⟨_, halt, trivial, State.taken_mask t .halt j line⟩
  · by_cases mine : destFor s.station.straps d.toNat = true
    · have wrong : ¬ clearReasonGood r = true := by
        rw [clearGood]
        obtain ⟨-, range⟩ | away := bad
        · omega
        · exact absurd (here.mp mine) away
      rw [if_pos mine, if_neg wrong] at clear
      exact ⟨_, clear, trivial, rejected .clear rfl⟩
    · rw [if_neg mine] at clear
      exact ⟨_, clear, trivial, State.taken_mask t .clear j line⟩

end Sys2Proof.Machine

/-! ## Fields read back from their bytes (R190, R192, R193) -/

namespace Sys2Proof.Machine

theorem byteOf_toNat (n : Nat) : (byteOf n).toNat = n % 256 := BitVec.toNat_ofNat n 8

theorem byteOf_toNat_of_lt {n : Nat} (h : n < 256) : (byteOf n).toNat = n := by
  rw [byteOf_toNat, Nat.mod_eq_of_lt h]

/-- A field of two bytes. -/
theorem read2_bytes {n : Nat} (h : n < 65536) : read2 (byteOf (n / 256)) (byteOf n) = n := by
  rw [read2, byteOf_toNat, byteOf_toNat]
  omega

/-- A field of four bytes. -/
theorem read4_bytes {n : Nat} (h : n < 4294967296) :
    read4 (byteOf (n / 16777216)) (byteOf (n / 65536)) (byteOf (n / 256)) (byteOf n) = n := by
  rw [read4, byteOf_toNat, byteOf_toNat, byteOf_toNat, byteOf_toNat]
  omega

/-- An optional field of two bytes that is present never spells all ones. -/
theorem readOpt2_bytes {o : Option Nat} (h : ∀ x, o = some x → x < 65535) :
    readOpt2 (byteOf (o.getD 65535 / 256)) (byteOf (o.getD 65535)) = o := by
  unfold readOpt2
  cases o with
  | none => rw [read2_bytes (by decide)]; rfl
  | some x =>
    have small := h x rfl
    rw [Option.getD_some, read2_bytes (by omega), if_neg (by omega)]

/-! ### The role and belt bits (R192) -/

theorem roleBelt_lt (r : Role) (b : Belt) : roleBelt r b < 4 := by
  cases r <;> cases b <;> decide

theorem byteOf_getLsbD {n i : Nat} (h : i < 8) : (byteOf n).getLsbD i = decide (n / 2 ^ i % 2 = 1) := by
  rw [byteOf, BitVec.getLsbD_ofNat, Nat.testBit_eq_decide_div_mod_eq, decide_eq_true h, Bool.true_and]

theorem roleOf_byte (r : Role) (b : Belt) (n : Nat) : roleOf (byteOf (n * 16 + roleBelt r b)) = r := by
  have bit : (byteOf (n * 16 + roleBelt r b)).getLsbD 1 = decide (Role.code r = 1) := by
    rw [byteOf_getLsbD (by decide), roleBelt]
    have belt : Belt.bit b < 2 := by cases b <;> decide
    have role : Role.code r < 2 := by cases r <;> decide
    exact decide_eq_decide.mpr (by omega)
  rw [roleOf, bit]
  cases r <;> rfl

theorem beltOf_byte (r : Role) (b : Belt) (n : Nat) : beltOf (byteOf (n * 16 + roleBelt r b)) = b := by
  have bit : (byteOf (n * 16 + roleBelt r b)).getLsbD 0 = decide (Belt.bit b = 1) := by
    rw [byteOf_getLsbD (by decide), roleBelt]
    have belt : Belt.bit b < 2 := by cases b <;> decide
    exact decide_eq_decide.mpr (by omega)
  rw [beltOf, bit]
  cases b <;> rfl

theorem stateCode_byte {n : Nat} (h : n < 16) (r : Role) (b : Belt) :
    (byteOf (n * 16 + roleBelt r b)).toNat / 16 = n := by
  have small := roleBelt_lt r b
  rw [byteOf_toNat_of_lt (by omega)]
  omega

/-! ### The payloads (R192) -/

theorem readHello_bytes {b : HelloBody} (cause : b.cause < 256) (capacity : b.capacity < 65536)
    (planId : b.planId < 4294967296) : readHello (Content.payload (.hello b)) = some b := by
  have role := roleOf_byte b.role b.belt 0
  have belt := beltOf_byte b.role b.belt 0
  rw [Nat.zero_mul, Nat.zero_add] at role belt
  change some _ = some b
  rw [byteOf_toNat_of_lt cause, role, belt, read2_bytes capacity, read4_bytes planId]

theorem readBye_bytes {r : Nat} (h : r < 256) : readBye (Content.payload (.bye r)) = some r :=
  congrArg some (byteOf_toNat_of_lt h)

theorem readStatus_bytes {b : StatusBody} (state : b.stateCode < 16) (position : ∀ x, b.position = some x → x < 65535)
    (hold : b.hold < 256) (slot : b.slot < 256) (age : b.age < 65536) (grant : b.grant < 65536)
    (target : b.raiseTarget < 65536) (feed : b.feed < 65536) (allowed : b.allowed < 65536) (capacity : b.capacity < 65536)
    (planId : b.planId < 4294967296) (mass : b.mass < 4294967296) : readStatus (Content.payload (.status b)) = some b := by
  change some _ = some b
  rw [stateCode_byte state, roleOf_byte, beltOf_byte, readOpt2_bytes position, byteOf_toNat_of_lt hold,
    byteOf_toNat_of_lt slot, read2_bytes age, read2_bytes grant, read2_bytes target, read2_bytes feed, read2_bytes allowed,
    read2_bytes capacity, read4_bytes planId, read4_bytes mass, read2_bytes b.halts.isLt, BitVec.ofNat_toNat,
    BitVec.setWidth_eq]

theorem readRaise_bytes {x g : Nat} (target : x < 65536) (grant : g < 65536) :
    readRaise (Content.payload (.raise x g)) = some (x, g) := by
  change some _ = some _
  rw [read2_bytes target, read2_bytes grant]

theorem readWord_bytes {g : Nat} (h : g < 65536) : readWord (bytes2 g) = some g :=
  congrArg some (read2_bytes h)

theorem readClaim_bytes {b : ClaimBody} (hold : b.hold < 256) (slot : b.slot < 256) (here : b.fromPos < 65536)
    (there : b.toPos < 65536) : readClaim (Content.payload (.claim b)) = some b := by
  change some _ = some b
  rw [byteOf_toNat_of_lt hold, byteOf_toNat_of_lt slot, read2_bytes here, read2_bytes there]

theorem readRelease_bytes {h l : Nat} (hold : h < 256) (slot : l < 256) :
    readRelease (Content.payload (.release h l)) = some (h, l) := by
  change some _ = some _
  rw [byteOf_toNat_of_lt hold, byteOf_toNat_of_lt slot]

theorem readReason_byte {r : Nat} (h : r < 256) : readReason [byteOf r] = some r := congrArg some (byteOf_toNat_of_lt h)

theorem readPairs_bytes : ∀ {ps : List (Nat × Nat)}, (∀ q ∈ ps, q.1 < 256 ∧ q.2 < 4294967296) →
    readPairs (pairBytes ps) = some ps
  | [], _ => rfl
  | (h, m) :: rest, fits => by
    rw [List.forall_mem_cons] at fits
    obtain ⟨⟨hold, mass⟩, fits⟩ := fits
    change (readPairs (pairBytes rest)).map _ = _
    rw [readPairs_bytes fits, Option.map_some, byteOf_toNat_of_lt hold, read4_bytes mass]

theorem readTally_bytes {b : TallyBody} (planId : b.planId < 4294967296) (oneOrMore : 1 ≤ b.pairs.length)
    (few : b.pairs.length ≤ 12) (fits : ∀ q ∈ b.pairs, q.1 < 256 ∧ q.2 < 4294967296) : readTally b.bytes = some b := by
  have pairs := readPairs_bytes fits
  simp only [TallyBody.bytes, bytes4, List.cons_append, List.nil_append, readTally, pairs]
  rw [if_pos ⟨oneOrMore, few⟩, read4_bytes planId]

/-! ### MEASURE (R193) -/

theorem readMeasure_bytes {m : Measure} (receiver : m.receiver < 65536) (feed : m.feed < 65536) (velocity : m.velocity < 65536)
    (position : m.position < 65536) (hold : m.hold < 256) (slot : m.slot < 256) (capacity : m.capacity < 65536) :
    readMeasure m.bytes = some m := by
  have flags (r f g : Bool) : (byteOf (flagBit r 1 + flagBit f 2 + flagBit g 4)).getLsbD 0 = r
      ∧ (byteOf (flagBit r 1 + flagBit f 2 + flagBit g 4)).getLsbD 1 = f
      ∧ (byteOf (flagBit r 1 + flagBit f 2 + flagBit g 4)).getLsbD 2 = g := by
    revert r f g; decide
  obtain ⟨ready, fault, running⟩ := flags m.ready m.fault m.running
  change some _ = some m
  rw [read4_bytes m.count.isLt, read2_bytes receiver, read2_bytes feed, read2_bytes velocity, read2_bytes position,
    byteOf_toNat_of_lt hold, byteOf_toNat_of_lt slot, read2_bytes capacity, ready, fault, running, BitVec.ofNat_toNat,
    BitVec.setWidth_eq]

end Sys2Proof.Machine

/-! ## Bits on the quay line, read back (R1, R2, R3, R190, R191) -/

namespace Sys2Proof.Machine

/-! ### Numbers and bytes as bits (R190) -/

@[simp] theorem bitsOf_length (w n : Nat) : (bitsOf w n).length = w := by
  induction w with
  | zero => rfl
  | succ w ih => rw [bitsOf, List.length_cons, ih]

theorem foldl_bitsOf (w n a : Nat) :
    (bitsOf w n).foldl (fun m b => 2 * m + flagBit b 1) a = a * 2 ^ w + n % 2 ^ w := by
  induction w generalizing a with
  | zero => simp [bitsOf, Nat.mod_one]
  | succ w ih =>
    have bit : flagBit (n.testBit w) 1 = n / 2 ^ w % 2 := by
      rw [← Nat.toNat_testBit]
      cases n.testBit w <;> rfl
    rw [bitsOf, List.foldl_cons, ih, bit, Nat.mod_pow_succ]
    ring

theorem numberOf_bitsOf {w n : Nat} (h : n < 2 ^ w) : numberOf (bitsOf w n) = n := by
  rw [numberOf, foldl_bitsOf, Nat.zero_mul, Nat.zero_add, Nat.mod_eq_of_lt h]

theorem byteBits_cons (b : Byte) (bytes : Bytes) : byteBits (b :: bytes) = bitsOf 8 b.toNat ++ byteBits bytes := rfl

theorem byteBits_length (bytes : Bytes) : (byteBits bytes).length = 8 * bytes.length := by
  induction bytes with
  | nil => rfl
  | cons b bytes ih => rw [byteBits_cons, List.length_append, bitsOf_length, ih, List.length_cons]; ring

theorem byteOf_byte (b : Byte) : byteOf b.toNat = b := by rw [byteOf, BitVec.ofNat_toNat, BitVec.setWidth_eq]

theorem bytesOfBits_byteBits (bytes : Bytes) : bytesOfBits bytes.length (byteBits bytes) = bytes := by
  induction bytes with
  | nil => rfl
  | cons b bytes ih =>
    have eight := bitsOf_length 8 b.toNat
    rw [byteBits_cons, List.length_cons, bytesOfBits, List.take_left' eight, List.drop_left' eight, ih,
      numberOf_bitsOf b.isLt, byteOf_byte]

/-! ### Sync bits (R2) -/

/-- What is left on the line to a receiver that has read `p` bits since the last sync bit: after 8 bits the sync bit comes
first. -/
def onWire (p : Nat) (bits tail : List Bool) : List Bool :=
  if p = 8 then true :: (insertSync 0 bits ++ tail) else insertSync p bits ++ tail

theorem insertSync_cons (k : Nat) (b : Bool) (rest tail : List Bool) :
    insertSync k (b :: rest) ++ tail = b :: onWire (k + 1) rest tail := by
  unfold onWire
  rw [insertSync]
  by_cases seven : k = 7
  · rw [if_pos seven, if_pos (by omega)]; rfl
  · rw [if_neg seven, if_neg (by omega)]; rfl

theorem onWire_cons {p : Nat} (h : p < 8) (b : Bool) (rest tail : List Bool) :
    onWire p (b :: rest) tail = b :: onWire (p + 1) rest tail := by
  rw [← insertSync_cons, onWire, if_neg (by omega)]

theorem onWire_sync (b : Bool) (rest tail : List Bool) : onWire 8 (b :: rest) tail = true :: b :: onWire 1 rest tail := by
  rw [onWire, if_pos rfl, insertSync_cons]

/-- A receiver takes the sender's bits and leaves out the sync bits. -/
theorem readBits_onWire (xs ys tail : List Bool) : ∀ {p : Nat}, p ≤ 8 →
    ∃ q, q ≤ 8 ∧ readBits xs.length p (onWire p (xs ++ ys) tail) = .ok (xs, q, onWire q ys tail) := by
  induction xs with
  | nil => exact fun {p} h => ⟨p, h, rfl⟩
  | cons b xs ih =>
    intro p h
    by_cases eight : p = 8
    · subst eight
      obtain ⟨q, hq, e⟩ := ih (p := 1) (by decide)
      refine ⟨q, hq, ?_⟩
      rw [List.cons_append, onWire_sync, List.length_cons]
      simp only [readBits, e, ↓reduceIte]
    · obtain ⟨q, hq, e⟩ := ih (p := p + 1) (by omega)
      refine ⟨q, hq, ?_⟩
      rw [List.cons_append, onWire_cons (by omega), List.length_cons]
      simp only [readBits, if_neg eight, e]

theorem onWire_ne_nil (p : Nat) (bits : List Bool) {tail : List Bool} (h : tail ≠ []) : onWire p bits tail ≠ [] := by
  unfold onWire
  split
  · nofun
  · exact List.append_ne_nil_of_right_ne_nil _ h

/-! ### The line's occupancies (R1) -/

theorem LineView.events_cons (v : LineView) (level : Bool) (rest : List Bool) :
    v.events (level :: rest) = (v.read level).2.toList ++ (v.read level).1.events rest := by
  cases v <;> rfl

theorem recessiveRun_le (run : Nat) (level : Bool) : recessiveRun run level ≤ run + 1 := by
  cases level
  · exact Nat.le_refl _
  · exact Nat.zero_le _

theorem LineView.events_occupied {run : Nat} {level : Bool} (h : recessiveRun run level < 12) (bits rest : List Bool) :
    (LineView.occupied run bits).events (level :: rest)
      = (LineView.occupied (recessiveRun run level) (bits ++ [level])).events rest := by
  have reads : (LineView.occupied run bits).read level = (.occupied (recessiveRun run level) (bits ++ [level]), none) :=
    if_neg (Nat.not_le.mpr h)
  rw [LineView.events_cons, reads]
  rfl

/-- Between sync bits the line is never recessive long enough to be idle. -/
theorem LineView.events_insertSync (xs rest : List Bool) : ∀ {k run : Nat} {bits : List Bool}, k < 8 → run ≤ k →
    ∃ run', run' ≤ 7 ∧ (LineView.occupied run bits).events (insertSync k xs ++ rest)
      = (LineView.occupied run' (bits ++ insertSync k xs)).events rest := by
  induction xs with
  | nil => exact fun {k run bits} h le => ⟨run, by omega, by rw [insertSync, List.append_nil, List.nil_append]⟩
  | cons b xs ih =>
    intro k run bits h le
    have short := recessiveRun_le run b
    have dominant (r : Nat) : recessiveRun r true < 12 := Nat.succ_pos 11
    rw [insertSync]
    by_cases seven : k = 7
    · obtain ⟨run', le', e⟩ := ih (k := 0) (run := 0) (bits := bits ++ [b] ++ [true]) (by decide) (by decide)
      refine ⟨run', le', ?_⟩
      rw [if_pos seven, List.cons_append, List.cons_append, LineView.events_occupied (by omega),
        LineView.events_occupied (dominant _)]
      refine e.trans ?_
      simp only [List.append_assoc, List.cons_append, List.nil_append]
    · obtain ⟨run', le', e⟩ := ih (k := k + 1) (run := recessiveRun run b) (bits := bits ++ [b]) (by omega) (by omega)
      refine ⟨run', le', ?_⟩
      rw [if_neg seven, List.cons_append, LineView.events_occupied (by omega), e]
      simp only [List.append_assoc, List.cons_append, List.nil_append]

theorem LineView.events_idle (n : Nat) : LineView.idle.events (List.replicate n false) = [] := by
  induction n with
  | zero => rfl
  | succ n ih => rw [List.replicate_succ, LineView.events_cons]; exact ih

/-- A line left recessive ends its occupancy once. -/
theorem LineView.events_recessive (n : Nat) : ∀ {run : Nat} {bits : List Bool}, run < 12 → 12 ≤ run + n →
    ∃ m, 1 ≤ m ∧ (LineView.occupied run bits).events (List.replicate n false)
      = [.ended (bits ++ List.replicate m false)] := by
  induction n with
  | zero => intro run bits h le; omega
  | succ n ih =>
    intro run bits h le
    rw [List.replicate_succ]
    by_cases last : run = 11
    · subst last
      have full : Config.idleBits ≤ recessiveRun 11 false := by decide
      have reads : (LineView.occupied 11 bits).read false = (.idle, some (.ended (bits ++ [false]))) := by
        simp only [LineView.read, if_pos full]
      refine ⟨1, le_rfl, ?_⟩
      rw [LineView.events_cons, reads, LineView.events_idle]
      rfl
    · have run' : recessiveRun run false = run + 1 := rfl
      obtain ⟨m, -, e⟩ := ih (run := run + 1) (bits := bits ++ [false]) (by omega) (by omega)
      refine ⟨m + 1, by omega, ?_⟩
      rw [LineView.events_occupied (by omega), run', e, List.replicate_succ, List.append_assoc]
      rfl

end Sys2Proof.Machine

/-! ## Frames judged as they were sent (R1 to R4, R145, R178, R180, R191 to R194) -/

namespace Sys2Proof.Machine

/-! ### The quay frame (R2, R3) -/

/-- A frame on the line, sync bits and all, is one occupancy that ends in the frame's delimiter. -/
theorem QuayFrame.events_lineBits (f : QuayFrame) (slot : Bool) : ∃ tail : List Bool, tail ≠ [] ∧
    LineView.idle.events (f.lineBits slot ++ List.replicate 12 false) = [.ended (onWire 0 f.body tail)] := by
  have line : f.lineBits slot ++ List.replicate 12 false
      = true :: (insertSync 0 f.body ++ slot :: List.replicate 20 false) := by
    simp only [QuayFrame.lineBits, List.append_assoc, List.cons_append, List.nil_append, List.replicate_append_replicate]
  have start (rest : List Bool) : LineView.idle.events (true :: rest) = (LineView.occupied 0 []).events rest := rfl
  obtain ⟨run, few, synced⟩ := LineView.events_insertSync f.body (slot :: List.replicate 20 false)
    (k := 0) (run := 0) (bits := []) (by decide) le_rfl
  have short := recessiveRun_le run slot
  obtain ⟨m, -, ends⟩ := LineView.events_recessive 20 (run := recessiveRun run slot)
    (bits := [] ++ insertSync 0 f.body ++ [slot]) (by omega) (by omega)
  refine ⟨slot :: List.replicate m false, nofun, ?_⟩
  rw [line, start, synced, LineView.events_occupied (by omega), ends]
  simp only [onWire, List.nil_append, List.append_assoc, List.cons_append, if_neg (by decide : ¬ (0 = 8))]

theorem readBits_onWire_of_length {n p : Nat} {xs : List Bool} (h : xs.length = n) (hp : p ≤ 8) (ys tail : List Bool) :
    ∃ q, q ≤ 8 ∧ readBits n p (onWire p (xs ++ ys) tail) = .ok (xs, q, onWire q ys tail) :=
  h ▸ readBits_onWire xs ys tail hp

/-- The part of a frame from its length on is judged to be its payload. -/
theorem judgeTail_onWire {k : Kind} {p : Nat} {payload : Bytes} (kindDest : List Bool) {tail : List Bool} (hp : p ≤ 8)
    (permits : k.permitsLength payload.length = true) (short : payload.length < 128) (ends : tail ≠ []) :
    judgeTail k kindDest p (onWire p (bitsOf 7 payload.length ++ (byteBits payload
        ++ bitsOf 16 (crcBits (kindDest ++ bitsOf 7 payload.length ++ byteBits payload)).toNat)) tail) = .ok payload := by
  obtain ⟨p1, h1, e1⟩ := readBits_onWire_of_length (bitsOf_length 7 payload.length) hp (byteBits payload
    ++ bitsOf 16 (crcBits (kindDest ++ bitsOf 7 payload.length ++ byteBits payload)).toNat) tail
  obtain ⟨p2, h2, e2⟩ := readBits_onWire_of_length (byteBits_length payload) h1
    (bitsOf 16 (crcBits (kindDest ++ bitsOf 7 payload.length ++ byteBits payload)).toNat) tail
  obtain ⟨p3, h3, e3⟩ := readBits_onWire_of_length
    (bitsOf_length 16 (crcBits (kindDest ++ bitsOf 7 payload.length ++ byteBits payload)).toNat) h2 [] tail
  rw [List.append_nil] at e3
  have length : numberOf (bitsOf 7 payload.length) = payload.length := numberOf_bitsOf short
  have crc := numberOf_bitsOf (crcBits (kindDest ++ bitsOf 7 payload.length ++ byteBits payload)).isLt
  simp only [judgeTail, e1, length, permits, e2, e3, crc, onWire_ne_nil p3 [] ends, bytesOfBits_byteBits, ↓reduceIte]

/-- What judges a frame good (R2, R3, R4): its word, kind, destination and payload within their fields, urgency and
destination permitted. -/
structure QuayFrame.Sendable (f : QuayFrame) (k : Kind) : Prop where
  word : f.word < 512
  kind : f.kind < 16
  code : Kind.ofCode f.kind = some k
  urgency : k.urgent = decide (256 ≤ f.word)
  dest : f.dest < 32
  permits : k.permits f.dest = true
  length : k.permitsLength f.payload.length = true
  short : f.payload.length < 128

theorem QuayFrame.judgeQuay_onWire {f : QuayFrame} {k : Kind} (h : f.Sendable k) {tail : List Bool} (ends : tail ≠ []) :
    judgeQuay (onWire 0 f.body tail) = .ok ⟨f.word % 16, k, f.dest, f.payload⟩ := by
  have parts : f.body = bitsOf 9 f.word ++ (bitsOf 4 f.kind ++ (bitsOf 5 f.dest ++ (bitsOf 7 f.payload.length
      ++ (byteBits f.payload ++ bitsOf 16 (crcBits ((bitsOf 4 f.kind ++ bitsOf 5 f.dest)
        ++ bitsOf 7 f.payload.length ++ byteBits f.payload)).toNat)))) := by
    simp only [QuayFrame.body, QuayFrame.covered, List.append_assoc]
  rw [parts]
  obtain ⟨p1, h1, e1⟩ := readBits_onWire_of_length (bitsOf_length 9 f.word) (Nat.zero_le 8) (bitsOf 4 f.kind
    ++ (bitsOf 5 f.dest ++ (bitsOf 7 f.payload.length ++ (byteBits f.payload ++ bitsOf 16 (crcBits ((bitsOf 4 f.kind
      ++ bitsOf 5 f.dest) ++ bitsOf 7 f.payload.length ++ byteBits f.payload)).toNat)))) tail
  obtain ⟨p2, h2, e2⟩ := readBits_onWire_of_length (bitsOf_length 4 f.kind) h1 (bitsOf 5 f.dest
    ++ (bitsOf 7 f.payload.length ++ (byteBits f.payload ++ bitsOf 16 (crcBits ((bitsOf 4 f.kind
      ++ bitsOf 5 f.dest) ++ bitsOf 7 f.payload.length ++ byteBits f.payload)).toNat))) tail
  obtain ⟨p3, h3, e3⟩ := readBits_onWire_of_length (bitsOf_length 5 f.dest) h2 (bitsOf 7 f.payload.length
    ++ (byteBits f.payload ++ bitsOf 16 (crcBits ((bitsOf 4 f.kind ++ bitsOf 5 f.dest)
      ++ bitsOf 7 f.payload.length ++ byteBits f.payload)).toNat)) tail
  have e4 := judgeTail_onWire (bitsOf 4 f.kind ++ bitsOf 5 f.dest) h3 h.length h.short ends
  have word := numberOf_bitsOf (w := 9) h.word
  have kind := numberOf_bitsOf (w := 4) h.kind
  have dest := numberOf_bitsOf (w := 5) h.dest
  simp only [judgeQuay, e1, e2, kind, h.code, word, ← h.urgency, e3, e4, dest, h.permits, ↓reduceIte]

/-! ### The own frames (R4, R191, R192) -/

theorem Kind.code_lt (k : Kind) : k.code < 16 := by cases k <;> decide

theorem Kind.ofCode_code (k : Kind) : Kind.ofCode k.code = some k := by cases k <;> rfl

theorem Kind.permitsLength_lt {k : Kind} {n : Nat} (h : k.permitsLength n = true) : n < 128 := by
  cases k <;> simp [Kind.permitsLength] at h <;> omega

theorem Content.dest_permitted (c : Content) (belt : Belt) : c.dest belt < 32 ∧ c.kind.permits (c.dest belt) = true := by
  have belts : (Belt.dest belt < 32 ∧ Kind.permits .capacity (Belt.dest belt) = true)
      ∧ Kind.permits .halt (Belt.dest belt) = true := by cases belt <;> decide
  have station (d : StationNo) : d.val < 32 ∧ Kind.permits .recall d.val = true ∧ Kind.permits .reset d.val = true := by
    revert d; decide
  have quay : 31 < 32 := by decide
  match c with
  | .recall d _ => exact ⟨(station d).1, (station d).2.1⟩
  | .reset d => exact ⟨(station d).1, (station d).2.2⟩
  | .capacity _ => exact belts.1
  | .halt .belt _ => exact ⟨belts.1.1, belts.2⟩
  | .halt .quay _ | .clear _ => exact ⟨quay, rfl⟩
  | .hello _ | .bye _ | .status _ | .raise _ _ | .lower _ | .claim _ | .release _ _ | .tally _ => exact ⟨quay, rfl⟩

theorem arbitrationWord_urgent (u : Bool) {rank : Nat} (low : rank ≤ 15) (number : StationNo) :
    u = decide (256 ≤ (arbitrationWord u rank number).toNat) := by
  have below := number.isLt
  rw [arbitrationWord_toNat u low]
  cases u <;> simp <;> omega

theorem arbitrationWord_number (u : Bool) {rank : Nat} (low : rank ≤ 15) (number : StationNo) :
    (arbitrationWord u rank number).toNat % 16 = number.val := by
  have below := number.isLt
  rw [arbitrationWord_toNat u low]
  split <;> omega

theorem Content.frame_sendable {c : Content} {rank : Nat} (low : rank ≤ 15)
    (length : c.kind.permitsLength c.payload.length = true) (belt : Belt) (number : StationNo) :
    (c.frame belt (arbitrationWord c.kind.urgent rank number)).Sendable c.kind where
  word := (arbitrationWord c.kind.urgent rank number).isLt
  kind := c.kind.code_lt
  code := c.kind.ofCode_code
  urgency := arbitrationWord_urgent _ low number
  dest := (c.dest_permitted belt).1
  permits := (c.dest_permitted belt).2
  length := length
  short := Kind.permitsLength_lt length

/-- An own frame on the line is one occupancy, judged to be that frame (R1 to R4). -/
theorem Content.judged {c : Content} {rank : Nat} (slot : Bool) (belt : Belt) (number : StationNo) (low : rank ≤ 15)
    (length : c.kind.permitsLength c.payload.length = true) :
    ∃ bits, LineView.idle.events ((c.frame belt (arbitrationWord c.kind.urgent rank number)).lineBits slot
        ++ List.replicate 12 false) = [.ended bits]
      ∧ judgeQuay bits = .ok ⟨number.val, c.kind, c.dest belt, c.payload⟩ := by
  obtain ⟨tail, ends, seen⟩ := (c.frame belt (arbitrationWord c.kind.urgent rank number)).events_lineBits slot
  refine ⟨_, seen, ?_⟩
  rw [QuayFrame.judgeQuay_onWire (Content.frame_sendable low length belt number) ends]
  simp only [Content.frame, arbitrationWord_number _ low]

/-! ### The console line and the machine link (R145, R178, R193, R194) -/

theorem crcTail_take (b : Bytes) : (crcTail b).take 2 = crcTail b := rfl

theorem judgeConsole_commandBytes (t : Nat) (code : Byte) (tag : BitVec 16) {args : Bytes} (h : args.length ≤ 13) :
    judgeConsole t (commandBytes code tag args).tail = some (commandOf t code tag args) := by
  have len : (byteOf (args.length + 3)).toNat = args.length + 3 := byteOf_toNat_of_lt (by omega)
  have body : (code :: (bytes2 tag.toNat ++ args)).length = args.length + 3 := by
    simp [bytes2]
  have crc (b : Bytes) : (crcTail b).length = 2 := rfl
  have sent : (commandBytes code tag args).tail = byteOf (args.length + 3) :: (code :: (bytes2 tag.toNat ++ args)
      ++ crcTail (byteOf (args.length + 3) :: code :: (bytes2 tag.toNat ++ args))) := rfl
  have tagBack : BitVec.ofNat 16 (read2 (byteOf (tag.toNat / 256)) (byteOf tag.toNat)) = tag := by
    rw [read2_bytes tag.isLt, BitVec.ofNat_toNat, BitVec.setWidth_eq]
  rw [sent, judgeConsole, len, List.take_left' body, List.drop_left' body, if_neg (by omega),
    if_neg (by rw [List.length_append, body, crc]; omega)]
  dsimp only
  rw [crcTail_take, if_pos rfl]
  exact congrArg (fun x => some (commandOf t code x args)) tagBack

theorem judgeMachine_machineBytes (t : Nat) {p : Bytes} (h : p.length = 18) :
    judgeMachine t (machineBytes 0x01#8 p).tail = some (.measure t p) := by
  have sent : (machineBytes 0x01#8 p).tail = 0x01#8 :: byteOf p.length :: (p ++ crcTail (0x01#8 :: byteOf p.length :: p)) := rfl
  have crc (b : Bytes) : (crcTail b).length = 2 := rfl
  have len : byteOf p.length = 18#8 := by rw [h]; rfl
  rw [sent, judgeMachine, if_pos rfl, if_pos len, List.take_left' h, List.drop_left' h,
    if_neg (by rw [List.length_append, h, crc]; omega)]
  rw [crcTail_take, if_pos rfl]

/-- Settles O54: the fields from their bytes, the frame from its bits, the host's and the machine's frames by length. -/
theorem framesAreJudgedAsSent : Obligations.FramesAreJudgedAsSent :=
  ⟨fun slot belt _ number _ low length => Content.judged slot belt number low length,
    fun _ cause capacity planId => readHello_bytes cause capacity planId,
    fun _ h => readBye_bytes h,
    fun _ state position hold slot age grant target feed allowed capacity planId mass =>
      readStatus_bytes state position hold slot age grant target feed allowed capacity planId mass,
    fun _ _ target grant => readRaise_bytes target grant,
    fun _ h => ⟨readWord_bytes h, readWord_bytes h⟩,
    fun _ hold slot here there => readClaim_bytes hold slot here there,
    fun _ _ hold slot => readRelease_bytes hold slot,
    fun _ _ planId oneOrMore few fits =>
      ⟨readTally_bytes planId oneOrMore few fits, readTally_bytes planId oneOrMore few fits⟩,
    fun _ _ h => ⟨readReason_byte h, readReason_byte h⟩,
    fun t code tag _ h => judgeConsole_commandBytes t code tag h,
    fun t _ h => judgeMachine_machineBytes t h,
    fun _ receiver feed velocity position hold slot capacity =>
      readMeasure_bytes receiver feed velocity position hold slot capacity⟩

end Sys2Proof.Machine

/-! ## The reset state (R24, R41, R69, R88, R106, R122, R144, R164, R165, R177) -/

namespace Sys2Proof.Machine

/-- Settles O3: each invariant is a finite check of one state. -/
theorem resetStateMeetsTheInvariants : Obligations.ResetStateMeetsTheInvariants := by
  refine ⟨?_, ?_, ?_, ?_, ?_, ?_, ?_, ?_, ?_⟩ <;> decide

end Sys2Proof.Machine

/-! ## What the signals between blocks leave of the view (R15, R25, R43)

The entries, S and C, and the TALLY and RECALL list. -/

namespace Sys2Proof.Machine

/-- What the share unit's view rests on, with S and C as they stand (R43, R44). -/
structure View where
  entries : Vector PeerEntry 16
  config : Option ConfigRecord
  straps : Straps
  intakeCaps : Vector (Option Nat) 16
  resv : Nat
  capacity : Nat

def State.view (s : State) : View :=
  ⟨s.table.entries, s.station.config, s.station.straps, s.share.intakeCaps, s.share.resv, s.share.capacity⟩

/-- The TALLY and RECALL entries queued (R15). -/
def Link.listed (l : Link) : List Content := l.normal.filter (fun c => c.kind.listed)

/-- The view, the TALLY and RECALL entries and the kind on the line. -/
def State.seen (s : State) : View × List Content × Option Kind := (s.view, s.link.listed, s.link.lineKind)

/-- A single kind replaced in its place leaves the list (R14, R15). -/
theorem replaceKind_listed {c : Content} (single : c.kind.listed = false) (l : List Content) :
    (replaceKind c l).filter (fun d => d.kind.listed) = l.filter (fun d => d.kind.listed) := by
  induction l with
  | nil => rfl
  | cons d l ih =>
    unfold replaceKind
    split
    · rename_i e
      rw [List.filter_cons_of_neg (by rw [single]; decide), List.filter_cons_of_neg (by rw [e, single]; decide)]
    · rw [List.filter_cons, List.filter_cons, ih]

/-- `t` comes of `s` by signals between blocks: the view, the TALLY and RECALL entries and the kind on the line stand. -/
structure State.Signalled (s t : State) : Prop where
  view : t.view = s.view
  listed : t.link.listed = s.link.listed
  line : t.link.lineKind = s.link.lineKind

namespace State.Signalled

variable {s t u : State}

theorem refl : s.Signalled s := ⟨rfl, rfl, rfl⟩

theorem trans (h : s.Signalled t) (h' : t.Signalled u) : s.Signalled u :=
  ⟨h'.view.trans h.view, h'.listed.trans h.listed, h'.line.trans h.line⟩

/-- A change of what neither the view nor the TALLY and RECALL list sees. -/
theorem frame (h : s.Signalled t) (e : u.seen = t.seen) : s.Signalled u := by
  simp only [State.seen, Prod.mk.injEq] at e
  obtain ⟨view, listed, line⟩ := e
  exact h.trans ⟨view, listed, line⟩

/-! ### Operations of Ops.lean and Feed.lean -/

theorem report (l : Level) (b : Source) (c : Nat) (as : List Nat) (h : s.Signalled t) :
    s.Signalled (t.report l b c as) := by
  rw [State.report_eq]; exact h.frame (by rfl)

theorem handMachine (f : MachineFrame) (h : s.Signalled t) : s.Signalled (t.handMachine f) := by
  rw [State.handMachine_eq]; exact h.frame (by rfl)

theorem stopTravel (h : s.Signalled t) : s.Signalled t.stopTravel := by
  unfold State.stopTravel
  split
  · exact h.handMachine _
  · exact h

theorem withdraw {k : Kind} (single : k.listed = false) (h : s.Signalled t) : s.Signalled (t.withdraw k) := by
  refine h.trans ⟨rfl, ?_, Link.withdraw_lineKind k t.link⟩
  simp only [Link.listed, State.withdraw, Link.withdraw, List.filter_filter]
  refine List.filter_congr fun c _ => ?_
  by_cases e : c.kind = k
  · rw [e, single, Bool.false_and]
  · simp [e]


theorem offerSingle {c : Content} (single : c.kind.listed = false) (h : s.Signalled t) :
    s.Signalled (t.offerSingle c) := by
  have placed (v : State) : v.Signalled { v with link := v.link.placeSingle c } := by
    refine ⟨rfl, ?_, by simp only [Link.lineKind, Link.placeSingle_onLine]⟩
    unfold Link.placeSingle
    dsimp only
    split
    · rfl
    · split
      · exact replaceKind_listed single _
      · simp [Link.listed, List.filter_append, single]
  unfold State.offerSingle
  split
  · dsimp only
    split
    · exact (h.withdraw (k := .raise) rfl).trans (placed _)
    · exact h.trans (placed t)
  · exact h

theorem offerUrgent (c : Content) (h : s.Signalled t) : s.Signalled (t.offerUrgent c) := by
  unfold State.offerUrgent
  split
  · exact h.trans ⟨rfl, rfl, rfl⟩
  · exact h

theorem setFeed (f : Nat) (h : s.Signalled t) : s.Signalled (t.setFeed f) := by
  rw [State.setFeed_eq]; exact h.frame (by rfl)

theorem holdOffClamp (c : HoldOff) (h : s.Signalled t) : s.Signalled (t.holdOffClamp c) := by
  rw [State.holdOffClamp_eq]; exact h.frame (by rfl)

theorem loweringClamp (n : Nat) (h : s.Signalled t) : s.Signalled (t.loweringClamp n) := by
  unfold State.loweringClamp
  split
  · exact (h.setFeed n).handMachine _
  · exact h

theorem tryBye (h : s.Signalled t) : s.Signalled t.tryBye := by
  unfold State.tryBye
  split
  · exact h.offerSingle rfl
  · exact h

theorem leaveDrained (h : s.Signalled t) : s.Signalled t.leaveDrained := by
  unfold State.leaveDrained
  split
  · exact (h.frame (by rfl)).tryBye
  · exact h

theorem leaveReleased (h : s.Signalled t) : s.Signalled t.leaveReleased := by
  unfold State.leaveReleased
  split
  · exact (h.frame (by rfl)).tryBye
  · exact h

/-! ### Operations of Claims.lean -/

theorem offerClaim (r : ClaimRequest) (h : s.Signalled t) : s.Signalled (t.offerClaim r) :=
  (h.frame (by rfl)).offerSingle rfl

theorem examineRequest (h : s.Signalled t) : s.Signalled t.examineRequest := by
  unfold State.examineRequest
  split
  · exact h
  · split
    · exact h.frame (by rfl)
    · exact (h.frame (by rfl)).offerClaim _

theorem retestQueued (h : s.Signalled t) : s.Signalled t.retestQueued := by
  unfold State.retestQueued
  split
  · exact h
  · split
    · exact (h.withdraw (k := .claim) rfl).frame (by rfl)
    · split
      · split
        · exact h
        · exact h.offerClaim _
      · exact h.offerClaim _

theorem claimRetest (h : s.Signalled t) : s.Signalled t.claimRetest := by
  unfold State.claimRetest
  split
  · exact h.examineRequest
  · exact h.retestQueued
  · exact h

theorem makeRequest (a b : Nat) (h : s.Signalled t) : s.Signalled (t.makeRequest a b) := by
  unfold State.makeRequest
  dsimp only
  split
  · exact (h.frame (by rfl)).examineRequest
  · exact h.frame (by rfl)

theorem withdrawRequest (h : s.Signalled t) : s.Signalled t.withdrawRequest := by
  unfold State.withdrawRequest
  dsimp only
  split
  · exact ((h.frame (by rfl)).withdraw (k := .claim) rfl).frame (by rfl)
  · exact (h.frame (by rfl)).withdraw rfl
  · exact h.frame (by rfl)

theorem enterReleasing (h : s.Signalled t) : s.Signalled t.enterReleasing := by
  unfold State.enterReleasing
  dsimp only
  split
  · exact (h.frame (by rfl)).offerSingle rfl
  · exact h.frame (by rfl)

theorem joinRelease (w : Waiter) (h : s.Signalled t) : s.Signalled (t.joinRelease w) := by
  cases w <;> exact h.frame (by rfl)

theorem startRelease (w : Waiter) (h : s.Signalled t) : s.Signalled (t.startRelease w).1 := by
  unfold State.startRelease
  split
  · exact h
  · exact (h.withdraw (k := .claim) rfl).frame (by rfl)
  · exact ((h.joinRelease w).frame (by rfl)).withdraw rfl
  · exact (h.joinRelease w).enterReleasing
  · exact (h.joinRelease w).enterReleasing
  · exact h.joinRelease w

/-! ### Operations of Orders.lean -/

theorem activate (o : OrderRecord) (h : s.Signalled t) : s.Signalled (t.activate o) := by
  unfold State.activate
  dsimp only
  split
  · exact h.frame (by rfl)
  · exact (h.frame (by rfl)).makeRequest _ _

theorem followOn (h : s.Signalled t) : s.Signalled t.followOn := by
  unfold State.followOn State.nextOrder
  split
  · exact (h.frame (by rfl)).activate _
  · split
    · exact h
    · exact (h.frame (by rfl)).activate _
    · exact (h.frame (by rfl)).activate _
    · split <;> exact (h.frame (by rfl)).activate _

theorem recordEnd (o : OrderRecord) (e : EndState) (r : EndReason) (h : s.Signalled t) : s.Signalled (t.recordEnd o e r) :=
  (h.frame (by rfl)).report ..

theorem finishActive (o : OrderRecord) (h : s.Signalled t) : s.Signalled (t.finishActive o) :=
  ((h.recordEnd _ _ _).frame (by rfl)).followOn

theorem orderReleased (h : s.Signalled t) : s.Signalled t.orderReleased := by
  have freed : s.Signalled { t with order := { t.order with releaseOut := false } } := h.frame (by rfl)
  unfold State.orderReleased
  dsimp only
  split
  · exact freed
  · split
    · exact freed.makeRequest _ _
    · split
      · exact freed.finishActive _
      · exact freed
    · split
      · exact freed.finishActive _
      · exact (freed.frame (by rfl)).followOn
    · exact freed

theorem orderRelease (h : s.Signalled t) : s.Signalled t.orderRelease := by
  unfold State.orderRelease
  dsimp only
  split
  · exact ((h.frame (by rfl)).startRelease .order).orderReleased
  · exact (h.frame (by rfl)).startRelease .order

theorem orderDrained (h : s.Signalled t) : s.Signalled t.orderDrained := by
  unfold State.orderDrained
  split
  · exact h
  · split
    · split
      · exact (h.frame (by rfl)).orderRelease
      · dsimp only
        split
        · exact h.frame (by rfl)
        · exact (h.frame (by rfl)).finishActive _
    · exact h

theorem stationRelease (h : s.Signalled t) : s.Signalled t.stationRelease := by
  unfold State.stationRelease
  dsimp only
  split
  · exact (h.startRelease .station).leaveReleased
  · exact h.startRelease .station

theorem signalReleased (h : s.Signalled t) : s.Signalled t.signalReleased := by
  have told : s.Signalled { t with claim := { t.claim with waitOrder := false, waitStation := false } } := h.frame (by rfl)
  unfold State.signalReleased
  dsimp only
  split <;> split
  · exact told.orderReleased.leaveReleased
  · exact told.leaveReleased
  · exact told.orderReleased
  · exact told

/-! ### Operations of Shares.lean: the raise -/

theorem yieldTest (h : s.Signalled t) : s.Signalled t.yieldTest := by
  unfold State.yieldTest
  split
  · exact h.offerSingle rfl
  · exact h

theorem abandonSettling (c : YieldCause) (h : s.Signalled t) : s.Signalled (t.abandonSettling c) := by
  unfold State.abandonSettling
  split
  · dsimp only
    have told (x : Nat) (y : YieldCause) : s.Signalled ((t.setRaise .none).reportRaiseYielded x y) :=
      (h.frame (by rfl)).report ..
    split
    · exact ((told _ _).frame (by rfl)).yieldTest
    · exact told _ _
  · exact h

theorem abandonRaise (c : YieldCause) (h : s.Signalled t) : s.Signalled (t.abandonRaise c) := by
  unfold State.abandonRaise
  split
  · exact h
  · exact (h.withdraw (k := .raise) rfl).frame (by rfl)
  · exact (h.withdraw (k := .raise) rfl).frame (by rfl)
  · exact h
  · exact h.abandonSettling c

theorem settleConflict (h : s.Signalled t) : s.Signalled t.settleConflict := by
  unfold State.settleConflict
  split
  · split
    · exact h.abandonSettling _
    · exact h
  · exact h

theorem offerRaise (x : Nat) (h : s.Signalled t) : s.Signalled (t.offerRaise x) := (h.frame (by rfl)).offerSingle rfl

theorem reviewRaise (b : Bool) (h : s.Signalled t) : s.Signalled (t.reviewRaise b) := by
  unfold State.reviewRaise
  split
  · split
    · exact (h.withdraw (k := .raise) rfl).frame (by rfl)
    · split
      · exact h
      · exact h.offerRaise _
  · exact h

theorem startRaise (h : s.Signalled t) : s.Signalled t.startRaise := by
  unfold State.startRaise
  split
  · exact h.offerRaise _
  · exact h

/-! ### Operations of Shares.lean: lowerings, shedding, halts -/

theorem signalDrained (c : LowerCause) (h : s.Signalled t) : s.Signalled (t.signalDrained c) := by
  cases c
  case order => exact h.orderDrained
  case leave => exact h.leaveDrained
  all_goals exact h

theorem drainTest (h : s.Signalled t) : s.Signalled t.drainTest := by
  unfold State.drainTest
  split
  · split
    · exact (h.frame (by rfl)).offerSingle rfl
    · exact h
  · exact h

theorem armDrain (h : s.Signalled t) : s.Signalled t.armDrain := by
  unfold State.armDrain
  split
  · split
    · exact h.frame (by rfl)
    · exact h
  · exact h

theorem lowerRequest (c : LowerCause) (n : Nat) (h : s.Signalled t) : s.Signalled (t.lowerRequest c n) := by
  have ended := h.abandonRaise .lower
  have clamped {v : State} (hv : s.Signalled v) : s.Signalled (v.loweringClamp n).drainTest.armDrain :=
    (hv.loweringClamp n).drainTest.armDrain
  unfold State.lowerRequest
  dsimp only
  split
  · split
    · exact clamped (ended.frame (by rfl))
    · exact ended.signalDrained c
  · split
    · exact clamped (ended.frame (by rfl))
    · exact ended.frame (by rfl)

theorem signalWaiters (l : Lowering) (h : s.Signalled t) : s.Signalled (t.signalWaiters l) := by
  unfold State.signalWaiters
  dsimp only
  split <;> split
  · exact h.orderDrained.leaveDrained
  · exact h.leaveDrained
  · exact h.orderDrained
  · exact h

theorem lowerDone (n : Nat) (h : s.Signalled t) : s.Signalled (t.lowerDone n) := by
  unfold State.lowerDone
  dsimp only
  split
  · exact h.frame (by rfl)
  · rename_i l _
    split
    · exact ((h.frame (by rfl)).signalWaiters l).yieldTest
    · exact (h.frame (by rfl)).drainTest.armDrain

theorem reviewRelease (h : s.Signalled t) : s.Signalled t.reviewRelease := by
  unfold State.reviewRelease
  split
  · split
    · exact h.frame (by rfl)
    · exact h
  · exact h.frame (by rfl)

theorem shed (h : s.Signalled t) : s.Signalled t.shed := by
  unfold State.shed
  split
  · split
    · split
      · dsimp only
        split
        · exact h.lowerRequest _ _
        · exact ((h.lowerRequest _ _).frame (by rfl)).report ..
      · exact h
    · exact h.frame (by rfl)
  · exact h

theorem refreshHeld (h : s.Signalled t) : s.Signalled t.refreshHeld := by
  unfold State.refreshHeld
  split
  · split
    · exact h.frame (by rfl)
    · exact h
  · exact h

theorem setLimitHeld (b : Bool) (h : s.Signalled t) : s.Signalled (t.setLimitHeld b) := by
  unfold State.setLimitHeld
  split
  · exact h.frame (by rfl)
  · exact h

theorem haltGained (e : Bool) (h : s.Signalled t) : s.Signalled (t.haltGained e) := by
  unfold State.haltGained
  dsimp only
  split
  · exact (((h.holdOffClamp .halt).abandonRaise .halt).lowerRequest .halt 0).refreshHeld.claimRetest
  · exact (h.holdOffClamp .halt).refreshHeld.claimRetest

theorem haltLost (h : s.Signalled t) : s.Signalled t.haltLost := h.refreshHeld.claimRetest

theorem haltLower (h : s.Signalled t) : s.Signalled t.haltLower := by
  unfold State.haltLower
  split
  · exact h.lowerRequest _ _
  · exact h

theorem offerHalt (h : s.Signalled t) : s.Signalled t.offerHalt := by
  unfold State.offerHalt
  split
  · exact h.offerUrgent _
  · exact h

theorem originateHalt (o : OwnHalt) (h : s.Signalled t) : s.Signalled (t.originateHalt o) := by
  unfold State.originateHalt
  dsimp only
  refine report _ _ _ _ (frame (offerHalt ?_) (by rfl))
  split
  · exact h.frame (by rfl)
  · exact (h.frame (by rfl)).haltGained _

theorem beltTrip (h : s.Signalled t) : s.Signalled t.beltTrip := by
  unfold State.beltTrip
  split
  · exact h.originateHalt _
  · exact h

/-! ### Operations of OrderEvents.lean and Conflicts.lean -/

theorem clampIfRan (b : Bool) (h : s.Signalled t) : s.Signalled (t.clampIfRan b) := by
  rw [State.clampIfRan_eq]; exact h.frame (by rfl)

theorem decideEnd (e : EndState) (r : EndReason) (h : s.Signalled t) : s.Signalled (t.decideEnd e r) := by
  unfold State.decideEnd
  split
  · exact h
  · rename_i o _
    have marked : s.Signalled (t.markEnding o e r) := h.frame (by rfl)
    split
    · exact marked.withdrawRequest.orderRelease.lowerRequest _ _
    · exact marked.stopTravel.orderRelease.lowerRequest _ _
    · exact (marked.clampIfRan _).lowerRequest _ _
    · exact h

theorem orderSettled (h : s.Signalled t) : s.Signalled t.orderSettled := by
  unfold State.orderSettled
  split
  · exact h
  · split
    · split
      · exact h.frame (by rfl)
      · exact (h.frame (by rfl)).handMachine _
    · exact h

theorem orderNozzle (a b : Nat) (h : s.Signalled t) : s.Signalled (t.orderNozzle a b) := by
  unfold State.orderNozzle
  split
  · exact h
  · split
    · split
      · exact h.frame (by rfl)
      · split
        · exact h.decideEnd _ _
        · exact h
    · split
      · exact h.decideEnd _ _
      · exact h
    · exact h

theorem orderAttributed (a m : Nat) (h : s.Signalled t) : s.Signalled (t.orderAttributed a m) := by
  unfold State.orderAttributed
  split
  · exact h
  · split
    · dsimp only
      split
      · split
        · exact (h.frame (by rfl)).decideEnd _ _
        · exact h.frame (by rfl)
      · split <;> exact h.frame (by rfl)
      · exact h.frame (by rfl)
      · exact h
    · exact h

theorem exhaustionTest (h : s.Signalled t) : s.Signalled t.exhaustionTest := by
  unfold State.exhaustionTest
  split
  · split
    · exact h.frame (by rfl)
    · exact h
  · exact h.frame (by rfl)

theorem feedDrain (h : s.Signalled t) : s.Signalled t.feedDrain := by
  unfold State.feedDrain
  split
  · exact h
  · split
    · exact h.orderRelease
    · exact h

theorem chokeRepeated (h : s.Signalled t) : s.Signalled t.chokeRepeated := by
  unfold State.chokeRepeated
  split
  · exact h.decideEnd _ _
  · exact h

theorem orderYield (h : s.Signalled t) : s.Signalled t.orderYield := by
  unfold State.orderYield
  split
  · exact h
  · split
    · exact (h.frame (by rfl)).orderRelease
    · exact ((h.frame (by rfl)).clampIfRan _).orderRelease
    · exact h.orderRelease
    · exact h.orderRelease
    · exact h.orderRelease
    · exact h

theorem place (p : Placement) (o : OrderRecord) (h : s.Signalled t) : s.Signalled (t.place p o) := by
  have suspended (a : OrderRecord) : s.Signalled (t.suspendAtOnce a) := by
    unfold State.suspendAtOnce
    dsimp only
    split
    · exact (h.withdrawRequest.frame (by rfl)).orderRelease
    · exact (h.stopTravel.frame (by rfl)).orderRelease
  unfold State.place
  split
  · exact h.frame (by rfl)
  · split
    · exact ((h.frame (by rfl)).clampIfRan _).feedDrain
    · exact h.activate _
  · split
    · exact (suspended _).activate _
    · exact h.activate _

theorem cancelActive (x : Nat) (h : s.Signalled t) : s.Signalled (t.cancelActive x).1 := by
  unfold State.cancelActive
  dsimp only
  split
  · split
    · split
      · split
        · exact h
        · exact h.frame (by rfl)
      · exact h
      · exact h.decideEnd _ _
    · split <;> exact h
  · split <;> exact h

theorem cancelOrder (x : Nat) (h : s.Signalled t) : s.Signalled (t.cancelOrder x).1 := by
  unfold State.cancelOrder
  dsimp only
  split
  · dsimp only
    exact (h.frame (by rfl)).recordEnd _ _ _
  · split
    · dsimp only
      exact (h.frame (by rfl)).recordEnd _ _ _
    · split
      · split
        · exact ((h.frame (by rfl)).recordEnd _ _ _).lowerRequest _ _
        · exact h.cancelActive x
      · exact h.cancelActive x

theorem yieldClaim (c : ClaimBody) (j : StationNo) (k : Conflict) (h : s.Signalled t) : s.Signalled (t.yieldClaim c j k) :=
  (report _ _ _ _ (h.stopTravel.lowerRequest _ _).enterReleasing).orderYield

theorem conflictTest (f : Found) (h : s.Signalled t) : s.Signalled (t.conflictTest f) := by
  obtain e | ⟨-, c, j, k, e⟩ := State.conflictTest_cases f t <;> rw [e]
  · exact h
  · exact h.yieldClaim c j k

end State.Signalled

end Sys2Proof.Machine
/-! ## What the machine link, the governor, the plan store and the console leave of the view (R43, R44) -/

namespace Sys2Proof.Machine

namespace State.Signalled

variable {s t u : State}

/-! ### Plans.lean and Weighing.lean -/

theorem attributeMass (a m : Nat) (h : s.Signalled t) : s.Signalled (t.attribute a m) := by
  unfold State.attribute
  split
  · split
    · exact (h.frame (by rfl)).orderAttributed _ _
    · exact h.frame (by rfl)
  · exact h.frame (by rfl)

theorem deliver (parts : List (Nat × Nat)) (h : s.Signalled t) : s.Signalled (t.deliver parts) := by
  induction parts generalizing t with
  | nil => exact h
  | cons p parts ih => exact ih (h.attributeMass p.1 p.2)

theorem planMark (j : StationNo) (a b : Nat) (h : s.Signalled t) : s.Signalled (t.planMark j a b) := by
  unfold State.planMark
  split
  · exact h.frame (by rfl)
  · split
    · exact h
    · exact (h.frame (by rfl)).report ..

theorem applyTally (j : StationNo) (b : TallyBody) (h : s.Signalled t) : s.Signalled (t.applyTally j b) := by
  unfold State.applyTally
  split
  · split
    · exact h
    · dsimp only
      split
      · exact (h.planMark j _ _).frame (by rfl)
      · exact h.planMark j _ _
  · exact h.report ..

theorem applyStatusMass (j : StationNo) (b : StatusBody) (h : s.Signalled t) : s.Signalled (t.applyStatusMass j b) := by
  unfold State.applyStatusMass
  split
  · exact h
  · split
    · exact h
    · dsimp only
      split
      · exact (h.planMark j _ _).frame (by rfl)
      · exact h.planMark j _ _

theorem applyRecall (j : StationNo) (b : TallyBody) (h : s.Signalled t) : s.Signalled (t.applyRecall j b) := by
  unfold State.applyRecall
  split
  · split
    · split
      · exact h.frame (by rfl)
      · exact h.report ..
    · exact h.report ..
  · exact h.report ..

theorem measureHeard (m : Measure) (h : s.Signalled t) : s.Signalled (t.measureHeard m) := by
  unfold State.measureHeard
  dsimp only
  split
  · exact (h.frame (by rfl)).report ..
  · exact h.frame (by rfl)

theorem weigh (m : Measure) (h : s.Signalled t) : s.Signalled (t.weigh m) := by
  unfold State.weigh State.acceptIncrement
  dsimp only
  split
  · exact h.frame (by rfl)
  · split
    · exact (h.frame (by rfl)).report ..
    · exact (h.frame (by rfl)).deliver _

theorem nozzleStep (m : Measure) (h : s.Signalled t) : s.Signalled (t.nozzleStep m) := by
  have record (k : Nat) : s.Signalled (t.carryRecord k) := by
    unfold State.carryRecord
    split
    · exact h
    · split
      · exact h.frame (by rfl)
      · exact (h.frame (by rfl)).report ..
  unfold State.nozzleStep
  dsimp only
  split
  · exact h
  · exact (record _).frame (by rfl)

theorem recordAndDeliver (m : Measure) (h : s.Signalled t) : s.Signalled (t.recordAndDeliver m) := by
  have position (v : State) (old : Option Nat) (hv : s.Signalled v) : s.Signalled (v.deliverPosition old) := by
    unfold State.deliverPosition
    split
    · exact hv
    · exact hv.claimRetest.conflictTest _
  exact (((position _ _ ((h.frame (by rfl)).drainTest.yieldTest.exhaustionTest.feedDrain)).orderNozzle
    _ _).refreshHeld).clampIfRan _

theorem faultMark (m : Measure) (h : s.Signalled t) : s.Signalled (t.faultMark m) := by
  unfold State.faultMark
  split
  · split
    · exact h
    · exact (h.frame (by rfl)).report ..
  · exact h.frame (by rfl)

theorem beltFlag (b : Bool) (h : s.Signalled t) : s.Signalled (t.beltFlag b) := by
  unfold State.beltFlag
  dsimp only
  split
  · exact (h.frame (by rfl)).beltTrip
  · exact h.frame (by rfl)

theorem observeAir (m : Measure) (h : s.Signalled t) : s.Signalled (t.observeAir m) := by
  unfold State.observeAir State.recoveryTiming State.entryTiming
  split <;> split
  · split
    · exact h.frame (by rfl)
    · exact h
  · exact h.frame (by rfl)
  · split
    · exact h.frame (by rfl)
    · exact h
  · exact h.frame (by rfl)

theorem takeMeasure (m : Measure) (h : s.Signalled t) : s.Signalled (t.takeMeasure m) := by
  unfold State.takeMeasure
  split
  · exact h.frame (by rfl)
  · split
    · exact ((((((h.frame (by rfl)).measureHeard m).weigh m).nozzleStep m).recordAndDeliver m).faultMark m).observeAir m
    · exact ((((h.frame (by rfl)).measureHeard m).recordAndDeliver m).faultMark m).beltFlag _

/-! ### Governor.lean -/

theorem judgeLimit (a b : Nat) (h : s.Signalled t) : s.Signalled (t.judgeLimit a b) := by
  unfold State.judgeLimit
  split
  · split
    · split
      · exact ((h.frame (by rfl)).setLimitHeld true).report ..
      · exact h.frame (by rfl)
    · split
      · exact h
      · exact (h.frame (by rfl)).setLimitHeld false
  · exact h.frame (by rfl)

theorem governorUpdate (h : s.Signalled t) : s.Signalled t.governorUpdate := by
  have recorded (g : GovTerms) : s.Signalled (t.recordUpdate g) := by
    unfold State.recordUpdate
    exact (h.frame (by rfl)).setFeed _
  have shared {v : State} (hv : s.Signalled v) : s.Signalled v.shareUpdate :=
    (hv.startRaise.reviewRaise true).reviewRelease.shed.haltLower
  exact ((shared ((recorded _).handMachine _)).judgeLimit _ _).exhaustionTest

/-! ### Stations.lean -/

theorem claimSilenced (h : s.Signalled t) : s.Signalled t.claimSilenced := by
  unfold State.claimSilenced
  split <;> exact h.frame (by rfl)

theorem shareSilenced (h : s.Signalled t) : s.Signalled t.shareSilenced := by
  unfold State.shareSilenced
  dsimp only
  split
  · exact h.frame (by rfl)
  · exact (h.abandonSettling _).frame (by rfl)
  · exact h.frame (by rfl)

theorem governorStop (h : s.Signalled t) : s.Signalled t.governorStop := by
  unfold State.governorStop
  split
  · exact (((h.setFeed 0).handMachine (.setpoint 0)).setLimitHeld false).frame (by rfl)
  · exact h

theorem tripAtActive (h : s.Signalled t) : s.Signalled t.tripAtActive := by
  unfold State.tripAtActive
  split
  · exact h.beltTrip
  · exact h

theorem countRxFault (h : s.Signalled t) : s.Signalled t.countRxFault := by
  unfold State.countRxFault
  dsimp only
  split
  · exact ((h.frame (by rfl)).report ..).claimRetest
  · exact h.frame (by rfl)

theorem countRxGood (h : s.Signalled t) : s.Signalled t.countRxGood := by
  unfold State.countRxGood
  dsimp only
  split
  · exact ((h.frame (by rfl)).report ..).claimRetest
  · exact h.frame (by rfl)

theorem governorStart (h : s.Signalled t) : s.Signalled t.governorStart := by
  unfold State.governorStart
  split
  · exact h.frame (by rfl)
  · exact h

theorem offerOwedRelease (h : s.Signalled t) : s.Signalled t.offerOwedRelease := by
  unfold State.offerOwedRelease
  split
  · split
    · exact (h.frame (by rfl)).offerSingle rfl
    · exact h
  · exact h

theorem resumeHalt (h : s.Signalled t) : s.Signalled t.resumeHalt := by
  unfold State.resumeHalt
  split
  · exact h.offerHalt.frame (by rfl)
  · exact h

theorem offerCapacity (h : s.Signalled t) : s.Signalled t.offerCapacity := by
  unfold State.offerCapacity
  split
  · rename_i c _
    exact (h.offerSingle (c := .capacity c) rfl).frame (by rfl)
  · exact h

theorem enterLeaving (h : s.Signalled t) : s.Signalled t.enterLeaving := by
  have tail {v : State} (hv : s.Signalled v) :
      s.Signalled ((v.claimRetest.drainTest).lowerRequest .leave 0).stationRelease :=
    (hv.claimRetest.drainTest.lowerRequest .leave 0).stationRelease
  unfold State.enterLeaving
  dsimp only
  split
  · exact tail ((h.frame (by rfl)).abandonRaise .state)
  · exact tail ((h.frame (by rfl)).abandonRaise .state)
  · exact tail (h.frame (by rfl))

/-! ### Line.lean -/

theorem haltIn (j : StationNo) (r : Nat) (h : s.Signalled t) : s.Signalled (t.haltIn j r) := by
  unfold State.haltIn
  split
  · exact h
  · exact ((h.frame (by rfl)).report ..).haltGained _

theorem haltRemove (j : StationNo) (h : s.Signalled t) : s.Signalled (t.haltRemove j) := by
  unfold State.haltRemove
  split
  · exact ((h.frame (by rfl)).report ..).haltLost
  · exact h

theorem helloDone (h : s.Signalled t) : s.Signalled t.helloDone := by
  unfold State.helloDone
  split
  · exact h.frame (by rfl)
  · exact h

theorem statusDone (q : BitVec 8) (h : s.Signalled t) : s.Signalled (t.statusDone q) := by
  unfold State.statusDone
  dsimp only
  split
  · exact (h.frame (by rfl)).refreshHeld
  · exact h.frame (by rfl)

theorem raiseDone (x : Nat) (h : s.Signalled t) : s.Signalled (t.raiseDone x) := by
  unfold State.raiseDone
  split
  · exact ((h.frame (by rfl)).report ..).yieldTest
  · have begun (d : Nat) : s.Signalled (t.setRaise (.settling x d)) := h.frame (by rfl)
    dsimp only
    split
    · exact (begun _).abandonSettling _
    · exact (begun _).settleConflict
  · exact h

theorem claimDone (h : s.Signalled t) : s.Signalled t.claimDone := by
  unfold State.claimDone
  dsimp only
  split
  · exact (h.frame (by rfl)).enterReleasing
  · exact (h.frame (by rfl)).conflictTest _

/-! ### Timers and console commands -/

theorem settleRaise (h : s.Signalled t) : s.Signalled t.settleRaise := by
  unfold State.settleRaise
  split
  · exact h.frame (by rfl)
  · exact h

theorem becomeSelfSilent (h : s.Signalled t) : s.Signalled t.becomeSelfSilent :=
  (((h.frame (by rfl)).report ..).holdOffClamp _).refreshHeld

theorem stallDrain (h : s.Signalled t) : s.Signalled t.stallDrain := by
  unfold State.stallDrain
  split
  · exact (h.frame (by rfl)).report ..
  · exact h

theorem settleClaim (h : s.Signalled t) : s.Signalled t.settleClaim := by
  unfold State.settleClaim
  split
  · exact (h.frame (by rfl)).orderSettled
  · exact h.frame (by rfl)

theorem becomeMachineSilent (h : s.Signalled t) : s.Signalled t.becomeMachineSilent := by
  have told : s.Signalled (t.reportMachineSilent t.machine.lastSeq) := h.report ..
  exact (((told.frame (by rfl)).holdOffClamp _).refreshHeld).claimRetest

theorem setChoke (h : s.Signalled t) : s.Signalled t.setChoke := by
  unfold State.setChoke
  dsimp only
  split
  · exact (((h.frame (by rfl)).report ..).holdOffClamp _).refreshHeld.chokeRepeated
  · exact (((h.frame (by rfl)).report ..).holdOffClamp _).refreshHeld

theorem clearChoke (h : s.Signalled t) : s.Signalled t.clearChoke := ((h.frame (by rfl)).report ..).refreshHeld

theorem overrideClear (h : s.Signalled t) : s.Signalled t.overrideClear := ((h.frame (by rfl)).report ..).haltLost

theorem takeBeltcap (c : Nat) (h : s.Signalled t) : s.Signalled (t.takeBeltcap c) := by
  unfold State.takeBeltcap
  dsimp only
  split
  · exact (h.frame (by rfl)).offerCapacity
  · exact h.frame (by rfl)

theorem handleOrder (a : OrderArgs) (s : State) : s.Signalled (handleOrder a s).1 := by
  unfold Machine.handleOrder refuse
  split
  · exact refl
  · split
    · exact refl
    · split
      · exact refl
      · split
        · split
          · exact refl
          · split
            · exact refl
            · exact (refl.frame (by rfl)).place _ _
        · exact refl

theorem handleHalt (a : Nat × Nat) (s : State) : s.Signalled (handleHalt a s).1 := by
  unfold Machine.handleHalt refuse
  split
  · exact refl
  · split
    · split
      · split
        · exact refl
        · exact refl.originateHalt _
      · exact refl
    · exact refl

theorem handleClear (r : Nat) (s : State) : s.Signalled (handleClear r s).1 := by
  unfold Machine.handleClear refuse
  split
  · split
    · split
      · exact refl
      · exact ((refl.offerUrgent (.clear r)).frame (by rfl)).haltRemove _
    · exact refl
  · exact refl

theorem handleBeltcap (c : Nat) (s : State) : s.Signalled (handleBeltcap c s).1 := by
  unfold Machine.handleBeltcap refuse
  split
  · exact refl
  · exact refl.takeBeltcap _

theorem handleLeave (s : State) : s.Signalled (handleLeave s).1 := by
  unfold Machine.handleLeave refuse
  split
  · split
    · exact refl
    · exact refl.enterLeaving
  · exact refl

end State.Signalled

end Sys2Proof.Machine
/-! ## S and C stay current and an unheard entry holds nothing, over every command (R25, R28, R43, R44) -/

namespace Sys2Proof.Machine

/-! ### What S, C and the unheard entries rest on -/

theorem State.entry_of_view {s t : State} (e : t.view = s.view) (j : StationNo) : t.entry j = s.entry j :=
  congrArg (fun v => v.entries[j]) e

theorem State.peers_of_straps {s t : State} (e : t.station.straps = s.station.straps) : t.peers = s.peers := by
  unfold State.peers State.own; rw [e]

/-- S rests on what each entry reserves (R43). -/
theorem State.sumReserved_of_reserved {s t : State} (straps : t.station.straps = s.station.straps)
    (same : ∀ i, (if (t.entry i).counted s.station.straps.belt then (t.entry i).reservation else 0)
      = if (s.entry i).counted s.station.straps.belt then (s.entry i).reservation else 0) :
    t.sumReserved = s.sumReserved := by
  unfold State.sumReserved
  rw [State.peers_of_straps straps, straps]
  exact congrArg List.sum (List.map_congr_left fun i _ => same i)

/-- C rests on the configuration, the marks and the intake capacity list (R44). -/
theorem State.effectiveCapacity_of_marks {s t : State} (config : t.station.config = s.station.config)
    (straps : t.station.straps = s.station.straps) (caps : t.share.intakeCaps = s.share.intakeCaps)
    (marks : ∀ i, (t.entry i).markedCapacity = (s.entry i).markedCapacity) :
    t.effectiveCapacity = s.effectiveCapacity := by
  unfold State.effectiveCapacity
  rw [State.peers_of_straps straps, config, caps]
  simp only [marks]

theorem State.viewCurrent_of_view {s t : State} (e : t.view = s.view) (h : s.viewCurrent) : t.viewCurrent := by
  have entry := State.entry_of_view e
  simp only [State.view, View.mk.injEq] at e
  obtain ⟨-, config, straps, caps, resv, capacity⟩ := e
  rw [State.viewCurrent, State.sumReserved_of_reserved straps fun i => by rw [entry],
    State.effectiveCapacity_of_marks config straps caps fun i => by rw [entry], resv, capacity]
  exact h

theorem State.unheardHoldNothing_of_entries {s t : State} (e : t.table.entries = s.table.entries)
    (h : s.unheardHoldNothing) : t.unheardHoldNothing := by
  intro j
  have entry : t.entry j = s.entry j := congrArg (fun v => v[j]) e
  rw [entry]
  exact h j

/-- An entry that is unheard holds no grant, no pending raise and no slot claim (R24, R28). -/
def PeerEntry.quiet (e : PeerEntry) : Prop :=
  e.heard = false → e.grant = 0 ∧ e.raise = none ∧ e.claim = none

/-! ### The recomputation -/

/-- The state with S and C as the table, the record and the list give them (R43, R44). -/
def State.summed (s : State) : State :=
  { s with share := { s.share with resv := s.sumReserved, capacity := s.effectiveCapacity } }

/-- The recomputation sets S and C; the rest of it is signals to the own raise (R43, R48, R50). -/
theorem State.summed_signalled_recompute (s : State) : s.summed.Signalled s.recompute := by
  obtain ⟨⟨resv, capacity⟩, e⟩ | ⟨-, e⟩ := s.recompute_cases <;> rw [e]
  · exact State.Signalled.refl.frame (by
      simp only [State.seen, State.view, State.summed, ← resv, ← capacity])
  · exact (State.Signalled.refl.reviewRaise false).settleConflict

theorem State.recompute_current (s : State) : s.recompute.viewCurrent :=
  State.viewCurrent_of_view s.summed_signalled_recompute.view ⟨rfl, rfl⟩

theorem State.summed_signalled_tableChanged (f : Found) (s : State) : s.summed.Signalled (s.tableChanged f) :=
  s.summed_signalled_recompute.claimRetest.conflictTest f

theorem State.tableChanged_current (f : Found) (s : State) : (s.tableChanged f).viewCurrent :=
  State.viewCurrent_of_view (s.summed_signalled_tableChanged f).view ⟨rfl, rfl⟩

theorem State.tableChanged_entries (f : Found) (s : State) : (s.tableChanged f).table.entries = s.table.entries :=
  congrArg View.entries (s.summed_signalled_tableChanged f).view

/-! ### What one command leaves of both -/

/-- `t` comes of `s` with S and C kept current and with the unheard entries still holding nothing. -/
structure State.Renewed (s t : State) : Prop where
  current : s.viewCurrent → t.viewCurrent
  unheard : s.unheardHoldNothing → t.unheardHoldNothing

namespace State.Renewed

variable {s t u : State}

theorem refl : s.Renewed s := ⟨id, id⟩

theorem trans (h : s.Renewed t) (h' : t.Renewed u) : s.Renewed u :=
  ⟨h'.current ∘ h.current, h'.unheard ∘ h.unheard⟩

theorem of_view (e : t.view = s.view) : s.Renewed t :=
  ⟨State.viewCurrent_of_view e, State.unheardHoldNothing_of_entries (congrArg View.entries e)⟩

theorem of_signalled (h : s.Signalled t) : s.Renewed t := of_view h.view

/-- Signals between blocks, the TALLY and RECALL list aside. -/
theorem signalled (h : s.Renewed t) (h' : t.Signalled u) : s.Renewed u := h.trans (of_signalled h')

theorem view (h : s.Renewed t) (e : u.view = t.view) : s.Renewed u := h.trans (of_view e)

/-- A state that meets both whatever came before it. -/
theorem of_met (current : t.viewCurrent) (unheard : t.unheardHoldNothing) : s.Renewed t :=
  ⟨fun _ => current, fun _ => unheard⟩

theorem recompute (e : t.table.entries = s.table.entries) : s.Renewed t.recompute :=
  ⟨fun _ => t.recompute_current, State.unheardHoldNothing_of_entries
    ((congrArg View.entries t.summed_signalled_recompute.view).trans e)⟩

theorem tableChanged (f : Found) (h : s.unheardHoldNothing → t.unheardHoldNothing) : s.Renewed (t.tableChanged f) :=
  ⟨fun _ => t.tableChanged_current f, fun hs => State.unheardHoldNothing_of_entries (t.tableChanged_entries f) (h hs)⟩

end State.Renewed

/-! ### A change signal of the table -/

/-- What a signalled change is made of (R25). -/
theorem PeerEntry.changed_eq_false {a b : PeerEntry} (h : a.changed b = false) :
    a.presence = b.presence ∧ a.grant = b.grant ∧ a.raise = b.raise ∧ a.claim = b.claim ∧ a.position = b.position
      ∧ a.role = b.role ∧ a.belt = b.belt ∧ a.capacity = b.capacity ∧ a.mismatch = b.mismatch := by
  simpa [PeerEntry.changed, and_assoc] using h

/-- A change that is not signalled moves neither S nor C (R25, R43, R44). -/
theorem PeerEntry.reserves_of_unchanged {a b : PeerEntry} (h : a.changed b = false) :
    (∀ belt, a.counted belt = b.counted belt) ∧ a.reservation = b.reservation ∧ a.markedCapacity = b.markedCapacity := by
  obtain ⟨presence, grant, raise, -, -, role, belt, capacity, mismatch⟩ := PeerEntry.changed_eq_false h
  have heard : a.heard = b.heard := by unfold PeerEntry.heard; rw [presence]
  refine ⟨fun x => ?_, ?_, ?_⟩
  · unfold PeerEntry.counted PeerEntry.unloads PeerEntry.onBelt
    rw [heard, role, belt]
  · unfold PeerEntry.reservation
    rw [raise, grant]
  · unfold PeerEntry.markedCapacity
    rw [heard, mismatch, capacity]

theorem State.unheardHoldNothing_setEntry {s t : State} {j : StationNo} {x : PeerEntry}
    (e : t.table.entries = (s.setEntry j x).table.entries) (quiet : (s.entry j).quiet → x.quiet)
    (h : s.unheardHoldNothing) : t.unheardHoldNothing := by
  refine State.unheardHoldNothing_of_entries e fun i => ?_
  by_cases same : i = j
  · subst same
    rw [State.entry_setEntry_same]
    exact quiet (h i)
  · rw [State.entry_setEntry_ne s x same]
    exact h i

/-- One entry is replaced, and the change signalled where there is one (R25). -/
theorem State.Renewed.signalIfChanged {s u : State} {j : StationNo} {x : PeerEntry} {f : Found}
    (e : u.view = (s.setEntry j x).view) (quiet : (s.entry j).quiet → x.quiet) :
    s.Renewed (u.signalIfChanged (s.entry j) j f) := by
  have entries := congrArg View.entries e
  have entry : u.entry j = x := (State.entry_of_view e j).trans (State.entry_setEntry_same s j x)
  unfold State.signalIfChanged
  rw [entry]
  split
  · exact .tableChanged f (State.unheardHoldNothing_setEntry entries quiet)
  · rename_i changed
    obtain ⟨counted, reservation, marked⟩ := PeerEntry.reserves_of_unchanged (Bool.eq_false_of_not_eq_true changed)
    refine ⟨fun ⟨resv, capacity⟩ => State.viewCurrent_of_view e ⟨?_, ?_⟩,
      State.unheardHoldNothing_setEntry entries quiet⟩
    · refine resv.trans (State.sumReserved_of_reserved (s := s) (t := s.setEntry j x) rfl fun i => ?_).symm
      by_cases same : i = j
      · rw [same, State.entry_setEntry_same, counted, reservation]
      · rw [State.entry_setEntry_ne s x same]
    · refine capacity.trans (State.effectiveCapacity_of_marks (s := s) (t := s.setEntry j x) rfl rfl rfl fun i => ?_).symm
      by_cases same : i = j
      · rw [same, State.entry_setEntry_same, marked]
      · rw [State.entry_setEntry_ne s x same]

/-! ### The mismatch check (R39, R40) -/

/-- The mismatch mark after the check of R39. -/
def PeerEntry.checkedMark (config : Option ConfigRecord) (belt : Belt) (e : PeerEntry) : Option Nat :=
  match config, e.role, e.belt with
  | some c, some .unloader, some b =>
    if e.capacity = 0 then e.mismatch
    else if b = belt ∧ e.capacity ≠ c.capacity then some e.capacity
    else none
  | _, _, _ => e.mismatch

theorem State.setEntry_self (s : State) (j : StationNo) : s.setEntry j (s.entry j) = s := by
  have same : s.table.entries.set j.val s.table.entries[j] j.isLt = s.table.entries := by
    refine Vector.ext fun i hi => ?_
    by_cases e : j.val = i
    · subst e; simp
    · simp
  show { s with table := { s.table with entries := s.table.entries.set j.val s.table.entries[j] j.isLt } } = s
  rw [same]

/-- The entry after the check of R39. -/
def PeerEntry.checked (config : Option ConfigRecord) (belt : Belt) (e : PeerEntry) : PeerEntry :=
  { e with mismatch := e.checkedMark config belt }

theorem PeerEntry.checked_of_mark {config : Option ConfigRecord} {belt : Belt} {e : PeerEntry} {m : Option Nat}
    (h : e.checkedMark config belt = m) : e.checked config belt = { e with mismatch := m } := by
  rw [PeerEntry.checked, h]

theorem State.setEntry_setEntry (s : State) (j : StationNo) (x y : PeerEntry) :
    (s.setEntry j x).setEntry j y = s.setEntry j y := by
  simp only [State.setEntry, Vector.set_set]

/-- The check leaves the entry, writes its mark, or writes it and reports (R39). -/
theorem State.capCheck_cases (j : StationNo) (s : State) :
    let t := s.setEntry j ((s.entry j).checked s.station.config s.station.straps.belt)
    s.capCheck j = t ∨ ∃ c, s.capCheck j = State.reportCapMismatch j (s.entry j).capacity c t := by
  have left {m : Option Nat} (e : (s.entry j).checkedMark s.station.config s.station.straps.belt = m)
      (same : m = (s.entry j).mismatch) :
      s = s.setEntry j ((s.entry j).checked s.station.config s.station.straps.belt) := by
    rw [PeerEntry.checked_of_mark e, same]; exact (s.setEntry_self j).symm
  dsimp only
  unfold State.capCheck
  dsimp only
  split
  · rename_i c b config role belt
    have mark : (s.entry j).checkedMark s.station.config s.station.straps.belt
        = if (s.entry j).capacity = 0 then (s.entry j).mismatch
          else if b = s.station.straps.belt ∧ (s.entry j).capacity ≠ c.capacity then some (s.entry j).capacity
          else none := by
      unfold PeerEntry.checkedMark; rw [config, role, belt]
    split
    · rename_i none; exact .inl (left (mark.trans (if_pos none)) rfl)
    · rename_i announced
      rw [if_neg announced] at mark
      split
      · rename_i own
        split
        · rename_i same
          rw [if_neg (fun h => h.2 same)] at mark
          exact .inl (by rw [PeerEntry.checked_of_mark mark])
        · rename_i other
          rw [if_pos ⟨own, other⟩] at mark
          split
          · rename_i known; exact .inl (left mark known.symm)
          · exact .inr ⟨_, by rw [PeerEntry.checked_of_mark mark]⟩
      · rename_i other
        rw [if_neg (fun h => other h.1)] at mark
        exact .inl (by rw [PeerEntry.checked_of_mark mark])
  · rename_i none
    refine .inl (left (m := (s.entry j).mismatch) ?_ rfl)
    unfold PeerEntry.checkedMark
    split
    · rename_i c b config role belt; exact absurd belt (none c b config role)
    · rfl

/-- The check writes one entry and, at most, one report (R39). -/
theorem State.capCheck_eq (j : StationNo) (s : State) :
    s.capCheck j = { s.setEntry j ((s.entry j).checked s.station.config s.station.straps.belt) with
        console := (s.capCheck j).console }
      ∧ s.console.reports <+: (s.capCheck j).console.reports
      ∧ (s.capCheck j).console.reports.length ≤ s.console.reports.length + 1 := by
  obtain e | ⟨c, e⟩ := s.capCheck_cases j <;> rw [e]
  · exact ⟨rfl, List.prefix_rfl, Nat.le_succ _⟩
  · unfold State.reportCapMismatch
    refine ⟨by rw [State.report_eq], ?_, State.report_length_le ..⟩
    exact State.report_prefix _ _ _ _ (s.setEntry j _)

/-! ### What the table takes from a frame (R25 to R36) -/

/-- The entry that a frame in range leaves: presence, the fields recorded, the mark checked for a kind that records a
capacity (R25, R26, R39). -/
def State.takenEntry (j : StationNo) (bye : Bool) (record : PeerEntry → PeerEntry) (check : Bool) (s : State) :
    PeerEntry :=
  let x := record ((s.entry j).hear bye s.now)
  if check then x.checked s.station.config s.station.straps.belt else x

/-- The table takes a frame: one entry, at most one report, and the change signal (R25). -/
theorem State.tableTake_eq (j : StationNo) (bye : Bool) (record : PeerEntry → PeerEntry) (check : Bool) (f : Found)
    (s : State) :
    ∃ c : Console, s.tableTake j bye record check f = State.signalIfChanged (s.entry j) j f
        { s.setEntry j (s.takenEntry j bye record check) with console := c }
      ∧ s.console.reports <+: c.reports ∧ c.reports.length ≤ s.console.reports.length + 1 := by
  cases check with
  | false => exact ⟨s.console, rfl, List.prefix_rfl, Nat.le_succ _⟩
  | true =>
    obtain ⟨e, longer, short⟩ := State.capCheck_eq j (s.setEntry j (record ((s.entry j).hear bye s.now)))
    rw [State.entry_setEntry_same, State.setEntry_setEntry] at e
    refine ⟨_, ?_, longer, short⟩
    unfold State.tableTake
    dsimp only
    rw [if_pos rfl, e]
    rfl

/-- A frame out of range leaves its sender's presence, and is reported (R35). -/
theorem State.tableReject_eq (j : StationNo) (k : Kind) (s : State) :
    ∃ c : Console, s.tableReject j k = State.signalIfChanged (s.entry j) j .other
        { s.setEntry j ((s.entry j).hear (k == .bye) s.now) with console := c } := by
  refine ⟨(State.reportBadContent .table j k (s.setEntry j ((s.entry j).hear (k == .bye) s.now))).console, ?_⟩
  unfold State.tableReject State.reportBadContent
  dsimp only
  rw [State.report_eq]

end Sys2Proof.Machine
/-! ## Every command keeps S and C current and the unheard entries empty -/

namespace Sys2Proof.Machine

namespace State.Renewed

variable {s t u : State}

/-! ### Frames taken from a peer (R25 to R36) -/

/-- What a recorded entry keeps: its presence, or everything. -/
theorem tableTake (j : StationNo) (bye : Bool) {record : PeerEntry → PeerEntry} {check : Bool} {f : Found}
    (kept : record = id ∨ bye = false ∧ ∀ e, (record e).presence = e.presence) :
    s.Renewed (s.tableTake j bye record check f) := by
  have quiet : (record ((s.entry j).hear bye s.now)).quiet := by
    obtain rfl | ⟨rfl, presence⟩ := kept
    · cases bye with
      | true => exact fun _ => ⟨rfl, rfl, rfl⟩
      | false => exact nofun
    · intro unheard
      rw [PeerEntry.heard, presence] at unheard
      exact absurd unheard nofun
  obtain ⟨c, e, -, -⟩ := s.tableTake_eq j bye record check f
  rw [e]
  refine signalIfChanged rfl fun _ => ?_
  unfold State.takenEntry
  dsimp only
  split <;> exact quiet

theorem tableReject (j : StationNo) (k : Kind) : s.Renewed (s.tableReject j k) := by
  obtain ⟨c, e⟩ := s.tableReject_eq j k
  rw [e]
  refine signalIfChanged rfl fun _ => ?_
  cases k == .bye with
  | true => exact fun _ => ⟨rfl, rfl, rfl⟩
  | false => exact nofun

theorem offerListed (c : Content) (h : s.Renewed t) : s.Renewed (t.offerListed c) := by
  unfold State.offerListed
  split
  · split
    · exact h.view rfl
    · exact h.signalled (.report _ _ _ _ .refl)
  · exact h

theorem offerTally (h : s.Renewed t) : s.Renewed t.offerTally := by
  unfold State.offerTally
  split
  · split
    · exact h
    · exact h.offerListed _
  · exact h

theorem offerRecall (j : StationNo) (c : StartCause) (i : Nat) (h : s.Renewed t) : s.Renewed (t.offerRecall j c i) := by
  unfold State.offerRecall
  split
  · split
    · exact h.offerListed _
    · exact h
  · exact h

theorem recordHello_presence (c : StartCause) (b : HelloBody) (e : PeerEntry) :
    (e.recordHello c b).presence = e.presence := by
  unfold PeerEntry.recordHello PeerEntry.asIntake PeerEntry.drop
  dsimp only
  split <;> split <;> rfl

theorem recordStatus_presence (b : StatusBody) (p : Option Nat) (n : Nat) (e : PeerEntry) :
    (e.recordStatus b p n).presence = e.presence := by
  unfold PeerEntry.recordStatus
  dsimp only
  split <;> rfl

theorem recordRelease_presence (h n : Nat) (e : PeerEntry) : (e.recordRelease h n).presence = e.presence := by
  unfold PeerEntry.recordRelease
  split <;> rfl

theorem applyHello (j : StationNo) (b : HelloBody) : s.Renewed (s.applyHello j b) := by
  unfold State.applyHello
  split
  · rename_i c _
    split
    · exact (tableTake j false (.inr ⟨rfl, recordHello_presence c b⟩)).offerRecall _ _ _
    · exact tableReject j _
  · exact tableReject j _

theorem applyBye (j : StationNo) (r : Nat) : s.Renewed (s.applyBye j r) := by
  unfold State.applyBye
  split
  · exact tableTake j true (.inl rfl)
  · exact tableReject j _

theorem applyStatus (j : StationNo) (b : StatusBody) : s.Renewed (s.applyStatus j b) := by
  unfold State.applyStatus
  split
  · exact (tableTake j false (.inr ⟨rfl, recordStatus_presence b _ _⟩)).signalled
      ((State.Signalled.refl.conflictTest _).applyStatusMass j b)
  · exact tableReject j _

theorem applyRaise (j : StationNo) (b : Nat × Nat) : s.Renewed (s.applyRaise j b) := by
  unfold State.applyRaise
  split
  · exact tableTake j false (.inr ⟨rfl, fun _ => rfl⟩)
  · exact tableReject j _

theorem applyLower (j : StationNo) (g : Nat) : s.Renewed (s.applyLower j g) := by
  unfold State.applyLower
  split
  · exact tableTake j false (.inr ⟨rfl, fun _ => rfl⟩)
  · exact tableReject j _

theorem applyClaim (j : StationNo) (b : ClaimBody) : s.Renewed (s.applyClaim j b) := by
  unfold State.applyClaim
  split
  · have taken : s.Renewed (s.tableTake j false (·.recordClaim b s.now) false (.claimOf j)) :=
      tableTake j false (.inr ⟨rfl, fun _ => rfl⟩)
    exact taken.signalled (State.Signalled.refl.claimRetest.conflictTest _)
  · exact tableReject j _

theorem applyRelease (j : StationNo) (b : Nat × Nat) : s.Renewed (s.applyRelease j b) := by
  unfold State.applyRelease
  split
  · exact (tableTake j false (.inr ⟨rfl, recordRelease_presence _ _⟩)).signalled State.Signalled.refl.claimRetest
  · exact tableReject j _

theorem applyTallyFrame (j : StationNo) (b : TallyBody) : s.Renewed (s.applyTallyFrame j b) := by
  have taken : s.Renewed (s.tableTake j false (fun e => { e with planId := b.planId }) false .other) :=
    tableTake j false (.inr ⟨rfl, fun _ => rfl⟩)
  exact taken.signalled (State.Signalled.refl.applyTally j b)

theorem applyPlain (j : StationNo) (d : Nat) {hand : State → State} (hh : ∀ u : State, u.Renewed (hand u)) :
    s.Renewed (s.applyPlain j d hand) := by
  have taken : s.Renewed (s.tableTake j false id false .other) := tableTake j false (.inl rfl)
  unfold State.applyPlain
  dsimp only
  split
  · exact taken.trans (hh _)
  · exact taken

theorem recordCapacity (j : StationNo) (c : Nat) : s.Renewed (s.recordCapacity j c) := recompute rfl

theorem applyHalt (j : StationNo) (d r : Nat) : s.Renewed (s.applyHalt j d r) := by
  unfold State.applyHalt
  split
  · exact tableReject j _
  · exact applyPlain j d fun _ => of_signalled (.haltIn j r .refl)

theorem applyClear (j : StationNo) (d r : Nat) : s.Renewed (s.applyClear j d r) := by
  unfold State.applyClear
  split
  · exact tableReject j _
  · exact applyPlain j d fun _ => of_signalled (.haltRemove j .refl)

/-! ### Resets (R165, R167) -/

/-- Every entry of the reset table is unheard and reserves nothing (R24). -/
theorem cleared_met (pending : List Instr) (now : Nat) (cause : ResetCause) (straps : Straps) :
    (State.cleared pending now cause straps).viewCurrent
      ∧ (State.cleared pending now cause straps).unheardHoldNothing := by
  have entry (i : StationNo) : (State.cleared pending now cause straps).entry i = PeerEntry.empty :=
    Vector.getElem_replicate ..
  refine ⟨⟨?_, rfl⟩, fun i _ => by rw [entry i]; exact ⟨rfl, rfl, rfl⟩⟩
  have nothing (i : StationNo) : (if ((State.cleared pending now cause straps).entry i).counted straps.belt
      then ((State.cleared pending now cause straps).entry i).reservation else 0) = 0 := by
    rw [entry i]; rfl
  have sum : (State.cleared pending now cause straps).sumReserved = 0 := by
    rw [State.sumReserved, List.sum_eq_zero]
    intro x hx
    obtain ⟨i, -, rfl⟩ := List.mem_map.mp hx
    exact nothing i
  exact sum.symm

theorem of_cleared {pending : List Instr} {now : Nat} {cause : ResetCause} {straps : Straps}
    (e : t.view = (State.cleared pending now cause straps).view) : s.Renewed t := by
  obtain ⟨current, unheard⟩ := cleared_met pending now cause straps
  exact (of_met current unheard : s.Renewed _).view e

theorem beginReset (c : ResetCause) : s.Renewed (t.beginReset c) :=
  of_cleared (pending := t.pending) (now := t.now) (cause := c) (straps := t.station.straps) rfl

theorem releaseReset (c : ResetCause) (straps : Straps) : s.Renewed (t.releaseReset c straps) :=
  of_cleared (pending := t.pending) (now := t.now) (cause := c) (straps := straps)
    (State.Signalled.refl.report ..).view

theorem applyReset (j : StationNo) (d : Nat) (straps : Straps) : s.Renewed (s.applyReset j d straps) := by
  have taken : s.Renewed (s.tableTake j false id false .other) := tableTake j false (.inl rfl)
  unfold State.applyReset
  dsimp only
  split
  · split
    · exact (releaseReset (t := s.tableTake j false id false .other) .remote straps).view rfl
    · exact taken.signalled (State.Signalled.refl.report ..)
  · exact taken

/-! ### States that do not transmit, and the quay (R17, R19, R23, R172, R176) -/

/-- The queues are emptied at an entry to a state that does not transmit (R17). -/
theorem silence (h : s.Renewed t) : s.Renewed t.silence :=
  (h.view (u := t.emptyQueues) rfl).signalled
    ((State.Signalled.refl.shareSilenced.claimSilenced.frame (by rfl)).refreshHeld.claimRetest)

theorem enterOffline (h : s.Renewed t) : s.Renewed t.enterOffline := by
  have quiet : s.Renewed (t.setStation .offline).governorStop.silence :=
    ((h.view (u := t.setStation .offline) rfl).signalled State.Signalled.refl.governorStop).silence
  exact quiet.trans (recompute rfl)

theorem judgeTxFaults (h : s.Renewed t) : s.Renewed t.judgeTxFaults := by
  unfold State.judgeTxFaults
  split
  · exact (h.signalled (((State.Signalled.refl.frame (by rfl)).report ..).holdOffClamp _)).silence
  · split
    · exact h.signalled ((State.Signalled.refl.frame (by rfl)).report ..).drainTest.claimRetest
    · split
      · exact h.signalled ((State.Signalled.refl.frame (by rfl)).report ..).tripAtActive.drainTest.claimRetest
      · exact h

theorem enterJoining (h : s.Renewed t) : s.Renewed t.enterJoining := by
  have drain {v : State} (hv : t.Signalled v) : t.Signalled v.resumeDrain := (hv.frame (by rfl)).drainTest.armDrain
  have hello {v : State} (b : HelloBody) (hv : t.Signalled v) : t.Signalled (v.offerSingle (.hello b)) :=
    hv.offerSingle rfl
  exact h.signalled
    (drain (hello _ ((State.Signalled.refl.frame (by rfl)).holdOffClamp _)).governorStart).resumeHalt.offerOwedRelease.claimRetest

theorem enterActive (h : s.Renewed t) : s.Renewed t.enterActive := by
  have status : t.Signalled (t.setStation .active).offerStatus :=
    (State.Signalled.refl.frame (u := t.setStation .active) (by rfl)).offerSingle rfl
  have judged {v : State} (hv : s.Renewed v) : s.Renewed { v.judgeTxFaults with table := { v.judgeTxFaults.table with
      watchStart := some v.judgeTxFaults.now
      watchDeadline := some (v.judgeTxFaults.now + Config.selfSilence) } } := hv.judgeTxFaults.view rfl
  have tally {v : State} (hv : s.Renewed v) : s.Renewed (if v.readyPlan.isSome then
      { v with plan := { v.plan with tallyTimer := some (v.now + Config.tallyPeriod) } } else v) := by
    split
    · exact hv.view rfl
    · exact hv
  have intake {v : State} (hv : s.Renewed v) :
      s.Renewed (if v.isIntake then v.offerCapacity.tripAtActive else v) := by
    split
    · exact hv.signalled State.Signalled.refl.offerCapacity.tripAtActive
    · exact hv
  have working {v : State} (hv : s.Renewed v) : s.Renewed v.drainTest.refreshHeld.claimRetest :=
    hv.signalled State.Signalled.refl.drainTest.refreshHeld.claimRetest
  have entered := working (intake (tally (judged (h.signalled (status.frame (u := { (t.setStation .active).offerStatus with
    station := { (t.setStation .active).offerStatus.station with
      statusTimer := some ((t.setStation .active).offerStatus.now + Config.statusPeriod), listen := none } }) (by rfl))))))
  unfold State.enterActive
  dsimp only
  split
  · exact entered.signalled (State.Signalled.refl.report ..)
  · exact entered

/-! ### The own attempt and what completes -/

theorem startAttempt (h : s.Renewed t) : s.Renewed t.startAttempt := by
  unfold State.startAttempt State.markSending
  split
  · split
    · split <;> exact h.view rfl
    · exact h
  · exact h

theorem attemptFailed (h : s.Renewed t) : s.Renewed t.attemptFailed := by
  have back : s.Renewed { t with link := t.link.returnFrame } := h.view rfl
  unfold State.attemptFailed State.raiseFailed State.claimFailed
  split
  · exact h
  · dsimp only
    split
    · split
      · exact back.signalled (State.Signalled.refl.frame (by rfl))
      · exact back.signalled ((State.Signalled.refl.frame (by rfl)).reviewRaise false)
    · split
      · exact back.signalled (State.Signalled.refl.frame (by rfl)).signalReleased.claimRetest
      · exact back.signalled (State.Signalled.refl.frame (by rfl)).claimRetest
    · exact back

theorem abortAttempt (h : s.Renewed t) : s.Renewed t.abortAttempt := by
  unfold State.abortAttempt
  split
  · exact h
  · exact (h.attemptFailed.signalled (State.Signalled.refl.frame (by rfl))).judgeTxFaults

theorem completed (hello acked : Bool) (h : s.Renewed t) : s.Renewed (t.completed hello acked) := by
  have unheard {v : State} (hv : s.Renewed v) : s.Renewed (v.countUnheard acked) := by
    unfold State.countUnheard
    dsimp only
    split
    · exact hv.view rfl
    · split
      · exact hv.signalled ((State.Signalled.refl.frame (by rfl)).report ..)
      · exact hv.view rfl
  unfold State.completed
  exact (unheard (h.view (by rfl))).judgeTxFaults

theorem releaseDone (h : s.Renewed t) : s.Renewed t.releaseDone := by
  have tally {v : State} (hv : s.Renewed v) : s.Renewed v.tallyOnRelease := by
    unfold State.tallyOnRelease
    split
    · exact hv.offerTally
    · exact hv
  unfold State.releaseDone
  exact (tally (h.view (by rfl))).signalled State.Signalled.refl.signalReleased.claimRetest

theorem leftQuay (h : s.Renewed t) : s.Renewed t.leftQuay :=
  h.enterOffline.signalled ((State.Signalled.refl.frame (by rfl)).report ..)

/-! ### Timers -/

/-- A timer of an entry: the entry is replaced and the change signalled (R27, R33). -/
theorem entryTimer {x : PeerEntry} {j : StationNo} {f : Found} (e : t.table.entries = (s.setEntry j x).table.entries)
    (quiet : (s.entry j).quiet → x.quiet) : s.Renewed (t.tableChanged f) :=
  tableChanged f (State.unheardHoldNothing_setEntry e quiet)

theorem becomeSilent (j : StationNo) : s.Renewed (s.becomeSilent j) := entryTimer rfl fun _ => nofun

theorem becomeLost (j : StationNo) : s.Renewed (s.becomeLost j) :=
  entryTimer (x := { (s.entry j).drop with presence := .lost }) (j := j)
    (congrArg View.entries (State.Signalled.refl.report ..).view) fun _ _ => ⟨rfl, rfl, rfl⟩

theorem dropPendingRaise (j : StationNo) : s.Renewed (s.dropPendingRaise j) :=
  entryTimer rfl fun held unheard =>
    have ⟨grant, _, claim⟩ := held unheard
    ⟨grant, rfl, claim⟩

/-! ### Console commands -/

theorem takeConfigure (c : ConfigRecord) : s.Renewed (s.takeConfigure c) := by
  have checks (js : List StationNo) : ∀ v : State, v.unheardHoldNothing →
      (js.foldl (fun u j => u.capCheck j) v).unheardHoldNothing := by
    induction js with
    | nil => exact fun _ hv => hv
    | cons j js ih =>
      refine fun v hv => ih _ (State.unheardHoldNothing_setEntry (j := j)
        (x := (v.entry j).checked v.station.config v.station.straps.belt) ?_ (fun q => q) hv)
      exact congrArg (fun w => w.table.entries) (v.capCheck_eq j).1
  refine tableChanged .other fun hs => checks _ _ (State.unheardHoldNothing_of_entries ?_ hs)
  exact congrArg View.entries (State.Signalled.refl.holdOffClamp .state).view

theorem handleConfigure (a : ConfigureArgs) : s.Renewed (handleConfigure a s).1 := by
  unfold Machine.handleConfigure refuse
  split
  · exact refl
  · split
    · exact refl
    · split <;> (dsimp only; exact takeConfigure _)

theorem handleJoin : s.Renewed (handleJoin s).1 := by
  unfold Machine.handleJoin refuse
  split
  · exact refl.enterJoining
  · exact refl.enterJoining
  · exact refl

theorem handlePlanBegin (a : PlanBeginArgs) : s.Renewed (handlePlanBegin a s).1 := by
  unfold Machine.handlePlanBegin refuse
  split
  · exact refl
  · split
    · exact refl
    · split
      · exact of_view rfl
      · exact refl

theorem handlePlanHold (a : PlanHoldArgs) : s.Renewed (handlePlanHold a s).1 := by
  unfold Machine.handlePlanHold refuse
  split
  · exact refl
  · split
    · split <;> [exact of_view rfl; exact refl]
    · exact refl

theorem handlePlanEnd : s.Renewed (handlePlanEnd s).1 := by
  unfold Machine.handlePlanEnd refuse
  split
  · exact refl
  · split
    · split
      · exact refl
      · split <;> [exact refl; exact of_view rfl]
    · exact refl

theorem handlePlanDrop : s.Renewed (handlePlanDrop s).1 := by
  unfold Machine.handlePlanDrop refuse
  split
  · exact refl
  · split
    · exact refl
    · exact of_view rfl

theorem handleRemoteReset (n : Nat) : s.Renewed (handleRemoteReset n s).1 := by
  unfold Machine.handleRemoteReset refuse
  split
  · split
    · exact refl
    · split
      · split
        · exact refl
        · exact of_signalled (.offerUrgent _ .refl)
      · exact refl
  · exact refl

theorem handleQueryPeer (n : Nat) : s.Renewed (handleQueryPeer n s).1 := by
  unfold Machine.handleQueryPeer refuse
  split
  · split <;> exact refl
  · exact refl

theorem handleQueryHold (n : Nat) : s.Renewed (handleQueryHold n s).1 := by
  unfold Machine.handleQueryHold refuse
  split <;> exact refl

theorem handleReadReport : s.Renewed (handleReadReport s).1 := by
  unfold Machine.handleReadReport
  split <;> exact of_view rfl

/-! ### How a command reaches the state -/

theorem live {n : Nat} {f : State → State} (hf : ∀ u : State, u.Renewed (f u)) : s.Renewed (s.live n f) := by
  have clock : s.Renewed (s.advance n) := of_view rfl
  unfold State.live
  split
  · exact clock
  · exact clock.trans (hf _)

theorem expire {d : Option Nat} {f : State → State} (hf : ∀ u : State, u.Renewed (f u)) : s.Renewed (s.expire d f) := by
  unfold State.expire
  split
  · exact live hf
  · exact refl

/-- A timer whose work the signals alone carry out. -/
theorem expireSignalled {d : Option Nat} {f : State → State} (hf : ∀ u : State, u.Signalled (f u)) :
    s.Renewed (s.expire d f) := expire fun u => of_signalled (hf u)

theorem command {n : Nat} {tag : BitVec 16} {handle : State → Handled} (hf : ∀ u : State, u.Renewed (handle u).1) :
    s.Renewed (s.live n (·.command tag handle)) := by
  refine live fun u => ?_
  unfold State.command
  split
  · exact of_signalled ((State.Signalled.refl.frame (by rfl)).report ..)
  · exact (hf u).view rfl

/-- A console command with arguments of one length (R180). -/
theorem console {n : Nat} {tag : BitVec 16} {α : Type} {args : Option α} {f : α → State → Handled}
    (hf : ∀ (a : α) (u : State), u.Renewed (f a u).1) : s.Renewed (s.live n (·.command tag (withArgs args f))) := by
  refine command fun u => ?_
  unfold withArgs refuse
  split
  · exact hf _ u
  · exact refl

theorem lineFault (b : Bool) : s.Renewed (s.lineFault b) :=
  of_signalled (State.Signalled.refl.frame (by rfl)).countRxFault

theorem dupNumber (k : Kind) (h : s.Renewed t) : s.Renewed (t.dupNumber k) := by
  unfold State.dupNumber
  have told : s.Renewed (if t.link.dupReported then t
      else State.reportDupNumber k { t with link := { t.link with dupReported := true } }) := by
    split
    · exact h
    · exact h.signalled ((State.Signalled.refl.frame (by rfl)).report ..)
  dsimp only
  split
  · exact told
  · exact told.enterOffline

theorem receive {α : Type} {n : Nat} {j : StationNo} {k : Kind} {dest : Nat} {payload : Option α}
    {apply : α → State → State} (hf : ∀ (b : α) (u : State), u.Renewed (apply b u)) :
    s.Renewed (s.live n (·.receive j k dest payload apply)) := by
  refine live fun u => ?_
  unfold State.receive
  split
  · split
    · split
      · have counted (o : Occupancy) : u.Renewed ((u.markOccupancy true o).countRxGood) :=
          of_signalled (State.Signalled.refl.frame (by rfl)).countRxGood
        unfold State.takeGood
        generalize (if k = Kind.hello then Occupancy.hello else Occupancy.taken) = o
        dsimp only
        split
        · exact (counted _).dupNumber k
        · exact (counted _).trans (hf _ _)
      · exact lineFault _
    · exact lineFault _
  · exact refl

theorem complete {n : Nat} {p : Kind → Bool} {acked : Bool} {signal : Content → State → State}
    (hf : ∀ (c : Content) (u : State), u.Renewed (signal c u)) : s.Renewed (s.live n (·.complete p acked signal)) := by
  refine live fun u => ?_
  unfold State.complete
  split
  · split
    · exact (refl.completed _ acked).trans (hf _ _)
    · exact refl
  · exact refl

end State.Renewed

end Sys2Proof.Machine
/-! ## The invariant of the station table's view (R25, R28, R43, R44) -/

namespace Sys2Proof.Machine

open State.Signalled (refl) in
open State.Renewed in
/-- Every command keeps S and C current and the unheard entries empty. -/
theorem exec_renewed {s s' : State} (c : Instr) (e : exec c s = .next s') : s.Renewed s' := by
  cases c <;> obtain rfl := Host.Outcome.next.inj e
  case powerReset t => exact beginReset _
  case pinReset t => exact live fun u => beginReset _
  case resetRelease t straps =>
    split
    · exact releaseReset _ _
    · exact of_view rfl
  case lineIdle t => exact live fun u => of_view rfl
  case occupancyEnd t =>
    refine live fun u => ?_
    unfold State.endOccupancy
    split
    · exact .refl
    · split <;> exact of_view rfl
  case attemptStart t => exact live fun u => State.Renewed.refl.startAttempt
  case lostArbitration t => exact live fun u => State.Renewed.refl.attemptFailed
  case transmitFault t => exact live fun u => State.Renewed.refl.abortAttempt
  case receiveFault t cause => exact live fun u => by split <;> [exact lineFault _; exact .refl]
  -- frames taken
  case helloTaken t j p => exact receive fun b u => applyHello j b
  case byeTaken t j p => exact receive fun b u => applyBye j b
  case statusTaken t j p => exact receive fun b u => applyStatus j b
  case raiseTaken t j p => exact receive fun b u => applyRaise j b
  case lowerTaken t j p => exact receive fun b u => applyLower j b
  case claimTaken t j p => exact receive fun b u => applyClaim j b
  case releaseTaken t j p => exact receive fun b u => applyRelease j b
  case tallyTaken t j p => exact receive fun b u => applyTallyFrame j b
  case recallTaken t j d p => exact receive fun b u => applyPlain j _ fun v => of_signalled (refl.applyRecall j b)
  case capacityTaken t j d p => exact receive fun b u => applyPlain j _ fun v => recordCapacity j b
  case haltTaken t j d p => exact receive fun b u => applyHalt j _ b
  case clearTaken t j d p => exact receive fun b u => applyClear j _ b
  case resetTaken t j d straps => exact receive fun _ u => applyReset j _ straps
  -- own frames that complete
  case helloCompletes t acked => exact complete fun _ u => of_signalled refl.helloDone
  case byeCompletes t acked => exact complete fun _ u => State.Renewed.refl.leftQuay
  case statusCompletes t acked =>
    refine complete fun c u => ?_
    cases c with
    | status => exact of_signalled (refl.statusDone _)
    | _ => exact .refl
  case raiseCompletes t acked =>
    refine complete fun c u => ?_
    cases c with
    | raise => exact of_signalled (refl.raiseDone _)
    | _ => exact .refl
  case lowerCompletes t acked =>
    refine complete fun c u => ?_
    cases c with
    | lower => exact of_signalled (refl.lowerDone _)
    | _ => exact .refl
  case claimCompletes t acked => exact complete fun _ u => of_signalled refl.claimDone
  case releaseCompletes t acked => exact complete fun _ u => State.Renewed.refl.releaseDone
  case frameCompletes t acked => exact complete fun _ u => .refl
  -- timers
  case peerSilent j => exact expire fun u => becomeSilent j
  case peerLost j => exact expire fun u => becomeLost j
  case pendingRaiseExpiry j => exact expire fun u => dropPendingRaise j
  case selfSilent => exact expireSignalled fun u => refl.becomeSelfSilent
  case raiseSettleDeadline => exact expireSignalled fun u => refl.settleRaise
  case drainStall => exact expireSignalled fun u => refl.stallDrain
  case releaseTimerExpiry => exact expireSignalled fun u => (refl.frame (by rfl)).lowerRequest _ _
  case haltRepeat => exact expireSignalled fun u => refl.offerHalt.frame (by rfl)
  case capacityRepeat => exact expireSignalled fun u => refl.offerCapacity
  case governorUpdate => exact expireSignalled fun u => refl.governorUpdate
  case tallyTimerExpiry =>
    refine expire fun u => ?_
    have set : u.Renewed { u with plan := { u.plan with tallyTimer := some (u.now + Config.tallyPeriod) } } := of_view rfl
    exact set.offerTally
  case claimSettleDeadline => exact expireSignalled fun u => refl.settleClaim
  case travelTimeout => exact expireSignalled fun u => (refl.frame (by rfl)).decideEnd _ _
  case exhaustionTimerExpiry => exact expireSignalled fun u => (refl.frame (by rfl)).decideEnd _ _
  case listenTimerExpiry => exact expire fun u => State.Renewed.refl.enterActive
  case statusTimerExpiry => exact expireSignalled fun u => (refl.frame (by rfl)).offerSingle rfl
  case machineSilent => exact expireSignalled fun u => refl.becomeMachineSilent
  case choke => exact expireSignalled fun u => refl.setChoke
  case chokeCleared => exact expireSignalled fun u => refl.clearChoke
  -- the machine link and the console line
  case machineByteTimeout t => exact live fun u => of_view rfl
  case machineFrameError t cause => exact live fun u => by cases cause <;> exact of_view rfl
  case measure t p => exact live fun u => by split <;> [exact of_signalled (refl.takeMeasure _); exact of_view rfl]
  case machineFrameSent t => exact live fun u => of_view rfl
  case consoleByteTimeout t => exact live fun u => of_signalled ((refl.frame (by rfl)).report ..)
  case consoleFrameError t cause =>
    exact live fun u => by cases cause <;> exact of_signalled ((refl.frame (by rfl)).report ..)
  case responseSent t => exact live fun u => of_view rfl
  -- console commands
  case unknown t tag code => exact command fun u => .refl
  case configure t tag a => exact console fun a u => State.Renewed.handleConfigure a
  case join t tag a => exact console fun _ u => State.Renewed.handleJoin
  case leave t tag a => exact console fun _ u => of_signalled (State.Signalled.handleLeave u)
  case planBegin t tag a => exact console fun a u => State.Renewed.handlePlanBegin a
  case planHold t tag a => exact console fun a u => State.Renewed.handlePlanHold a
  case planEnd t tag a => exact console fun _ u => State.Renewed.handlePlanEnd
  case planDrop t tag a => exact console fun _ u => State.Renewed.handlePlanDrop
  case order t tag a => exact console fun a u => of_signalled (State.Signalled.handleOrder a u)
  case cancel t tag a => exact console fun a u => of_signalled (refl.cancelOrder a)
  case halt t tag a => exact console fun a u => of_signalled (State.Signalled.handleHalt a u)
  case clear t tag a => exact console fun a u => of_signalled (State.Signalled.handleClear a u)
  case overrideClear t tag a => exact console fun _ u => of_signalled refl.overrideClear
  case beltcap t tag a => exact console fun a u => of_signalled (State.Signalled.handleBeltcap a u)
  case remoteReset t tag a => exact console fun a u => State.Renewed.handleRemoteReset a
  case queryStation t tag a => exact console fun _ u => .refl
  case queryPeer t tag a => exact console fun a u => State.Renewed.handleQueryPeer a
  case queryHold t tag a => exact console fun a u => State.Renewed.handleQueryHold a
  case queryOrders t tag a => exact console fun _ u => .refl
  case queryFinished t tag a => exact console fun _ u => .refl
  case readReport t tag a => exact console fun _ u => State.Renewed.handleReadReport

/-- The step takes the command at the front of the queue, which the view does not see. -/
theorem step_renewed {s s' : State} (e : step s = .next s') : s.Renewed s' := by
  unfold step at e
  split at e
  · obtain rfl := Host.Outcome.next.inj e; exact .refl
  · have taken := exec_renewed _ e
    exact ⟨taken.current, taken.unheard⟩

/-- Settles O60: what leaves the table, the record and the intake list leaves S and C; what changes them ends in the
recomputation; and an entry leaves PRESENT and SILENT only with its grant, raise and claim dropped. -/
theorem reservationsAndCapacityStayCurrent : Obligations.ReservationsAndCapacityStayCurrent :=
  ⟨fun _ _ h e => (step_renewed e).current h, fun _ _ h e => (step_renewed e).unheard h⟩

end Sys2Proof.Machine
/-! ## A good frame of a peer handed on, and one out of range (R11, R25, R26, R35) -/

namespace Sys2Proof.Machine

/-! ### The state and the entry in which a frame is handed on -/

/-- A frame of a peer taken by a listening station is applied in the state its reception leaves. -/
theorem State.receive_peer {α : Type} {s : State} {t : Nat} {j : StationNo} {k : Kind} {dest : Nat} {read : Option α}
    {b : α} {apply : α → State → State} (live : s.inReset = none) (listens : s.listens = true) (peer : j ≠ s.own)
    (body : read = some b) (permits : k.permits dest = true) :
    s.live t (·.receive j k dest read apply) = apply b ((s.advance t).received k) := by
  rw [body, State.receive_eq t j b apply live listens permits, if_neg peer]

/-- What the link controller counts, and one entry of the table replaced (R11, R21, R25). -/
def State.recorded (t : Nat) (k : Kind) (j : StationNo) (x : PeerEntry) (s : State) : State :=
  { s.heard t k with table := { s.table with entries := s.table.entries.set j.val x j.isLt } }

theorem State.mask_setPlan {s t : State} (h : s.mask = t.mask) (p : PlanStore) :
    { s with plan := p }.mask = { t with plan := p }.mask := by
  rw [State.setPlan_mask, h]; rfl

theorem State.capCheck_mask (j : StationNo) (s : State) :
    (s.capCheck j).mask = (s.setEntry j ((s.entry j).checked s.station.config s.station.straps.belt)).mask := by
  obtain e | ⟨c, e⟩ := s.capCheck_cases j <;> rw [e]
  exact report_mask ..

/-- A frame in range changes its sender's entry, and the rest by its change signal (R25). -/
theorem State.tableTake_takenEntry_mask (j : StationNo) (bye : Bool) (record : PeerEntry → PeerEntry) (check : Bool)
    (f : Found) (s : State) :
    (s.tableTake j bye record check f).mask = (s.setEntry j (s.takenEntry j bye record check)).mask := by
  refine (signalIfChanged_mask ..).trans ?_
  cases check with
  | false => rfl
  | true =>
    rw [if_pos rfl, State.capCheck_mask, State.entry_setEntry_same, State.setEntry_setEntry]
    rfl

section

variable {s : State} (t : Nat) (k : Kind) (j : StationNo)

theorem State.received_now (line : s.link.onLine = none) : ((s.advance t).received k).now = max s.now t := by
  rw [(State.received_onlyClaims t k line).eq]; rfl

theorem State.received_entry (line : s.link.onLine = none) : ((s.advance t).received k).entry j = s.entry j := by
  obtain ⟨-, -, -, table, -, -⟩ := State.received_same t k line
  rw [State.entry, table]; rfl

/-- The reception and the entry its frame leaves, up to what the signals may change. -/
theorem State.received_setEntry_mask (line : s.link.onLine = none) (x : PeerEntry) :
    (((s.advance t).received k).setEntry j x).mask = (s.recorded t k j x).mask := by
  rw [(State.received_onlyClaims t k line).eq]
  exact State.heardConsole_mask s (s.recorded t k j x) rfl

/-- The reception and what the table takes from the frame, up to what the signals may change (R25). -/
theorem State.received_take_mask (line : s.link.onLine = none) (bye : Bool) (record : PeerEntry → PeerEntry) (check : Bool)
    (f : Found) : (((s.advance t).received k).tableTake j bye record check f).mask
      = (s.recorded t k j ((s.advance t).takenEntry j bye record check)).mask := by
  have same : ((s.advance t).received k).takenEntry j bye record check = (s.advance t).takenEntry j bye record check := by
    obtain ⟨-, -, station, -, -, -⟩ := State.received_same t k line
    unfold State.takenEntry
    rw [State.received_entry t k j line, State.received_now t k line, station]
    rfl
  rw [← State.received_setEntry_mask t k j line, ← same]
  exact State.tableTake_takenEntry_mask ..

/-- A frame out of range leaves presence and last-heard time (R26, R35). -/
theorem State.received_reject_mask (line : s.link.onLine = none) :
    (((s.advance t).received k).tableReject j k).mask
      = (s.recorded t k j ((s.entry j).hear (k == Kind.bye) (max s.now t))).mask := by
  rw [← State.received_setEntry_mask t k j line, ← State.received_now t k line, ← State.received_entry t k j line]
  exact (signalIfChanged_mask ..).trans (report_mask ..)

end

/-! ### The checks of R35 -/

theorem StartCause.ofCode_none {n : Nat} (h : n = 0 ∨ 4 < n) : StartCause.ofCode n = none := by
  obtain rfl | above := h
  · rfl
  · obtain ⟨m, rfl⟩ := Nat.exists_eq_add_of_le' above
    rfl

theorem grantGood_iff {g : Nat} : grantGood g = true ↔ g ≤ 1500 := decide_eq_true_iff

theorem positionGood_iff {x : Nat} : positionGood x = true ↔ x ≤ 65000 := decide_eq_true_iff

theorem capacityGood_iff {c : Nat} : capacityGood c = true ↔ 100 ≤ c ∧ c ≤ 6000 := by
  unfold capacityGood
  rw [Bool.and_eq_true]
  exact and_congr decide_eq_true_iff decide_eq_true_iff

theorem slotGood_iff {h l : Nat} : slotGood h l = true ↔ 1 ≤ h ∧ h ≤ 12 ∧ 1 ≤ l ∧ l ≤ 2 := by
  simp [slotGood, and_assoc]

theorem ClaimBody.good_iff {b : ClaimBody} : b.good = true ↔
    (1 ≤ b.hold ∧ b.hold ≤ 12 ∧ 1 ≤ b.slot ∧ b.slot ≤ 2) ∧ b.fromPos ≤ 65000 ∧ b.toPos ≤ 65000 := by
  rw [ClaimBody.good, Bool.and_eq_true, Bool.and_eq_true, slotGood_iff, positionGood_iff, positionGood_iff, and_assoc]

theorem HelloBody.good_iff {b : HelloBody} :
    b.good = true ↔ (StartCause.ofCode b.cause).isSome = true ∧ 100 ≤ b.capacity ∧ b.capacity ≤ 6000 := by
  rw [HelloBody.good, Bool.and_eq_true, capacityGood_iff]

theorem HelloBody.good_false {b : HelloBody} (h : b.cause = 0 ∨ 4 < b.cause ∨ b.capacity < 100 ∨ 6000 < b.capacity) :
    b.good = false := by
  rw [Bool.eq_false_iff]
  intro good
  obtain ⟨cause, least, most⟩ := HelloBody.good_iff.mp good
  obtain none | high | low | large := h
  · rw [StartCause.ofCode_none (.inl none)] at cause; cases cause
  · rw [StartCause.ofCode_none (.inr high)] at cause; cases cause
  all_goals omega

theorem StatusBody.good_iff {b : StatusBody} : b.good = true ↔
    3 ≤ b.stateCode ∧ b.stateCode ≤ 5 ∧ (∀ x, b.position = some x → x ≤ 65000) ∧ b.hold ≤ 12 ∧ b.slot ≤ 2
      ∧ (b.hold = 0 ↔ b.slot = 0) ∧ b.grant ≤ 1500 ∧ b.raiseTarget ≤ 1500 ∧ 100 ≤ b.capacity ∧ b.capacity ≤ 6000 := by
  have zero : ((decide (b.slot = 0) == decide (b.hold = 0)) = true) ↔ (b.hold = 0 ↔ b.slot = 0) := by
    by_cases h : b.hold = 0 <;> by_cases l : b.slot = 0 <;> simp [h, l]
  cases position : b.position <;>
    simp only [StatusBody.good, position, Bool.and_eq_true, decide_eq_true_eq, zero, grantGood_iff, positionGood_iff,
      capacityGood_iff, and_assoc, true_and, Option.some.injEq, forall_eq', reduceCtorEq, false_imp_iff, implies_true]

theorem StatusBody.good_false {b : StatusBody} (h : b.stateCode < 3 ∨ 5 < b.stateCode
    ∨ (∃ x, b.position = some x ∧ 65000 < x) ∨ 12 < b.hold ∨ 2 < b.slot ∨ ¬(b.hold = 0 ↔ b.slot = 0) ∨ 1500 < b.grant
    ∨ 1500 < b.raiseTarget ∨ b.capacity < 100 ∨ 6000 < b.capacity) : b.good = false := by
  rw [Bool.eq_false_iff]
  intro good
  obtain ⟨low, high, position, hold, slot, zero, grant, target, least, most⟩ := StatusBody.good_iff.mp good
  obtain h | h | ⟨x, isX, h⟩ | h | h | h | h | h | h | h := h
  case inr.inr.inl => exact absurd (position x isX) (by omega)
  case inr.inr.inr.inr.inr.inl => exact h zero
  all_goals omega

/-! ### A content out of range is rejected (R35) -/

section

variable {s : State} {t : Nat} {j : StationNo} {p : Bytes}

theorem State.applyHello_bad {b : HelloBody} (h : b.good = false) : s.applyHello j b = s.tableReject j .hello := by
  unfold State.applyHello
  split
  · rw [h]; rfl
  · rfl

/-- Settles O10: each kind's check fails, and what is rejected leaves its sender's presence alone. -/
theorem badContentWritesNoField : Obligations.BadContentWritesNoField := by
  intro c t j k p s live listens peer bad
  have line := State.listens_line listens
  have rejected (e : exec c s = .next (((s.advance t).received k).tableReject j k)) :
      ∃ s', exec c s = .next s' ∧ s'.mask = (s.recorded t k j (if k = .bye then { s.entry j with
            presence := .left, lastHeard := max s.now t, grant := 0, raise := none, claim := none }
          else { s.entry j with
            presence := .present, lastHeard := max s.now t
            lastSeq := if (s.entry j).presence = .present then (s.entry j).lastSeq else none })).mask := by
    refine ⟨_, e, (State.received_reject_mask t k j line).trans ?_⟩
    cases k <;> rfl
  have taken {α : Type} {dest : Nat} {read : Option α} {b : α} {apply : α → State → State} (body : read = some b)
      (permits : k.permits dest = true) (e : exec c s = .next (s.live t (·.receive j k dest read apply)))
      (reject : ∀ u : State, apply b u = u.tableReject j k) :
      exec c s = .next (((s.advance t).received k).tableReject j k) := by
    rw [e, State.receive_peer live listens peer body permits, reject]
  refine rejected ?_
  obtain ⟨rfl, rfl, b, body, bad⟩ | ⟨rfl, rfl, r, body, bad⟩ | ⟨rfl, rfl, b, body, bad⟩ | ⟨rfl, rfl, b, body, bad⟩
    | ⟨rfl, rfl, g, body, bad⟩ | ⟨rfl, rfl, b, body, bad⟩ | ⟨rfl, rfl, b, body, bad⟩ := bad
  · exact taken body rfl rfl fun u => State.applyHello_bad (HelloBody.good_false bad)
  · exact taken body rfl rfl fun u => if_neg bad
  · exact taken body rfl rfl fun u => if_neg (by rw [StatusBody.good_false bad]; decide)
  · exact taken body rfl rfl fun u => if_neg (by rw [Bool.and_eq_true, grantGood_iff, grantGood_iff]; omega)
  · exact taken body rfl rfl fun u => if_neg (by rw [grantGood_iff]; omega)
  · exact taken body rfl rfl fun u => if_neg (by rw [ClaimBody.good_iff]; omega)
  · exact taken body rfl rfl fun u => if_neg (by rw [slotGood_iff]; omega)

end

end Sys2Proof.Machine
/-! ## The cells a peer's masses raise and its plan mismatch mark (R94, R98, R99, R100) -/

namespace Sys2Proof.Machine

/-! ### Masses from the line fit a cell -/

theorem read4_lt (a b c d : Byte) : read4 a b c d < 4294967296 := by
  have := a.isLt; have := b.isLt; have := c.isLt; have := d.isLt
  unfold read4
  omega

theorem readPairs_mass : ∀ {p : Bytes} {l : List (Nat × Nat)}, readPairs p = some l → ∀ q ∈ l, q.2 ≤ Config.massMax
  | [], l, e => by cases Option.some.inj e; exact nofun
  | [_], l, e => nomatch e
  | [_, _], l, e => nomatch e
  | [_, _, _], l, e => nomatch e
  | [_, _, _, _], l, e => nomatch e
  | h :: m3 :: m2 :: m1 :: m0 :: rest, l, e => by
    obtain ⟨ps, later, rfl⟩ := Option.map_eq_some_iff.mp e
    intro q hq
    obtain rfl | hq := List.mem_cons.mp hq
    · exact Nat.le_of_lt_succ (read4_lt m3 m2 m1 m0)
    · exact readPairs_mass later q hq

theorem readTally_mass {p : Bytes} {b : TallyBody} (h : readTally p = some b) : ∀ q ∈ b.pairs, q.2 ≤ Config.massMax := by
  unfold readTally at h
  split at h
  · split at h
    · rename_i ps pairs
      split at h
      · cases h; exact readPairs_mass pairs
      · cases h
    · cases h
  · cases h

/-! ### Cells (R94, R98) -/

/-- A peer's cell of the hold account table (R94). -/
def columnAt (cells : Vector (Vector Nat 16) 12) (h : Nat) (i : StationNo) : Nat :=
  if hh : 1 ≤ h ∧ h ≤ 12 then (cells[h - 1]'(by omega))[i] else 0

theorem State.cell_eq (s : State) (h : Nat) (i : StationNo) :
    s.cell h i = if i = s.own then s.ownCell h else columnAt s.plan.cells h i := rfl

theorem columnAt_raiseCell {cells : Vector (Vector Nat 16) 12} {k m h : Nat} {i j : StationNo} (hk : 1 ≤ k ∧ k ≤ 12)
    (fits : m ≤ Config.massMax) : columnAt (raiseCell cells k j m) h i =
      if h = k ∧ i = j then max (columnAt cells h i) m else columnAt cells h i := by
  unfold raiseCell columnAt
  rw [dif_pos hk]
  by_cases hh : 1 ≤ h ∧ h ≤ 12
  · rw [dif_pos hh, dif_pos hh]
    by_cases same : h = k
    · subst same
      by_cases there : i = j
      · subst there
        simp [Nat.min_eq_right fits]
      · have other : j.val ≠ i.val := fun e => there (Fin.ext e.symm)
        simp [there, other]
    · have apart : k - 1 ≠ h - 1 := by omega
      rw [if_neg (fun g => same g.1)]
      simp [apart]
  · have apart : h ≠ k := fun e => hh (e ▸ hk)
    rw [dif_neg hh, dif_neg hh, if_neg (fun g => apart g.1)]

theorem columnAt_mergePairs {n h : Nat} {i j : StationNo} : ∀ {l : List (Nat × Nat)} {cells : Vector (Vector Nat 16) 12},
    (l.map fun q => q.1).Pairwise (· < ·) → (∀ k ∈ l.map fun q => q.1, 1 ≤ k ∧ k ≤ 12) → (∀ q ∈ l, q.2 ≤ Config.massMax) →
      columnAt (mergePairs n j l cells) h i =
        if i = j ∧ h ≤ n then max (columnAt cells h i) ((l.lookup h).getD 0) else columnAt cells h i
  | [], cells, _, _, _ => by simp [mergePairs]
  | (k, m) :: rest, cells, ordered, range, fits => by
    rw [List.map_cons, List.pairwise_cons] at ordered
    rw [List.map_cons, List.forall_mem_cons] at range
    rw [List.forall_mem_cons] at fits
    have later : rest.lookup k = none := by
      rw [List.lookup_eq_none_iff]
      intro q hq
      have above : k < q.1 := ordered.1 q.1 (List.mem_map_of_mem hq)
      exact bne_iff_ne.mpr (Nat.ne_of_lt above)
    have first : columnAt (if k ≤ n then raiseCell cells k j m else cells) h i =
        if (h = k ∧ i = j) ∧ k ≤ n then max (columnAt cells h i) m else columnAt cells h i := by
      by_cases low : k ≤ n
      · rw [if_pos low, columnAt_raiseCell range.1 fits.1]
        simp [low]
      · rw [if_neg low, if_neg (fun g => low g.2)]
    rw [mergePairs, columnAt_mergePairs ordered.2 range.2 fits.2, List.lookup_cons]
    by_cases same : h = k
    · subst same
      by_cases here : i = j ∧ h ≤ n
      · rw [first, if_pos here, if_pos here, if_pos ⟨⟨rfl, here.1⟩, here.2⟩, later]
        simp
      · rw [first, if_neg here, if_neg here, if_neg (fun g => here ⟨g.1.2, g.2⟩)]
    · rw [first.trans (if_neg (fun g => same g.1.1)), (beq_eq_false_iff_ne).mpr same]

/-! ### The mismatch marks (R100) -/

/-- The marks after a plan id has been compared with the own READY plan's (R100). -/
def PlanStore.marked (u : PlanStore) (j : StationNo) (id own : Nat) : PlanStore :=
  { u with marks :=
    if id = own then u.marks.set j.val none j.isLt
    else if id = 0 ∨ u.marks[j] = some id then u.marks
    else u.marks.set j.val (some id) j.isLt }

theorem PlanStore.marked_marks (u : PlanStore) (i j : StationNo) (id own : Nat) :
    (u.marked j id own).marks[i] = if i ≠ j then u.marks[i]
      else if id = own then none else if id ≠ 0 then some id else u.marks[j] := by
  have set (m : Option Nat) : (u.marks.set j.val m j.isLt)[i] = if i ≠ j then u.marks[i] else m := by
    by_cases same : i = j
    · subst same; simp
    · have other : j.val ≠ i.val := fun e => same (Fin.ext e.symm)
      simp [same, other]
  unfold PlanStore.marked
  dsimp only
  by_cases equal : id = own
  · rw [if_pos equal, set, if_pos equal]
  · rw [if_neg equal, if_neg equal]
    by_cases none : id = 0
    · rw [if_pos (.inl none), if_neg (not_not_intro none)]
      by_cases same : i = j
      · subst same; simp
      · simp [same]
    · rw [if_pos none]
      by_cases known : u.marks[j] = some id
      · rw [if_pos (.inr known)]
        by_cases same : i = j
        · subst same; simp [known]
        · simp [same]
      · rw [if_neg (not_or.mpr ⟨none, known⟩), set]

theorem State.planMark_plan (j : StationNo) (id own : Nat) (s : State) :
    (s.planMark j id own).plan = s.plan.marked j id own := by
  unfold State.planMark PlanStore.marked
  by_cases equal : id = own
  · rw [if_pos equal, if_pos equal]
  · rw [if_neg equal, if_neg equal]
    by_cases known : id = 0 ∨ s.plan.marks[j] = some id
    · rw [if_pos known, if_pos known]
    · rw [if_neg known, if_neg known, State.reportPlanMismatch, State.report_eq]

theorem State.planMark_mask (j : StationNo) (id own : Nat) (s : State) :
    (s.planMark j id own).mask = { s with plan := s.plan.marked j id own }.mask := by
  unfold State.planMark PlanStore.marked
  by_cases equal : id = own
  · rw [if_pos equal, if_pos equal]
  · rw [if_neg equal, if_neg equal]
    by_cases known : id = 0 ∨ s.plan.marks[j] = some id
    · rw [if_pos known, if_pos known]
    · rw [if_neg known, if_neg known]
      exact report_mask ..

/-! ### TALLY (R98) -/

/-- The plan store after a TALLY (R98, R100). -/
def State.tallied (j : StationNo) (b : TallyBody) (s : State) : PlanStore :=
  if pairsGood b.pairs then
    match s.readyPlan with
    | none => s.plan
    | some p => { s.plan.marked j b.planId p.id with
        cells := if b.planId = p.id then mergePairs p.count j b.pairs s.plan.cells else s.plan.cells }
  else s.plan

theorem State.applyTally_eq (j : StationNo) (b : TallyBody) (s : State) :
    (s.applyTally j b).plan = s.tallied j b ∧ (s.applyTally j b).mask = { s with plan := s.tallied j b }.mask := by
  unfold State.applyTally State.tallied
  cases good : pairsGood b.pairs with
  | false => exact ⟨by rw [if_neg nofun, if_neg nofun, State.reportBadContent, State.report_eq], report_mask ..⟩
  | true =>
    rw [if_pos rfl, if_pos rfl]
    cases ready : s.readyPlan with
    | none => exact ⟨rfl, rfl⟩
    | some p =>
      have plan := s.planMark_plan j b.planId p.id
      have mask := s.planMark_mask j b.planId p.id
      dsimp only
      by_cases equal : b.planId = p.id
      · rw [if_pos equal, if_pos equal, plan]
        refine ⟨rfl, ?_⟩
        rw [State.setPlan_mask, mask]
        rfl
      · rw [if_neg equal, if_neg equal]
        exact ⟨plan, mask⟩

/-- A TALLY touches the cells and the marks of the plan store alone (R98, R100). -/
theorem State.tallied_keeps (j : StationNo) (b : TallyBody) (s : State) :
    s.tallied j b = { s.plan with cells := (s.tallied j b).cells, marks := (s.tallied j b).marks } := by
  unfold State.tallied
  cases pairsGood b.pairs <;> cases s.readyPlan <;> rfl

/-- Settles O14: the table records the plan id, and the plan store's part by whether the list is good and the plan equal. -/
theorem tallyRaisesTheSendersColumn : Obligations.TallyRaisesTheSendersColumn := by
  intro t j p b s live listens peer body
  have line := State.listens_line listens
  generalize hu : ((s.advance t).received .tally).tableTake j false (fun e => { e with planId := b.planId }) false .other = u
  have total := State.received_take_mask t .tally j line false (fun e => { e with planId := b.planId }) false .other
  rw [hu] at total
  have e : exec (.tallyTaken t j p) s = .next (u.applyTally j b) := by
    rw [← hu]
    exact congrArg Host.Outcome.next (State.receive_peer (k := .tally) live listens peer body rfl)
  have plan : u.plan = s.plan := (State.plan_of_mask total :)
  have ready : u.readyPlan = s.readyPlan := by unfold State.readyPlan; rw [plan]
  obtain ⟨taken, masked⟩ := State.applyTally_eq j b u
  have store : u.tallied j b = s.tallied j b := by unfold State.tallied; rw [plan, ready]
  rw [store] at taken masked
  have masked := masked.trans (State.mask_setPlan total _)
  have own : (u.applyTally j b).own = s.own := congrArg Straps.number (State.straps_of_mask masked :)
  have cell (h : Nat) (i : StationNo) :
      (u.applyTally j b).cell h i = if i = s.own then s.ownCell h else columnAt (s.tallied j b).cells h i := by
    have column : (u.applyTally j b).ownCell h = s.ownCell h := by
      unfold State.ownCell
      rw [taken, State.tallied_keeps]
    rw [State.cell_eq, own, column, taken]
  refine ⟨_, e, ?_, fun r isReady equal good h i => ?_, fun none => ?_, fun good i => ?_, fun bad => ?_⟩
  · rw [taken, masked, State.tallied_keeps]
    rfl
  · obtain ⟨ordered, range⟩ := good
    rw [cell, State.cell_eq]
    unfold State.tallied
    rw [if_pos (pairsGood_iff.mpr ⟨ordered, range⟩), isReady]
    dsimp only
    rw [if_pos equal.symm, columnAt_mergePairs ordered range (readTally_mass body)]
    by_cases same : i = s.own
    · rw [if_pos same, if_pos same, if_neg (fun g => peer (g.1.symm.trans same))]
    · rw [if_neg same, if_neg same]
  · rw [taken]
    unfold State.tallied
    split
    · rename_i good
      split
      · rfl
      · rename_i r isReady
        obtain other | bad := none
        · exact if_neg (fun equal => other r isReady equal.symm)
        · exact absurd (pairsGood_iff.mp good) bad
    · rfl
  · have store : (u.applyTally j b).plan.marks[i] = (s.tallied j b).marks[i] := by rw [taken]
    rw [store]
    unfold State.tallied
    rw [if_pos (pairsGood_iff.mpr good)]
    cases s.readyPlan with
    | none => by_cases same : i = j <;> simp [same]
    | some r => exact PlanStore.marked_marks ..
  · rw [taken]
    unfold State.tallied
    rw [if_neg (fun good => bad (pairsGood_iff.mp good))]

end Sys2Proof.Machine
/-! ## Silence of the own line and of the machine (R37, R82, R129, R148) -/

namespace Sys2Proof.Machine

theorem State.handMachine_chokeEntry (f : MachineFrame) (s : State) :
    (s.handMachine f).machine.chokeEntry = s.machine.chokeEntry := by
  unfold State.handMachine; split <;> rfl

/-- The hold-off clamp starts no choke entry timer (R159). -/
theorem State.holdOffClamp_chokeEntry {s : State} (c : HoldOff) (stopped : s.machine.chokeEntry = none) :
    (s.holdOffClamp c).machine.chokeEntry = none := by
  unfold State.holdOffClamp
  split
  · dsimp only
    split
    · exact (State.handMachine_chokeEntry ..).trans rfl
    · exact stopped
  · exact stopped

theorem State.becomeSelfSilent_mask (s : State) : s.becomeSelfSilent.mask
    = { s with table := { s.table with selfSilent := true, watchDeadline := none } }.mask :=
  (refreshHeld_mask _).trans ((holdOffClamp_mask ..).trans (report_mask ..))

theorem State.becomeSelfSilent_gov {s : State} (unloader : s.isUnloader = true) :
    s.becomeSelfSilent.gov.feed = 0 ∧ s.becomeSelfSilent.gov.target = 0
      ∧ s.becomeSelfSilent.gov.bindTarget = .holdOff .selfSilent := by
  unfold State.becomeSelfSilent State.reportSelfSilent
  rw [State.refreshHeld_eq, State.report_eq]
  refine State.holdOffClamp_gov ?_ .selfSilent
  exact unloader

/-- What the machine interface and the share unit record at the silence of the machine (R148). -/
def State.unheardMachine (s : State) : State :=
  { s with
    machine := { s.machine with
      silent := true, silenceTimer := none, position := none, baseline := none, lastSeq := none
      chokeEntry := none, chokeRecovery := none }
    share := { s.share with feed := none } }

theorem State.becomeMachineSilent_eq (s : State) : s.becomeMachineSilent
    = ((s.unheardMachine.reportMachineSilent s.machine.lastSeq).holdOffClamp .machineSilent).refreshHeld.claimRetest := by
  unfold State.becomeMachineSilent State.reportMachineSilent
  rw [State.report_eq, State.report_eq]
  rfl

theorem State.becomeMachineSilent_mask (s : State) : s.becomeMachineSilent.mask = s.unheardMachine.mask := by
  rw [State.becomeMachineSilent_eq]
  exact (claimRetest_mask _).trans ((refreshHeld_mask _).trans ((holdOffClamp_mask ..).trans (report_mask ..)))

theorem State.becomeMachineSilent_gov {s : State} (unloader : s.isUnloader = true) :
    s.becomeMachineSilent.gov.feed = 0 ∧ s.becomeMachineSilent.gov.target = 0
      ∧ s.becomeMachineSilent.gov.bindTarget = .holdOff .machineSilent := by
  rw [State.becomeMachineSilent_eq, State.claimRetest_eq, State.refreshHeld_eq]
  unfold State.reportMachineSilent
  rw [State.report_eq]
  refine State.holdOffClamp_gov ?_ .machineSilent
  exact unloader

theorem State.becomeMachineSilent_chokeEntry (s : State) : s.becomeMachineSilent.machine.chokeEntry = none := by
  rw [State.becomeMachineSilent_eq, State.claimRetest_eq, State.refreshHeld_eq]
  unfold State.reportMachineSilent
  rw [State.report_eq]
  exact State.holdOffClamp_chokeEntry .machineSilent rfl

/-- Settles O24: what each expiry records by its mask, the feed by the hold-off clamp. -/
theorem silenceStopsTheFeed : Obligations.SilenceStopsTheFeed := by
  intro s live
  refine ⟨fun d due => ?_, fun stopped => ?_, fun d due => ?_, fun stopped => ?_⟩
  · refine ⟨(s.advance d).becomeSelfSilent, ?_, fun unloader => State.becomeSelfSilent_gov unloader,
      State.becomeSelfSilent_mask _⟩
    show Host.Outcome.next (s.expire s.table.watchDeadline _) = _
    rw [due, expire_run d _ s live]
  · show Host.Outcome.next (s.expire s.table.watchDeadline _) = _
    rw [stopped, expire_none]
  · refine ⟨(s.advance d).becomeMachineSilent, ?_, fun unloader => State.becomeMachineSilent_gov unloader,
      State.becomeMachineSilent_chokeEntry _, State.becomeMachineSilent_mask _⟩
    show Host.Outcome.next (s.expire s.machine.silenceTimer _) = _
    rw [due, expire_run d _ s live]
  · show Host.Outcome.next (s.expire s.machine.silenceTimer _) = _
    rw [stopped, expire_none]

end Sys2Proof.Machine
/-! ## Own HELLO, STATUS and BYE completions (R37, R38, R171, R173, R175, R176) -/

namespace Sys2Proof.Machine

/-! ### The judging of the transmit-fault count below the count that mutes (R19) -/

/-- Below the count that mutes, R19 leaves the table, the clock and whether the station is on the quay. -/
theorem State.judgeTxFaults_table {s : State} (low : s.link.txFaults < 160) :
    s.judgeTxFaults.table = s.table ∧ s.judgeTxFaults.now = s.now ∧ s.judgeTxFaults.onQuay = s.onQuay := by
  have drained (v : State) : v.drainTest.claimRetest.mask = v.mask := (claimRetest_mask _).trans (drainTest_mask _)
  have kept {v w : State} (masked : v.mask = w.mask) (table : w.table = s.table) (now : w.now = s.now)
      (on : w.onQuay = s.onQuay) : v.table = s.table ∧ v.now = s.now ∧ v.onQuay = s.onQuay :=
    ⟨(State.table_of_mask masked).trans table, (State.now_of_mask masked).trans now,
      (congrArg StationState.onQuay (State.stationState_of_mask masked)).trans on⟩
  unfold State.judgeTxFaults
  split
  · rename_i mutes
    simp only [Bool.and_eq_true, decide_eq_true_eq] at mutes
    omega
  · split
    · rename_i degrades
      refine kept ((drained _).trans (report_mask ..)) rfl rfl ?_
      rw [State.onQuay, State.onQuay, degrades.1]; rfl
    · split
      · rename_i recovers
        have told : State.mask ((s.setStation .active).reportLinkRecovered) = (s.setStation .active).mask := report_mask ..
        have sends : ((s.setStation .active).reportLinkRecovered).transmits = true :=
          congrArg StationState.transmits (State.stationState_of_mask told :)
        have tripped := State.tripAtActive_mask _ sends
        have on : (s.setStation .active).onQuay = s.onQuay := by
          rw [State.onQuay, State.onQuay, recovers.1]; rfl
        exact kept ((drained _).trans tripped) (State.table_of_mask told :) (State.now_of_mask told :)
          ((congrArg StationState.onQuay (State.stationState_of_mask told :)).trans on)
      · exact ⟨rfl, rfl, rfl⟩

/-! ### What each completion records -/

/-- An own STATUS that completes is recorded, and on the quay it is heard (R37, R38, R173). -/
theorem State.statusDone_mask (q : BitVec 8) (s : State) : (s.statusDone q).mask = { s with
    station := { s.station with lastSentSeq := some q }
    table := { s.table with
      lastStatusDone := some s.now
      watchDeadline := if s.onQuay then some (s.now + 1500) else s.table.watchDeadline
      selfSilent := if s.onQuay then false else s.table.selfSilent } }.mask := by
  unfold State.statusDone
  dsimp only
  have on : State.onQuay { s with
      station := { s.station with lastSentSeq := some q }
      table := { s.table with lastStatusDone := some s.now } } = s.onQuay := rfl
  rw [on]
  cases s.onQuay with
  | true => exact refreshHeld_mask _
  | false => rfl

theorem State.stationTimers_of_mask {s t : State} (h : s.mask = t.mask) :
    s.station.statusTimer = t.station.statusTimer ∧ s.station.listen = t.station.listen := by
  have e : s.mask.station = t.mask.station := by rw [h]
  exact ⟨(congrArg Station.statusTimer e :), (congrArg Station.listen e :)⟩

theorem State.capTimer_of_mask {s t : State} (h : s.mask = t.mask) : s.share.capTimer = t.share.capTimer := by
  have e : s.mask.share = t.mask.share := by rw [h]
  exact (congrArg Share.capTimer e :)

/-- What a station that has left the quay keeps and drops (R17, R45, R70, R175, R176). -/
theorem State.leftQuay_mask (s : State) : s.leftQuay.mask = s.enterOffline.mask := report_mask ..

theorem State.leftQuay_request (s : State) : s.leftQuay.claim.request = none := by
  unfold State.leftQuay State.reportLeftQuay
  rw [State.report_eq]

theorem State.leftQuay_gov (s : State) : s.leftQuay.gov = s.enterOffline.gov := by
  unfold State.leftQuay State.reportLeftQuay
  rw [State.report_eq]

theorem State.leftQuay_queues {s : State} (line : s.link.onLine = none) :
    s.leftQuay.link.urgent = [] ∧ s.leftQuay.link.normal = [] ∧ s.leftQuay.link.held = none := by
  have off : s.enterOffline.transmits = false :=
    congrArg StationState.transmits (State.stationState_of_mask s.enterOffline_mask :)
  obtain ⟨urgent, normal, held, -⟩ := (State.enterOffline_lineOk line).2.1 off
  have link : s.leftQuay.link = s.enterOffline.link := by
    unfold State.leftQuay State.reportLeftQuay
    rw [State.report_eq]
  rw [link]
  exact ⟨urgent, normal, held⟩

/-- Settles O19: R19 does not mute here, and each block's part is read off its mask. -/
theorem stationFramesComplete : Obligations.StationFramesComplete := by
  intro t acked a s live line faults
  let w := (s.advance t).counted (a.content.kind == .hello) acked
  have low : w.link.txFaults < 160 := by
    show s.link.txFaults - 1 < 160
    omega
  have idle : w.link.onLine = none := rfl
  have run {c : Instr} {k : Kind} (kind : a.content.kind = k) (h : c.frameDone = some (t, acked, [k])) :
      exec c s = .next (a.content.done w.judgeTxFaults) := by
    have e := exec_frameDone h live line (kind ▸ List.mem_singleton.mpr rfl)
    rwa [State.completed_counted] at e
  have stays (h : s.station.state ≠ .active) (h' : s.station.state ≠ .degraded) : w.judgeTxFaults = w :=
    State.judgeTxFaults_stays (fun _ => low) (fun e => absurd e h) (fun e => absurd e h')
  refine ⟨fun kind joining => ?_, fun b content => ?_, fun kind leaving => ?_⟩
  · refine ⟨_, run kind rfl, ?_⟩
    have hello : a.content.done = State.helloDone := by
      cases e : a.content with
      | hello => rfl
      | _ => rw [e] at kind; cases kind
    rw [hello, stays (by rw [joining]; decide) (by rw [joining]; decide)]
    unfold State.helloDone
    rw [if_pos (show w.station.state = .joining from joining)]
    rfl
  · refine ⟨_, run (k := .status) (by rw [content]; rfl) rfl, ?_⟩
    obtain ⟨table, now, on⟩ := State.judgeTxFaults_table low
    have masked := State.statusDone_mask b.seq w.judgeTxFaults
    have recorded := State.table_of_mask masked
    rw [table, now, on] at recorded
    rw [content]
    have field {α : Type} (f : Table → α) : f (w.judgeTxFaults.statusDone b.seq).table = f { s.table with
        lastStatusDone := some (max s.now t)
        watchDeadline := if s.onQuay then some (max s.now t + 1500) else s.table.watchDeadline
        selfSilent := if s.onQuay then false else s.table.selfSilent } := congrArg f recorded
    refine ⟨congrArg (fun u => u.station.lastSentSeq) masked, field (·.lastStatusDone), field (·.entries),
      fun quay => ⟨(field (·.selfSilent)).trans (if_pos quay), (field (·.watchDeadline)).trans (if_pos quay)⟩,
      fun away => ⟨(field (·.selfSilent)).trans (if_neg ?_), (field (·.watchDeadline)).trans (if_neg ?_)⟩⟩ <;>
    · rw [away]; decide
  · refine ⟨_, run kind rfl, ?_⟩
    have bye : a.content.done = State.leftQuay := by
      cases e : a.content with
      | bye => rfl
      | _ => rw [e] at kind; cases kind
    rw [bye, stays (by rw [leaving]; decide) (by rw [leaving]; decide)]
    have masked := w.leftQuay_mask.trans w.enterOffline_mask
    have table := State.table_of_mask masked
    obtain ⟨statusTimer, listen⟩ := State.stationTimers_of_mask masked
    obtain ⟨urgent, normal, held⟩ := w.leftQuay_queues idle
    refine ⟨(State.stationState_of_mask masked :), urgent, normal, held, statusTimer,
      listen, (congrArg Table.watchDeadline table :), (congrArg Table.selfSilent table :),
      (State.haltTimer_of_mask masked :), (State.capTimer_of_mask masked :), w.leftQuay_request, fun j => ?_,
      fun unloader => ⟨?_, ?_, ?_⟩, (State.ownHalt_of_mask masked :), (State.halts_of_mask masked :),
      (State.grant_of_mask masked :),
      (congrArg Table.entries table :), (State.config_of_mask masked :), (State.plan_of_mask masked :)⟩
    · have caps : w.leftQuay.share.intakeCaps = Vector.replicate 16 none := State.intakeCaps_of_mask masked
      rw [caps]
      exact Vector.getElem_replicate ..
    · rw [State.leftQuay_gov]; exact (w.enterOffline_gov unloader).1
    · refine (State.allowed_of_mask masked :).trans ?_
      show (if w.isUnloader then _ else w.gov : Governor).allowed = 0
      rw [if_pos (show w.isUnloader = true from unloader)]
    · refine (State.govTimer_of_mask masked :).trans ?_
      show (if w.isUnloader then _ else w.gov : Governor).timer = none
      rw [if_pos (show w.isUnloader = true from unloader)]

end Sys2Proof.Machine
/-! ## The own raise after a change of the view, whatever stands on the line (R43, R48, R50, R57, R116) -/

namespace Sys2Proof.Machine

/-! ### What stands after an offer and after the claim's test -/

/-- The content stands queued, or held behind the frame of its kind. -/
def Link.offers (c : Content) (l : Link) : Prop :=
  c ∈ l.normal ∨ (l.lineKind = some c.kind ∧ l.held = some c)

theorem Link.placeSingle_lineKind (c : Content) (l : Link) : (l.placeSingle c).lineKind = l.lineKind := by
  simp only [Link.lineKind, Link.placeSingle_onLine]

theorem Link.placeSingle_offers (c : Content) (l : Link) : (l.placeSingle c).offers c := by
  obtain ⟨held, queued⟩ := Link.placeSingle_stands c l
  by_cases own : l.lineKind = some c.kind
  · exact .inr ⟨(Link.placeSingle_lineKind c l).trans own, held own⟩
  · exact .inl (queued own)

theorem State.offerSingle_offers {s : State} (tx : s.transmits = true) (c : Content) : 
    (s.offerSingle c).link.offers c := by
  unfold State.offerSingle
  rw [if_pos tx]
  exact Link.placeSingle_offers ..

theorem State.offerRaise_offers {s : State} (tx : s.transmits = true) (x : Nat) :
    (s.offerRaise x).link.offers (.raise x s.share.grant) :=
  State.offerSingle_offers (s := s.setRaise (.queued x)) tx _

theorem Link.offers.lowerPending {l : Link} {g : Nat} (h : l.offers (.lower g)) : l.lowerPending g = true := by
  unfold Link.lowerPending Link.holds
  obtain queued | ⟨-, held⟩ := h
  · have found : (l.normal.any fun c => c == .lower g) = true := List.any_eq_true.mpr ⟨_, queued, beq_self_eq_true _⟩
    rw [found]; rfl
  · rw [held]; simp

theorem State.Spares.offers {k : Kind} {s t : State} (h : s.Spares k t) {c : Content} (hc : c.kind = k)
    (o : s.link.offers c) : t.link.offers c := by
  obtain queued | ⟨own, held⟩ := o
  · exact .inl ((h.normal c hc).mpr queued)
  · exact .inr ⟨h.line.trans own, h.held (own.trans (congrArg some hc)) c hc held⟩

/-- The claim unit's own test moves CLAIMs alone (R109, R112). -/
theorem State.Spares.claimTest {k : Kind} {s : State} (claim : k ≠ .claim) : s.Spares k s.claimRetest := by
  have placed (v : State) (c : Content) (hc : c.kind = .claim) : v.Spares k (v.offerSingle c) := by
    unfold State.offerSingle
    split
    · dsimp only
      rw [if_neg (by rw [hc]; decide)]
      obtain ⟨normal, held⟩ := State.Spares.placeSingle c (by rw [hc]; exact claim.symm) v.link
      exact ⟨normal, fun e f _ hf => (held e).trans hf, Link.placeSingle_lineKind ..⟩
    · exact .refl
  have offer (r : ClaimRequest) (v : State) : v.Spares k (v.offerClaim r) := (placed _ (.claim _) rfl).after rfl
  unfold State.claimRetest
  split
  · unfold State.examineRequest
    split
    · exact .refl
    · split
      · exact .frame rfl
      · exact (offer _ _).after rfl
  · unfold State.retestQueued
    split
    · exact .refl
    · split
      · exact (State.Spares.withdraw claim.symm).trans (.frame rfl)
      · split
        · split
          · exact .refl
          · exact offer _ _
        · exact offer _ _
  · exact .refl

/-! ### The tests that follow a change of the view -/

/-- The share unit of `w` stands in `t`, with its frames and its reports. -/
structure State.Beside (w t : State) : Prop where
  share : t.share = w.share
  poor : t.link.rxPoor = w.link.rxPoor
  spares : ∀ k : Kind, k ≠ .claim → k.listed = false → w.Spares k t
  reports : w.console.reports <+: t.console.reports

namespace State.Beside

variable {w t u : State}

theorem refl : w.Beside w := ⟨rfl, rfl, fun _ _ _ => .refl, List.prefix_rfl⟩

theorem trans (h : w.Beside t) (h' : t.Beside u) : w.Beside u :=
  ⟨h'.share.trans h.share, h'.poor.trans h.poor, fun k c l => (h.spares k c l).trans (h'.spares k c l),
    h.reports.trans h'.reports⟩

theorem claimRetest : w.Beside w.claimRetest := by
  have poor : w.claimRetest.mask.link.rxPoor = w.mask.link.rxPoor := by rw [claimRetest_mask]
  refine ⟨by rw [State.claimRetest_eq], poor, fun k claim _ => .claimTest claim, ?_⟩
  rw [State.claimRetest_eq]

theorem report (l : Level) (b : Source) (c : Nat) (as : List Nat) : w.Beside (w.report l b c as) := by
  refine ⟨by rw [State.report_eq], by rw [State.report_eq], fun _ _ _ => .report .., State.report_prefix ..⟩

/-- The mark of another plan (R100). -/
theorem planMark (j : StationNo) (id own : Nat) : w.Beside (w.planMark j id own) := by
  have marked (p : PlanStore) : w.Beside { w with plan := p } := ⟨rfl, rfl, fun _ _ _ => .frame rfl, List.prefix_rfl⟩
  unfold State.planMark
  split
  · exact marked _
  · split
    · exact refl
    · exact (marked _).trans (report ..)

theorem offerRecall (j : StationNo) (c : StartCause) (id : Nat) : w.Beside (w.offerRecall j c id) := by
  have listed (b : TallyBody) : w.Beside (w.offerListed (.recall j b)) := by
    unfold State.offerListed
    split
    · split
      · refine ⟨rfl, rfl, fun k _ single => ⟨fun f hf => ?_, fun _ _ _ e => e, rfl⟩, List.prefix_rfl⟩
        have other : f ≠ .recall j b := fun e => by
          rw [← hf, e] at single
          cases single
        simp [other]
      · exact report ..
    · exact refl
  unfold State.offerRecall
  split
  · split
    · exact listed _
    · exact refl
  · exact refl

end State.Beside

/-- The claim unit's tests after a change of the view: the own claim has yielded and no raise is left alive, or it has not
and the share unit stands (R113, R116). -/
def State.Tested (w t : State) : Prop :=
  (w.claim.phase ≠ .releasing ∧ t.claim.phase = .releasing ∧ t.share.raise.alive = false)
    ∨ ((t.claim.phase = .releasing ↔ w.claim.phase = .releasing) ∧ w.Beside t)

namespace State.Tested

variable {w t u : State}

theorem refl : w.Tested w := .inr ⟨Iff.rfl, .refl⟩

/-- What leaves the claim and the share unit. -/
theorem beside (h : w.Tested t) (b : t.Beside u) (phase : u.claim.phase = t.claim.phase) : w.Tested u := by
  obtain ⟨free, releasing, ended⟩ | ⟨same, stands⟩ := h
  · exact .inl ⟨free, phase.trans releasing, by rw [b.share]; exact ended⟩
  · exact .inr ⟨by rw [phase]; exact same, stands.trans b⟩

theorem claimRetest (h : w.Tested t) : w.Tested t.claimRetest := by
  by_cases releasing : t.claim.phase = .releasing
  · rwa [State.claimRetest_of_phase (.inr (by rw [releasing]; decide))]
  · obtain ⟨-, now, -⟩ | ⟨same, stands⟩ := h
    · exact absurd now releasing
    · exact .inr ⟨iff_of_false (State.claimRetest_not_releasing releasing) fun e => releasing (same.mpr e),
        stands.trans .claimRetest⟩

theorem conflictTest (h : w.Tested t) (f : Found) : w.Tested (t.conflictTest f) := by
  obtain e | ⟨free, c, j, k, e⟩ := State.conflictTest_cases f t <;> rw [e]
  · exact h
  · obtain ⟨share, phase⟩ := State.yieldClaim_eq c j k t
    obtain ⟨-, now, -⟩ | ⟨same, -⟩ := h
    · exact absurd now free
    · refine .inl ⟨fun e => free (same.mpr e), phase, ?_⟩
      rw [share]
      exact State.lowerRequest_alive (fun _ => rfl) 0 _

theorem planMark (h : w.Tested t) (j : StationNo) (id own : Nat) : w.Tested (t.planMark j id own) := by
  refine h.beside (.planMark j id own) ?_
  unfold State.planMark
  split
  · rfl
  · split
    · rfl
    · rw [State.reportPlanMismatch, State.report_eq]

theorem setPlan (h : w.Tested t) (p : PlanStore) : w.Tested { t with plan := p } :=
  h.beside ⟨rfl, rfl, fun _ _ _ => .frame rfl, List.prefix_rfl⟩ rfl

theorem applyStatusMass (h : w.Tested t) (j : StationNo) (b : StatusBody) : w.Tested (t.applyStatusMass j b) := by
  unfold State.applyStatusMass
  split
  · exact h
  · split
    · exact h
    · dsimp only
      split
      · exact (h.planMark ..).setPlan _
      · exact h.planMark ..

theorem offerRecall (h : w.Tested t) (j : StationNo) (c : StartCause) (id : Nat) : w.Tested (t.offerRecall j c id) := by
  refine h.beside (.offerRecall j c id) ?_
  unfold State.offerRecall State.offerListed
  split
  · split
    · split
      · split
        · rfl
        · rw [State.reportTxqFull, State.report_eq]
      · rfl
    · rfl
  · rfl

end State.Tested

/-! ### The examination under the new view -/

/-- A SETTLING raise abandoned: the share unit, its report, and the LOWER of a yield that can be sent (R50, R57). -/
theorem State.abandonSettling_yields {s : State} {x d : Nat} (settling : s.share.raise = .settling x d) (c : YieldCause) :
    (s.abandonSettling c).share = { s.share with raise := .none, yieldOwed := s.share.yieldOwed || s.transmits }
      ∧ (3 ≤ s.station.reportLevel → s.console.reports.length < 16 →
        ⟨.info, .share, 12, [BitVec.ofNat 32 x, BitVec.ofNat 32 c.code]⟩ ∈ (s.abandonSettling c).console.reports)
      ∧ (s.transmits = true → s.share.lowering = none → s.feedAtMost (s.share.grant + 10) = true →
        (s.abandonSettling c).link.offers (.lower s.share.grant)) := by
  obtain ⟨v, ended, shape, told⟩ := State.abandonSettling_eq settling c
  have share : v.share = { s.share with raise := .none, yieldOwed := s.share.yieldOwed || s.transmits } := by rw [shape]
  rw [ended]
  refine ⟨?_, fun level room => ?_, fun tx lowering feed => ?_⟩
  · split
    · exact (State.yieldTest_share v).trans share
    · exact share
  · have after : v.console.reports <+: (if s.transmits then v.yieldTest else v).console.reports := by
      split
      · exact (State.Reaches.refl.yieldTest).reports
      · exact List.prefix_refl _
    exact after.subset (told level room)
  · have grant : v.share.grant = s.share.grant := by rw [share]
    have tx' : v.transmits = true := by rw [shape]; exact tx
    have feed' : v.feedAtMost (v.share.grant + 10) = true := by rw [grant, State.feedAtMost, share]; exact feed
    rw [if_pos tx, State.yieldTest_owed (by rw [share, tx, Bool.or_true]) (by rw [share]; exact lowering) feed', grant]
    exact State.offerSingle_offers tx' _

/-- Under the view `r` and `c` of S and C the own raise of `s` stands as R48 and R50 leave it in `t`. -/
structure State.Reexamined (r c : Nat) (s t : State) : Prop where
  resv : t.share.resv = r
  capacity : t.share.capacity = c
  idle : s.share.raise = .none ∨ (∃ b, s.share.raise.isSending b = true) →
    t.share.raise = s.share.raise ∧ t.share.yieldOwed = s.share.yieldOwed
  fits : ∀ x d, s.share.raise = .settling x d → r + x ≤ c →
    t.share.raise = .settling x d ∧ t.share.yieldOwed = s.share.yieldOwed
  yields : ∀ x d, s.share.raise = .settling x d → c < r + x →
    t.share.raise = .none ∧ t.share.yieldOwed = (s.share.yieldOwed || s.transmits)
      ∧ (3 ≤ s.station.reportLevel → s.console.reports.length < 16 →
        ⟨.info, .share, 12, [BitVec.ofNat 32 x, 1#32]⟩ ∈ t.console.reports)
      ∧ (s.transmits = true → s.share.lowering = none → s.feedAtMost (s.share.grant + 10) = true →
        t.link.offers (.lower s.share.grant))
  stands : ∀ old, s.share.raise = .queued old → (s.viewed r c).raiseStands →
    ∃ target : Nat, (target : Int) = s.share.grant + (s.viewed r c).increment
      ∧ t.share.raise = .queued target ∧ (target ≠ old → t.link.offers (.raise target s.share.grant))
  ends : ∀ old, s.share.raise = .queued old → ¬ (s.viewed r c).raiseStands →
    t.share.raise = .none ∧ ∀ f ∈ t.link.normal, f.kind ≠ .raise

theorem State.reexamined (r c : Nat) (s : State) : State.Reexamined r c s (s.examined r c) := by
  have view : (s.examined r c).view = (s.viewed r c).view :=
    (State.Signalled.refl.reviewRaise false).settleConflict.view
  constructor
  case resv => exact congrArg View.resv view
  case capacity => exact congrArg View.capacity view
  case idle =>
    intro idle
    rw [State.examined_of_idle]
    · exact ⟨rfl, rfl⟩
    all_goals
      obtain none | ⟨b, sending⟩ := idle
      · rw [none]; rfl
      · cases raise : s.share.raise with
        | sending => rfl
        | _ => rw [raise] at sending; cases sending
  case fits =>
    intro x d settling fits
    rw [State.examined_settling r c settling, if_neg (Nat.not_lt.mpr fits)]
    exact ⟨settling, rfl⟩
  case yields =>
    intro x d settling short
    obtain ⟨share, told, lower⟩ := State.abandonSettling_yields (s := s.viewed r c) settling .conflict
    rw [State.examined_settling r c settling, if_pos short]
    exact ⟨by rw [share], by rw [share]; rfl, told, lower⟩
  case stands =>
    intro old queued stands
    have review := State.reviewRaise_stands (s := s.viewed r c) queued stands
    have room : 10 ≤ (s.viewed r c).increment := stands.2.2.2.2
    rw [State.examined_queued r c queued, review]
    refine ⟨s.share.grant + (s.viewed r c).increment.toNat, by omega, ?_⟩
    split
    · rename_i same
      exact ⟨queued.trans (congrArg Raise.queued same.symm), fun moved => absurd same moved⟩
    · exact ⟨by rw [State.offerRaise_share]; rfl, fun _ =>
        State.offerRaise_offers (s := s.viewed r c) (State.transmits_of_active stands.2.2.1) _⟩
  case ends =>
    intro old queued falls
    rw [State.examined_queued r c queued, State.reviewRaise_ends (s := s.viewed r c) queued falls]
    refine ⟨rfl, fun f hf => ?_⟩
    simp only [State.setRaise, State.withdraw, Link.withdraw, List.mem_filter, bne_iff_ne, ne_eq] at hf
    exact hf.2

/-! ### The raise between the state before a change and the state after its tests -/

/-- `t` comes of `u` by the tests alone, or by the recomputation and then the tests (R25, R43). -/
def State.Retested (u t : State) : Prop := u.Tested t ∨ u.recompute.Tested t

theorem State.Retested.map {u t v : State} (h : u.Retested t) (step : ∀ w : State, w.Tested t → w.Tested v) :
    u.Retested v :=
  h.imp (step u) (step u.recompute)

theorem State.tableChanged_retested (f : Found) (u : State) : u.Retested (u.tableChanged f) :=
  .inr (State.Tested.refl.claimRetest.conflictTest f)

theorem State.signalIfChanged_retested (old : PeerEntry) (j : StationNo) (f : Found) (u : State) :
    u.Retested (u.signalIfChanged old j f) := by
  unfold State.signalIfChanged
  split
  · exact u.tableChanged_retested f
  · exact .inl .refl

/-- What the examination of the own raise and the tests read of the state before the change stood in `u`. -/
structure State.Poised (s u : State) : Prop where
  share : u.share = s.share
  gov : u.gov = s.gov
  station : u.station = s.station
  phase : u.claim.phase = .releasing ↔ s.claim.phase = .releasing
  room : s.console.reports.length ≤ 10 → u.console.reports.length < 16

namespace State.Poised

variable {s u w t : State}

/-- A claim that has yielded leaves no raise alive (R116). -/
theorem yielded (h : s.Poised u) (claim : w.claim = u.claim)
    (ended : w.claim.phase ≠ .releasing ∧ t.claim.phase = .releasing ∧ t.share.raise.alive = false) :
    s.raiseFollowsView t := by
  obtain ⟨free, releasing, ended⟩ := ended
  rw [claim] at free
  have yields : s.claim.phase ≠ .releasing ∧ t.claim.phase = .releasing := ⟨fun e => free (h.phase.mpr e), releasing⟩
  exact ⟨fun _ => ended, fun no => absurd yields no, fun no => absurd yields no, fun no => absurd yields no⟩

theorem not_yields (h : s.Poised u) (claim : w.claim = u.claim)
    (same : t.claim.phase = .releasing ↔ w.claim.phase = .releasing) :
    ¬ (s.claim.phase ≠ .releasing ∧ t.claim.phase = .releasing) := fun ⟨no, yes⟩ =>
  no (h.phase.mp (claim ▸ same.mp yes))

/-- A view that stands leaves the raise. -/
theorem unmoved (h : s.Poised u) (tested : u.Tested t) : s.raiseFollowsView t := by
  obtain ended | ⟨same, beside⟩ := tested
  · exact h.yielded rfl ended
  · have still : t.share = s.share := beside.share.trans h.share
    have fixed : ¬ (t.share.resv ≠ s.share.resv ∨ t.share.capacity ≠ s.share.capacity) := by rw [still]; simp
    exact ⟨fun yes => absurd yes (h.not_yields rfl same), fun _ _ => by rw [still]; exact ⟨rfl, rfl⟩,
      fun _ moved => absurd moved fixed, fun _ moved => absurd moved fixed⟩

theorem viewed_increment (h : s.Poised u) (r c : Nat) : (u.viewed r c).increment
    = min (min ((s.gov.allowed : Int) - s.share.grant) 200) ((c : Int) - r - s.share.grant) := by
  rw [← h.gov, ← h.share]; rfl

theorem viewed_stands (h : s.Poised u) (r c : Nat) : (u.viewed r c).raiseStands ↔
    s.halted = false ∧ s.share.lowering = none ∧ s.station.state = .active ∧ u.link.rxPoor = false
      ∧ 10 ≤ (u.viewed r c).increment := by
  have halted : s.halted = u.halted := congrArg (fun v : Share => v.halts != 0#16) h.share.symm
  rw [halted, ← h.share, ← h.station]; exact Iff.rfl

/-- A view that has moved: R48 and R50, and then the tests. -/
theorem moved (h : s.Poised u) {r c : Nat} (stale : ¬ (r = u.share.resv ∧ c = u.share.capacity))
    (tested : (u.examined r c).Tested t) : s.raiseFollowsView t := by
  have claim : (u.examined r c).claim = u.claim := (State.examined_onlyRaise r c).claim
  obtain ended | ⟨same, beside⟩ := tested
  · exact h.yielded claim ended
  have follows := u.reexamined r c
  have resv : t.share.resv = r := (congrArg Share.resv beside.share).trans follows.resv
  have capacity : t.share.capacity = c := (congrArg Share.capacity beside.share).trans follows.capacity
  have examined : (u.examined r c).link.rxPoor = u.link.rxPoor :=
    congrArg (fun v => v.link.rxPoor) (State.examined_mask r c)
  have poor : t.link.rxPoor = u.link.rxPoor := beside.poor.trans examined
  have sends : u.transmits = s.transmits := congrArg (fun v => v.state.transmits) h.station
  have stands := h.viewed_stands r c
  rw [h.viewed_increment, ← poor] at stands
  have offered {k : Kind} {f : Content} (kind : f.kind = k) (claim : k ≠ .claim) (listed : k.listed = false)
      (o : (u.examined r c).link.offers f) : t.link.offers f := (beside.spares k claim listed).offers kind o
  have changed : r ≠ s.share.resv ∨ c ≠ s.share.capacity := by
    rw [← h.share]
    by_contra both
    simp only [not_or, ne_eq, Decidable.not_not] at both
    exact stale both
  have share := h.share
  unfold State.raiseFollowsView
  dsimp only
  rw [resv, capacity, beside.share]
  refine ⟨fun yes => absurd yes (h.not_yields claim same), fun _ still => ?_, fun _ _ x d settling => ?_,
    fun _ _ old queued => ?_⟩
  · have idle := follows.idle (share ▸ still.resolve_left (not_not_intro changed))
    rwa [share] at idle
  · rw [← share] at settling ⊢
    refine ⟨fun fits => follows.fits x d settling fits, fun short => ?_⟩
    obtain ⟨ended, owed, told, lower⟩ := follows.yields x d settling short
    rw [sends] at owed lower
    rw [h.station] at told
    refine ⟨ended, owed, fun level few => beside.reports.subset (told level (h.room few)), fun tx lowering feed => ?_⟩
    obtain ⟨f, measured, small⟩ := feed
    refine (offered (k := .lower) rfl nofun rfl (lower tx lowering ?_)).lowerPending
    rw [State.feedAtMost, measured]
    exact decide_eq_true small
  · rw [← share] at queued
    refine ⟨fun stood => ?_, fun falls => ?_⟩
    · obtain ⟨target, value, raise, moved⟩ := follows.stands old queued (stands.mpr stood)
      rw [h.viewed_increment, share] at value
      rw [share] at moved
      exact ⟨target, value, raise, fun ne => (offered (k := .raise) rfl nofun rfl (moved ne)).imp_right And.right⟩
    · obtain ⟨ended, gone⟩ := follows.ends old queued fun k => falls (stands.mp k)
      refine ⟨ended, fun f hf isRaise => gone f ?_ isRaise⟩
      exact ((beside.spares .raise (by decide) rfl).normal f isRaise).mp hf

end State.Poised

/-- The own raise follows the view where the share unit, the governor, the station and the claim's yield stood before the
change, and the report queue had room (R43, R48, R50, R116). -/
theorem State.Retested.follows {s u t : State} (h : u.Retested t) (poised : s.Poised u) : s.raiseFollowsView t := by
  obtain h | h := h
  · exact poised.unmoved h
  · rw [State.recompute_examined] at h
    split at h
    · exact poised.unmoved h
    · rename_i stale
      exact poised.moved stale h

end Sys2Proof.Machine
/-! ## The timers of a peer's entry (R27, R28, R33) -/

namespace Sys2Proof.Machine

/-- An entry replaced at a timer, with at most one report before the change signal. -/
structure State.EntryTimed (j : StationNo) (x : PeerEntry) (d : Nat) (s u : State) : Prop where
  masked : u.mask = ((s.advance d).setEntry j x).mask
  poised : s.Poised u

/-- The change signal of a timer leaves the entry, and the own raise follows the view (R25, R43). -/
theorem State.EntryTimed.changed {j : StationNo} {x : PeerEntry} {d : Nat} {s u : State} (h : s.EntryTimed j x d u)
    (f : Found) : s.raiseFollowsView (u.tableChanged f) ∧ (u.tableChanged f).mask = { s with
      now := max s.now d, table := { s.table with entries := s.table.entries.set j.val x j.isLt } }.mask :=
  ⟨(u.tableChanged_retested f).follows h.poised, (tableChanged_mask f u).trans h.masked⟩

theorem State.EntryTimed.setEntry (j : StationNo) (x : PeerEntry) (d : Nat) (s : State) :
    s.EntryTimed j x d ((s.advance d).setEntry j x) :=
  ⟨rfl, ⟨rfl, rfl, rfl, Iff.rfl, fun few => Nat.lt_of_le_of_lt few (by decide)⟩⟩

theorem State.EntryTimed.report {j : StationNo} {x : PeerEntry} (d : Nat) (s : State) (l : Level) (b : Source) (c : Nat)
    (as : List Nat) : s.EntryTimed j x d (((s.advance d).setEntry j x).report l b c as) := by
  refine ⟨report_mask .., ⟨?_, ?_, ?_, ?_, fun few => ?_⟩⟩
  case refine_5 =>
    have := State.report_length_le l b c as ((s.advance d).setEntry j x)
    have same : ((s.advance d).setEntry j x).console = s.console := rfl
    rw [same] at this
    omega
  all_goals
    rw [State.report_eq]
    rfl

/-- Settles O23: each timer replaces one entry; the rest is its change signal. -/
theorem peerTimersChangeTheEntry : Obligations.PeerTimersChangeTheEntry := by
  intro j s live
  have run {c : Instr} {due : Option Nat} {d : Nat} {f : State → State} (e : exec c s = .next (s.expire due f))
      (h : due = some d) : exec c s = .next (f (s.advance d)) := by
    rw [e, h, expire_run d _ s live]
  have stopped {c : Instr} {due : Option Nat} {f : State → State} (e : exec c s = .next (s.expire due f))
      (h : due = none) : exec c s = .next s := by
    rw [e, h, expire_none]
  refine ⟨fun present => ?_, fun absent => stopped rfl (if_neg absent), fun silent => ?_,
    fun other => stopped rfl (if_neg other), fun r pending => ?_, fun none => stopped rfl ?_⟩
  · exact ⟨_, run rfl (if_pos present), (State.EntryTimed.setEntry j _ _ s).changed .other⟩
  · exact ⟨_, run rfl (if_pos silent), (State.EntryTimed.report _ s ..).changed .other⟩
  · refine ⟨_, run (d := r.heard + Config.pendingRaiseLife) rfl ?_, (State.EntryTimed.setEntry j _ _ s).changed .other⟩
    unfold State.raiseDue
    rw [pending]
  · unfold State.raiseDue
    rw [none]

end Sys2Proof.Machine
/-! ## RAISE, LOWER, CLAIM, RELEASE and BYE of a peer (R26, R28, R29, R30, R33, R34, R48, R50) -/

namespace Sys2Proof.Machine

/-! ### The own raise after a frame in range -/

/-- The table takes a frame: the tests follow from a state in which the raise stood as before the frame. -/
theorem State.received_take_retested {s : State} (t : Nat) (k : Kind) (line : s.link.onLine = none) (j : StationNo)
    (bye : Bool) (record : PeerEntry → PeerEntry) (check : Bool) (f : Found) : ∃ u : State, s.Poised u
      ∧ u.Retested (((s.advance t).received k).tableTake j bye record check f) := by
  obtain ⟨share, gov, station, -, -, console⟩ := State.received_same t k line
  have phase := State.received_phase t k s
  have counted := State.heardConsole_length_le s
  rw [← console] at counted
  generalize (s.advance t).received k = w at share gov station phase counted ⊢
  obtain ⟨c, e, -, short⟩ := State.tableTake_eq j bye record check f w
  refine ⟨{ w.setEntry j (w.takenEntry j bye record check) with console := c },
    ⟨share, gov, station, phase, fun few => ?_⟩, ?_⟩
  · show c.reports.length < 16
    omega
  · rw [e]
    exact State.signalIfChanged_retested ..

/-- What a frame in range that the tests alone follow leaves (R25). -/
theorem State.takes_of_tests {s : State} {t : Nat} {k : Kind} {j : StationNo} {c : Instr} {bye : Bool}
    {record : PeerEntry → PeerEntry} {check : Bool} {f : Found} {x : PeerEntry} (line : s.link.onLine = none)
    (after : State → State) (tests : ∀ w v : State, w.Tested v → w.Tested (after v))
    (masked : ∀ v : State, (after v).mask = v.mask)
    (e : exec c s = .next (after (((s.advance t).received k).tableTake j bye record check f)))
    (entry : (s.advance t).takenEntry j bye record check = x) :
    ∃ s', exec c s = .next s' ∧ s.raiseFollowsView s' ∧ s'.mask = (s.recorded t k j x).mask := by
  obtain ⟨u, poised, retested⟩ := State.received_take_retested t k line j bye record check f
  exact ⟨_, e, (retested.map fun w h => tests w _ h).follows poised,
    (masked _).trans (entry ▸ State.received_take_mask t k j line bye record check f)⟩

/-- A RELEASE removes the claim it names (R34). -/
theorem PeerEntry.recordRelease_eq (hold slot : Nat) (e : PeerEntry) : e.recordRelease hold slot = { e with
    claim := if e.claim.map (fun c => (c.hold, c.slot)) = some (hold, slot) then none else e.claim } := by
  have left (h : e.claim.map (fun c => (c.hold, c.slot)) ≠ some (hold, slot)) : e = { e with
      claim := if e.claim.map (fun c => (c.hold, c.slot)) = some (hold, slot) then none else e.claim } := by
    rw [if_neg h]
  have named : e.claims hold slot = true ↔ e.claim.map (fun c => (c.hold, c.slot)) = some (hold, slot) := by
    unfold PeerEntry.claims
    cases e.claim <;> simp
  unfold PeerEntry.recordRelease
  split
  · rename_i names
    rw [if_pos (named.mp names)]
  · rename_i other
    exact left fun h => other (named.mpr h)

/-- Settles O13: each frame by the entry it records and the tests that follow. -/
theorem shareAndClaimFramesRecordTheEntry : Obligations.ShareAndClaimFramesRecordTheEntry := by
  intro t j p s live listens peer
  have line := State.listens_line listens
  have now (k : Kind) : ((s.advance t).received k).now = max s.now t := State.received_now t k line
  have taken {α : Type} {k : Kind} {dest : Nat} {read : Option α} {b : α} {apply : α → State → State}
      {c : Instr} {v : State} (body : read = some b) (permits : k.permits dest = true)
      (e : exec c s = .next (s.live t (·.receive j k dest read apply))) (h : apply b ((s.advance t).received k) = v) :
      exec c s = .next v := by
    rw [e, State.receive_peer live listens peer body permits, h]
  refine ⟨fun target current body fits fits' => ?_, fun grant body fits => ?_, fun b body h1 h12 l1 l2 near far => ?_,
    fun hold slot body h1 h12 l1 l2 => ?_, fun body => ?_⟩
  · refine State.takes_of_tests line id (fun _ _ h => h) (fun _ => rfl)
      (record := (·.recordRaise target current (max s.now t))) (bye := false) (check := false) (f := .other) (taken body rfl rfl ?_) rfl
    unfold State.applyRaise
    rw [if_pos (by rw [Bool.and_eq_true, grantGood_iff, grantGood_iff]; exact ⟨fits, fits'⟩), now]
    rfl
  · refine State.takes_of_tests line id (fun _ _ h => h) (fun _ => rfl) (record := (·.recordLower grant))
      (bye := false) (check := false) (f := .other) (taken body rfl rfl ?_) rfl
    exact if_pos (grantGood_iff.mpr fits)
  · refine State.takes_of_tests line (fun v => v.claimRetest.conflictTest (.claimOf j))
      (fun _ _ h => h.claimRetest.conflictTest _) (fun _ => (conflictTest_mask ..).trans (claimRetest_mask _))
      (record := (·.recordClaim b (max s.now t))) (bye := false) (check := false) (f := .claimOf j)
      (taken body rfl rfl ?_) rfl
    unfold State.applyClaim
    rw [if_pos (ClaimBody.good_iff.mpr ⟨⟨h1, h12, l1, l2⟩, near, far⟩), now]
  · refine State.takes_of_tests line State.claimRetest (fun _ _ h => h.claimRetest) (fun _ => claimRetest_mask _)
      (record := (·.recordRelease hold slot)) (bye := false) (check := false) (f := .other) (taken body rfl rfl ?_)
      (PeerEntry.recordRelease_eq ..)
    exact if_pos (slotGood_iff.mpr ⟨h1, h12, l1, l2⟩)
  · refine State.takes_of_tests line id (fun _ _ h => h) (fun _ => rfl) (record := id)
      (bye := true) (check := false) (f := .other) (taken body rfl rfl ?_) rfl
    exact if_pos rfl

end Sys2Proof.Machine
/-! ## STATUS of a peer (R32 to R36, R39, R99, R100) -/

namespace Sys2Proof.Machine

theorem readStatus_mass {p : Bytes} {b : StatusBody} (h : readStatus p = some b) : b.mass ≤ Config.massMax := by
  unfold readStatus at h
  split at h
  · cases h; exact Nat.le_of_lt_succ (read4_lt ..)
  · cases h

/-! ### The entry (R32 to R36, R39) -/

/-- The mark after the check of R39 for an unloader with a belt and a capacity. -/
theorem PeerEntry.checkedMark_unloader {config : Option ConfigRecord} {belt b : Belt} {e : PeerEntry}
    (role : e.role = some .unloader) (known : e.belt = some b) (announced : e.capacity ≠ 0) :
    e.checkedMark config belt = match config with
      | none => e.mismatch
      | some c => if b = belt ∧ e.capacity ≠ c.capacity then some e.capacity else none := by
  unfold PeerEntry.checkedMark
  rw [role, known]
  cases config with
  | none => rfl
  | some c => exact if_neg announced

/-- An entry of another role keeps its mark. -/
theorem PeerEntry.checkedMark_of_role {config : Option ConfigRecord} {belt : Belt} {e : PeerEntry}
    (role : e.role ≠ some .unloader) : e.checkedMark config belt = e.mismatch := by
  unfold PeerEntry.checkedMark
  split
  · rename_i unloader _; exact absurd unloader role
  · rfl

theorem statusRaise_eq (target t : Nat) (old : Option PendingRaise) : statusRaise target t old =
    if target = 0 then none else if old.map (fun r => r.target) = some target then old else some ⟨target, t⟩ := by
  cases old with
  | none => rfl
  | some r => simp only [statusRaise, Option.map_some, Option.some.injEq]

/-- What a STATUS in range leaves in its sender's entry (R26, R32 to R36, R39). -/
theorem State.takenEntry_status {b : StatusBody} (announced : b.capacity ≠ 0) (j : StationNo) (pos : Option Nat)
    (now : Nat) (s : State) (same : s.now = now) :
    s.takenEntry j false (·.recordStatus b pos now) true =
      { presence := .present, role := some b.role, belt := some b.belt, cause := (s.entry j).cause, lastStatus := some b
        grant := b.grant
        raise := if b.raiseTarget = 0 then none
          else if (s.entry j).raise.map (fun r => r.target) = some b.raiseTarget then (s.entry j).raise
          else some ⟨b.raiseTarget, now⟩
        claim := statusClaim b pos now (s.entry j).claim
        position := if b.role = .intake then none else b.position
        planId := b.planId, capacity := b.capacity
        mismatch := if b.role = .intake then none else match s.station.config with
          | none => (s.entry j).mismatch
          | some cfg => if b.belt = s.station.straps.belt ∧ b.capacity ≠ cfg.capacity then some b.capacity else none
        lastHeard := now, lastSeq := some b.seq
        missed := match if (s.entry j).presence = .present then (s.entry j).lastSeq else none with
          | none => (s.entry j).missed
          | some q => min 65535 ((s.entry j).missed + if b.seq = q then 0 else (b.seq - q - 1#8).toNat) } := by
  subst same
  have missed (l : Option (BitVec 8)) (m : Nat) : (match l with
      | some q => holdAt Config.countMax m (seqGap q b.seq)
      | none => m) = match l with
      | none => m
      | some q => min 65535 (m + if b.seq = q then 0 else (b.seq - q - 1#8).toNat) := by
    cases l <;> rfl
  unfold State.takenEntry
  rw [if_pos rfl, ← statusRaise_eq, ← missed]
  cases role : b.role with
  | unloader =>
    rw [PeerEntry.checked_of_mark (PeerEntry.checkedMark_unloader (b := b.belt) ?_ ?_ ?_)]
    · simp only [PeerEntry.recordStatus, role, reduceCtorEq, if_false]
      rfl
    all_goals simp [PeerEntry.recordStatus, role, announced]
  | intake =>
    rw [PeerEntry.checked_of_mark (PeerEntry.checkedMark_of_role ?_)]
    · simp only [PeerEntry.recordStatus, role, if_true]
      rfl
    · simp [PeerEntry.recordStatus, role]

/-! ### The plan store (R99, R100) -/

/-- The mass of a STATUS counts under this READY plan: an equal plan id and a hold of the plan (R99). -/
def StatusBody.counts (b : StatusBody) : Option PlanRecord → Bool
  | some r => decide (b.planId = r.id ∧ b.planId ≠ 0 ∧ 1 ≤ b.hold ∧ b.hold ≤ r.count)
  | none => false

/-- The plan store after the mass of a STATUS (R99, R100). -/
def State.massed (j : StationNo) (b : StatusBody) (s : State) : PlanStore :=
  match s.readyPlan with
  | none => s.plan
  | some p =>
    if b.hold = 0 ∧ b.planId ≠ p.id then s.plan
    else { s.plan.marked j b.planId p.id with
      cells := if b.planId = p.id ∧ b.planId ≠ 0 ∧ 1 ≤ b.hold ∧ b.hold ≤ p.count
        then raiseCell s.plan.cells b.hold j b.mass else s.plan.cells }

theorem State.applyStatusMass_eq (j : StationNo) (b : StatusBody) (s : State) :
    (s.applyStatusMass j b).plan = s.massed j b ∧ (s.applyStatusMass j b).mask = { s with plan := s.massed j b }.mask := by
  unfold State.applyStatusMass State.massed
  cases ready : s.readyPlan with
  | none => exact ⟨rfl, rfl⟩
  | some p =>
    dsimp only
    by_cases passes : b.hold = 0 ∧ b.planId ≠ p.id
    · rw [if_pos passes, if_pos passes]
      exact ⟨rfl, rfl⟩
    · rw [if_neg passes, if_neg passes]
      have plan := s.planMark_plan j b.planId p.id
      have mask := s.planMark_mask j b.planId p.id
      by_cases counts : b.planId = p.id ∧ b.planId ≠ 0 ∧ 1 ≤ b.hold ∧ b.hold ≤ p.count
      · rw [if_pos counts, if_pos counts, plan]
        exact ⟨rfl, State.mask_setPlan mask _⟩
      · rw [if_neg counts, if_neg counts]
        exact ⟨plan, mask⟩

/-- A STATUS touches the cells and the marks of the plan store alone (R99, R100). -/
theorem State.massed_keeps (j : StationNo) (b : StatusBody) (s : State) :
    s.massed j b = { s.plan with cells := (s.massed j b).cells, marks := (s.massed j b).marks } := by
  unfold State.massed
  split
  · rfl
  · split <;> rfl

theorem State.massed_cells (s : State) (j : StationNo) (b : StatusBody) : (s.massed j b).cells =
    if b.counts s.readyPlan = true then raiseCell s.plan.cells b.hold j b.mass else s.plan.cells := by
  unfold State.massed
  cases s.readyPlan with
  | none => rfl
  | some p =>
    simp only [StatusBody.counts, decide_eq_true_eq]
    by_cases passes : b.hold = 0 ∧ b.planId ≠ p.id
    · rw [if_pos passes, if_neg (fun counts => passes.2 counts.1)]
    · rw [if_neg passes]

theorem StatusBody.counts_hold {b : StatusBody} {r : Option PlanRecord} (h : b.counts r = true) : 1 ≤ b.hold := by
  cases r with
  | none => cases h
  | some r =>
    obtain ⟨-, -, least, -⟩ := of_decide_eq_true h
    exact least

/-- The one cell the mass of a STATUS raises (R94, R99). -/
theorem State.massed_column {b : StatusBody} (fits : b.mass ≤ Config.massMax) (low : b.hold ≤ 12) (s : State) (h : Nat)
    (i j : StationNo) : columnAt (s.massed j b).cells h i =
      if b.counts s.readyPlan = true ∧ h = b.hold ∧ i = j then max (columnAt s.plan.cells h i) b.mass
      else columnAt s.plan.cells h i := by
  rw [State.massed_cells]
  by_cases counts : b.counts s.readyPlan = true
  · rw [if_pos counts, columnAt_raiseCell ⟨StatusBody.counts_hold counts, low⟩ fits]
    simp only [counts, true_and]
  · rw [if_neg counts, if_neg (fun g => counts g.1)]

theorem State.massed_marks (s : State) (i j : StationNo) (b : StatusBody) : (s.massed j b).marks[i] =
    if i ≠ j then s.plan.marks[i] else match s.readyPlan with
      | none => s.plan.marks[j]
      | some r => if b.planId = r.id then none
        else if b.hold ≠ 0 ∧ b.planId ≠ 0 then some b.planId else s.plan.marks[j] := by
  unfold State.massed
  cases s.readyPlan with
  | none => by_cases same : i = j <;> simp [same]
  | some p =>
    dsimp only
    by_cases passes : b.hold = 0 ∧ b.planId ≠ p.id
    · rw [if_pos passes, if_neg passes.2, if_neg (c := b.hold ≠ 0 ∧ b.planId ≠ 0) (fun g => g.1 passes.1)]
      by_cases same : i = j <;> simp [same]
    · rw [if_neg passes]
      refine (PlanStore.marked_marks s.plan i j b.planId p.id).trans ?_
      by_cases equal : b.planId = p.id
      · rw [if_pos equal, if_pos equal]
      · have held : b.hold ≠ 0 := fun none => passes ⟨none, equal⟩
        rw [if_neg equal, if_neg equal]
        simp only [ne_eq, held, not_false_eq_true, true_and]

/-- Settles O12: the entry as R32 to R36 record it, its tests, and the plan store's part by whether the mass counts. -/
theorem statusRecordsTheEntryAndTheMass : Obligations.StatusRecordsTheEntryAndTheMass := by
  intro t j p b s live listens peer body low high position hold slot zero grant target least most
  have line := State.listens_line listens
  have now : ((s.advance t).received .status).now = max s.now t := State.received_now t .status line
  obtain ⟨-, -, -, -, plan, -⟩ := State.received_same t .status line
  have pos : ((s.advance t).received .status).planPos b.hold b.slot = s.planPos b.hold b.slot := by
    unfold State.planPos State.readyPlan; rw [plan]
  have good : b.good = true :=
    StatusBody.good_iff.mpr ⟨low, high, position, hold, slot, zero, grant, target, least, most⟩
  generalize hu : (((s.advance t).received .status).tableTake j false
    (·.recordStatus b (s.planPos b.hold b.slot) (max s.now t)) true .other).conflictTest .other = u
  have e : exec (.statusTaken t j p) s = .next (u.applyStatusMass j b) := by
    have taken : ((s.advance t).received .status).applyStatus j b = u.applyStatusMass j b := by
      unfold State.applyStatus
      rw [if_pos good, pos, now, hu]
    rw [← taken]
    exact congrArg Host.Outcome.next (State.receive_peer (k := .status) live listens peer body rfl)
  have total := (conflictTest_mask .other _).trans (State.received_take_mask t .status j line false
    (·.recordStatus b (s.planPos b.hold b.slot) (max s.now t)) true .other)
  rw [hu, State.takenEntry_status (by omega) j _ (max s.now t) (s.advance t) rfl] at total
  have plan : u.plan = s.plan := (State.plan_of_mask total :)
  have ready : u.readyPlan = s.readyPlan := by unfold State.readyPlan; rw [plan]
  obtain ⟨taken, masked⟩ := State.applyStatusMass_eq j b u
  have store : u.massed j b = s.massed j b := by unfold State.massed; rw [plan, ready]
  rw [store] at taken masked
  have masked := masked.trans (State.mask_setPlan total _)
  have own : (u.applyStatusMass j b).own = s.own := congrArg Straps.number (State.straps_of_mask masked :)
  obtain ⟨v, poised, retested⟩ := State.received_take_retested t .status line j false
    (·.recordStatus b (s.planPos b.hold b.slot) (max s.now t)) true .other
  refine ⟨_, e, ?_, ?_, fun h i => ?_, fun i => ?_⟩
  · refine (retested.map fun w h => ?_).follows poised
    rw [← hu]
    exact (h.conflictTest .other).applyStatusMass j b
  · rw [taken, masked, State.massed_keeps]
    rfl
  · have ownCell (h : Nat) : (u.applyStatusMass j b).ownCell h = s.ownCell h := by
      unfold State.ownCell
      rw [taken, State.massed_keeps]
    show _ = if b.counts s.readyPlan = true ∧ h = b.hold ∧ i = j then max (s.cell h i) b.mass else s.cell h i
    rw [State.cell_eq, own, ownCell, taken, s.cell_eq, State.massed_column (readStatus_mass body) hold]
    by_cases same : i = s.own
    · rw [if_pos same, if_pos same, if_neg (fun g => peer (g.2.2.symm.trans same))]
    · rw [if_neg same, if_neg same]
  · have store : (u.applyStatusMass j b).plan.marks[i] = (s.massed j b).marks[i] := by rw [taken]
    exact store.trans (State.massed_marks ..)

end Sys2Proof.Machine
/-! ## HELLO of a peer, and the RECALL offered to one that was reset (R26, R31, R39, R102) -/

namespace Sys2Proof.Machine

theorem StartCause.ofCode_code (c : StartCause) : StartCause.ofCode c.code = some c := by cases c <;> rfl

/-! ### The entry (R31, R39) -/

/-- What a HELLO in range leaves in its sender's entry (R26, R31, R39). -/
theorem State.takenEntry_hello {b : HelloBody} (announced : b.capacity ≠ 0) (c : StartCause) (j : StationNo) (s : State) :
    s.takenEntry j false (·.recordHello c b) true =
      { presence := .present, role := some b.role, belt := some b.belt, cause := some c
        lastStatus := if c = .rejoin then (s.entry j).lastStatus else none
        grant := if decide (c = .rejoin ∧ b.role = .unloader) then (s.entry j).grant else 0
        raise := if decide (c = .rejoin ∧ b.role = .unloader) then (s.entry j).raise else none
        claim := if decide (c = .rejoin ∧ b.role = .unloader) then (s.entry j).claim else none
        position := if b.role = .unloader then (s.entry j).position else none
        planId := b.planId, capacity := b.capacity
        mismatch := if b.role = .intake then none else match s.station.config with
          | none => (s.entry j).mismatch
          | some cfg => if b.belt = s.station.straps.belt ∧ b.capacity ≠ cfg.capacity then some b.capacity else none
        lastHeard := s.now
        lastSeq := if (s.entry j).presence = .present then (s.entry j).lastSeq else none
        missed := (s.entry j).missed } := by
  unfold State.takenEntry
  rw [if_pos rfl]
  cases role : b.role with
  | unloader =>
    rw [PeerEntry.checked_of_mark (PeerEntry.checkedMark_unloader (b := b.belt) ?_ ?_ ?_)]
    · by_cases again : c = .rejoin
      · simp only [PeerEntry.recordHello, role, again, reduceCtorEq, if_false, if_true, and_self, decide_true]
        rfl
      · simp only [PeerEntry.recordHello, role, again, reduceCtorEq, if_false, if_true, false_and, decide_false]
        rfl
    all_goals simp [PeerEntry.recordHello, role, announced]
  | intake =>
    rw [PeerEntry.checked_of_mark (PeerEntry.checkedMark_of_role ?_)]
    · simp only [PeerEntry.recordHello, role, reduceCtorEq, if_false, if_true, and_false, decide_false]
      by_cases again : c = .rejoin
      · rw [if_pos again, if_pos again]; rfl
      · rw [if_neg again, if_neg again]; rfl
    · simp [PeerEntry.recordHello, role, PeerEntry.asIntake, PeerEntry.drop]

/-! ### The TALLY and RECALL list (R15, R102) -/

theorem Link.listCount_eq (l : Link) : l.listCount =
    l.listed.length + (match l.lineKind with | some k => if k.listed then 1 else 0 | none => 0) := rfl

theorem Link.mem_listed {l : Link} {d : Content} (h : d.kind.listed = true) : d ∈ l.listed ↔ d ∈ l.normal := by
  simp [Link.listed, h]

/-- The change signal leaves the TALLY and RECALL list and the line. -/
theorem State.signalIfChanged_listed (old : PeerEntry) (j : StationNo) (f : Found) (s : State) :
    (s.signalIfChanged old j f).link.listed = s.link.listed
      ∧ (s.signalIfChanged old j f).link.lineKind = s.link.lineKind := by
  unfold State.signalIfChanged
  split
  · exact ⟨(s.summed_signalled_tableChanged f).listed, (s.summed_signalled_tableChanged f).line⟩
  · exact ⟨rfl, rfl⟩

/-- A frame taken by the table leaves the TALLY and RECALL list and the line. -/
theorem State.received_take_listed (t : Nat) (k : Kind) (j : StationNo) (bye : Bool) (record : PeerEntry → PeerEntry)
    (check : Bool) (f : Found) (s : State) :
    (((s.advance t).received k).tableTake j bye record check f).link.listed = s.link.listed
      ∧ (((s.advance t).received k).tableTake j bye record check f).link.lineKind = s.link.lineKind := by
  have heard : s.Signalled ((s.advance t).received k) := (State.Signalled.refl.frame (by rfl)).countRxGood
  obtain ⟨c, e, -, -⟩ := State.tableTake_eq j bye record check f ((s.advance t).received k)
  obtain ⟨listed, line⟩ := State.signalIfChanged_listed (((s.advance t).received k).entry j) j f
    { ((s.advance t).received k).setEntry j (((s.advance t).received k).takenEntry j bye record check) with console := c }
  rw [e]
  exact ⟨listed.trans heard.listed, line.trans heard.line⟩

/-- A RECALL of a column that is not empty stands in a list with room (R15, R102). -/
theorem State.offerRecall_mem {s : State} {r : PlanRecord} {j : StationNo} {c : StartCause} (ready : s.readyPlan = some r)
    (reset : c ≠ .rejoin) (column : s.columnPairs j ≠ []) (tx : s.transmits = true) (room : s.link.listCount < 4) :
    Content.recall j ⟨r.id, s.columnPairs j⟩ ∈ (s.offerRecall j c r.id).link.normal := by
  unfold State.offerRecall State.offerListed
  rw [ready]
  dsimp only
  rw [if_pos ⟨reset, rfl, column⟩, if_pos tx, if_pos room]
  simp

/-- No RECALL to a peer that rejoins, announces no READY plan of this station, or has an empty column (R102). -/
theorem State.offerRecall_none {s : State} {j : StationNo} {c : StartCause} {id : Nat}
    (h : c = .rejoin ∨ (∀ r, s.readyPlan = some r → id ≠ r.id) ∨ s.columnPairs j = []) : s.offerRecall j c id = s := by
  unfold State.offerRecall
  split
  · rename_i r ready
    refine if_neg fun ⟨reset, equal, column⟩ => ?_
    obtain again | other | empty := h
    · exact reset again
    · exact other r ready equal
    · exact column empty
  · rfl

/-- Settles O11: the entry as R31 records it, its tests, and the RECALL by the plan, the column and the list of the state
before the frame, which the frame leaves. -/
theorem helloRecordsTheEntry : Obligations.HelloRecordsTheEntry := by
  intro t j p b c s live listens peer body cause least most
  have line := State.listens_line listens
  have code : StartCause.ofCode b.cause = some c := by rw [cause, StartCause.ofCode_code]
  have good : b.good = true := HelloBody.good_iff.mpr ⟨by rw [code]; rfl, least, most⟩
  obtain ⟨listed, kind⟩ := State.received_take_listed t .hello j false (·.recordHello c b) true .other s
  have total := State.received_take_mask t .hello j line false (·.recordHello c b) true .other
  obtain ⟨v, poised, retested⟩ := State.received_take_retested t .hello line j false (·.recordHello c b) true .other
  have e : exec (.helloTaken t j p) s = .next
      ((((s.advance t).received .hello).tableTake j false (·.recordHello c b) true .other).offerRecall j c b.planId) := by
    have taken : ((s.advance t).received .hello).applyHello j b =
        (((s.advance t).received .hello).tableTake j false (·.recordHello c b) true .other).offerRecall j c b.planId := by
      unfold State.applyHello
      rw [code]
      exact if_pos good
    rw [← taken]
    exact congrArg Host.Outcome.next (State.receive_peer (k := .hello) live listens peer body rfl)
  generalize ((s.advance t).received .hello).tableTake j false (·.recordHello c b) true .other = u at *
  rw [State.takenEntry_hello (by omega)] at total
  have plan : u.plan = s.plan := (State.plan_of_mask total :)
  have straps : u.station.straps = s.station.straps := (State.straps_of_mask total :)
  have state : u.station.state = s.station.state := (State.stationState_of_mask total :)
  have ready : u.readyPlan = s.readyPlan := by unfold State.readyPlan; rw [plan]
  have cell (h : Nat) : u.cell h j = s.cell h j := by
    unfold State.cell State.ownCell State.own; rw [plan, straps]
  have column : u.columnPairs j = s.columnPairs j := by
    unfold State.columnPairs; simp only [cell]
  have tx : u.transmits = s.transmits := by unfold State.transmits; rw [state]
  have count : u.link.listCount = s.link.listCount := by rw [Link.listCount_eq, Link.listCount_eq, listed, kind]
  refine ⟨_, e, (retested.map fun w h => h.offerRecall j c b.planId).follows poised, (offerRecall_mask ..).trans total,
    fun r isReady reset equal pairs sends room => ?_, fun none d hd isRecall => ?_⟩
  · rw [← column] at pairs ⊢
    rw [equal]
    exact State.offerRecall_mem (ready.trans isReady) reset pairs (tx.trans sends) (count.trans_lt room)
  · rw [← ready, ← column] at none
    rw [State.offerRecall_none none] at hd
    have isListed : d.kind.listed = true := by rw [isRecall]; rfl
    rwa [← Link.mem_listed isListed, ← listed, Link.mem_listed isListed]

end Sys2Proof.Machine

/-! ## The answer to a console command (R179, R180) -/

namespace Sys2Proof.Machine

/-- The state after a command is handled, its response formed (R179). -/
def Handled.answered (tag : BitVec 16) (r : Handled) : State :=
  { r.1 with console := r.1.console.respond ⟨tag, r.2.1, r.2.2⟩ }

/-- Outside a reset and with room for its response, a command whose argument bytes are read is handled at once (R179, R180). -/
theorem State.live_command {α : Type} {s : State} {read : Option α} {a : α} (live : s.inReset = none)
    (room : s.console.waiting.length < 4) (args : read = some a) (t : Nat) (tag : BitVec 16) (handle : α → State → Handled) :
    s.live t (·.command tag (withArgs read handle)) = Handled.answered tag (handle a (s.advance t)) := by
  subst args
  rw [live_run t _ s live]
  exact if_neg (by simpa using room)

/-! ### BELTCAP and REMOTE_RESET (R67, R181) -/

/-- The urgent queue is full where 2 urgent frames stand, the one on the line counted (R13; log 9). -/
theorem State.urgentFull_iff (s : State) : s.urgentFull = true ↔ 2 ≤ s.link.urgentCount := decide_eq_true_iff

theorem State.urgentFull_of_room {s : State} (room : s.link.urgentCount < 2) : s.urgentFull = false :=
  decide_eq_false (by omega)

/-- An urgent frame is appended where the station transmits and has room (R13). -/
theorem State.offerUrgent_room {s : State} (tx : s.transmits = true) (room : s.link.urgentCount < 2) (c : Content) :
    s.offerUrgent c = { s with link := { s.link with urgent := s.link.urgent ++ [c] } } := by
  unfold State.offerUrgent
  rw [tx, State.urgentFull_of_room room]
  rfl

theorem StationState.transmits_of_working {st : StationState} (h : st.working = true) : st.transmits = true := by
  cases st <;> trivial

/-- A CAPACITY is offered to the normal set and its repeat set 5.0 s ahead (R67). -/
theorem State.offerCapacity_eq {s : State} {c : Nat} (cap : s.share.beltCap = some c) (tx : s.transmits = true) :
    s.offerCapacity = { s with
      share := { s.share with capTimer := some (s.now + 5000) }
      link := s.link.placeSingle (.capacity c) } := by
  unfold State.offerCapacity
  rw [cap]
  have offered : s.offerSingle (.capacity c) = { s with link := s.link.placeSingle (.capacity c) } :=
    State.offerSingle_of_transmits tx nofun
  simp only [offered]
  rfl

/-- The belt capacity is recorded, and announced at once in ACTIVE and DEGRADED (R67). -/
theorem State.takeBeltcap_eq (c : Nat) (s : State) : s.takeBeltcap c = { s with
    share := { s.share with
      beltCap := some c
      capTimer := if s.working then some (s.now + 5000) else s.share.capTimer }
    link := if s.working then s.link.placeSingle (.capacity c) else s.link } := by
  by_cases h : s.working = true
  · have working : State.working { s with share := { s.share with beltCap := some c } } = true := h
    unfold State.takeBeltcap
    simp only [h, if_pos working]
    exact State.offerCapacity_eq rfl (StationState.transmits_of_working h)
  · have idle : ¬ State.working { s with share := { s.share with beltCap := some c } } = true := h
    unfold State.takeBeltcap
    simp only [h, if_neg idle]
    rfl

/-- REMOTE_RESET by the first condition of its table that holds (R181). -/
theorem handleRemoteReset_eq (n : Nat) (s : State) : handleRemoteReset n s =
    if h : n < 16 ∧ n ≠ s.own.val then
      if s.transmits = true then
        if 2 ≤ s.link.urgentCount then refuse .busy s else (s.offerUrgent (.reset ⟨n, h.1⟩), .ok, [])
      else refuse .badState s
    else refuse .badArg s := by
  unfold handleRemoteReset
  simp only [State.urgentFull_iff]
  by_cases h : n < 16
  · by_cases e : n = s.own.val
    · rw [dif_pos h, if_pos e, dif_neg (by simp [e])]
    · rw [dif_pos h, if_neg e, dif_pos ⟨h, e⟩]
  · rw [dif_neg h, dif_neg (by simp [h])]

/-- Settles O51: each command by the conditions of its table, in their order. -/
theorem beltcapAndRemoteReset : Obligations.BeltcapAndRemoteReset := by
  intro t tag s live room
  refine ⟨fun p c word => ?_, fun n => ?_⟩
  · have e : exec (.beltcap t tag p) s = .next (Handled.answered tag (handleBeltcap c (s.advance t))) :=
      congrArg Host.Outcome.next (State.live_command live room word t tag _)
    refine ⟨fun unloader => ?_, fun intake => ?_⟩
    · have unloads : (s.advance t).isUnloader = true := unloader
      rw [e]
      unfold handleBeltcap
      rw [if_pos unloads]
      rfl
    · have takes : ¬ (s.advance t).isUnloader = true := by
        have := State.isUnloader_of_isIntake intake
        exact fun h => Bool.noConfusion (this.symm.trans h)
      rw [e]
      unfold handleBeltcap
      rw [if_neg takes, State.takeBeltcap_eq, Nat.min_comm]
      rfl
  · have e : exec (.remoteReset t tag [n]) s = .next (Handled.answered tag (handleRemoteReset n.toNat (s.advance t))) :=
      congrArg Host.Outcome.next (State.live_command live room rfl t tag _)
    rw [e, handleRemoteReset_eq]
    refine ⟨fun bad => ?_, fun j isJ other => ?_⟩
    · have out : ¬ (n.toNat < 16 ∧ n.toNat ≠ (s.advance t).own.val) := fun ⟨low, ne⟩ => by
        obtain high | own := bad
        · omega
        · exact ne own
      rw [dif_neg out]
      rfl
    · have out : n.toNat < 16 ∧ n.toNat ≠ (s.advance t).own.val :=
        ⟨isJ ▸ j.isLt, fun own => other (Fin.ext (isJ.symm.trans own))⟩
      have named : (⟨n.toNat, out.1⟩ : StationNo) = j := Fin.ext isJ
      rw [dif_pos out]
      refine ⟨fun silent => ?_, fun tx full => ?_, fun tx free => ?_⟩
      · have quiet : ¬ (s.advance t).transmits = true := by
          intro h; exact Bool.noConfusion (silent.symm.trans h)
        rw [if_neg quiet]
        rfl
      · have sends : (s.advance t).transmits = true := tx
        have busy : 2 ≤ (s.advance t).link.urgentCount := full
        rw [if_pos sends, if_pos busy]
        rfl
      · have sends : (s.advance t).transmits = true := tx
        have idle : ¬ 2 ≤ (s.advance t).link.urgentCount := by
          simpa using free
        rw [if_pos sends, if_neg idle, named, State.offerUrgent_room sends free]
        rfl

end Sys2Proof.Machine

/-! ## OVERRIDE_CLEAR (R65, R109) -/

namespace Sys2Proof.Machine

/-- A frame of a single kind is placed where the station transmits, and refused elsewhere (R14, R17). -/
theorem State.offerSingle_link {c : Content} (h : c.kind ≠ .lower) (s : State) :
    (s.offerSingle c).link = if s.transmits then s.link.placeSingle c else s.link := by
  split
  · exact congrArg State.link (State.offerSingle_of_transmits ‹_› h)
  · exact congrArg State.link (if_neg ‹_›)

/-- What the claim's test can do to the transmit queues: nothing, a CLAIM placed, or the CLAIM withdrawn (R109, R112). -/
theorem State.claimRetest_link (s : State) : s.claimRetest.link = s.link
    ∨ (∃ b, s.claimRetest.link = s.link.placeSingle (.claim b)) ∨ s.claimRetest.link = s.link.withdraw .claim := by
  have offered (r : ClaimRequest) (u : State) (e : u.link = s.link) : (u.offerClaim r).link = s.link
      ∨ (∃ b, (u.offerClaim r).link = s.link.placeSingle (.claim b)) ∨ (u.offerClaim r).link = s.link.withdraw .claim := by
    have placed (b : ClaimBody) (v : State) : (v.offerSingle (.claim b)).link
        = if v.transmits then v.link.placeSingle (.claim b) else v.link := 
      State.offerSingle_link (c := .claim b) nofun v
    unfold State.offerClaim
    rw [placed, ← e]
    split
    · exact .inr (.inl ⟨_, rfl⟩)
    · exact .inl rfl
  unfold State.claimRetest
  split
  · unfold State.examineRequest
    split
    · exact .inl rfl
    · split
      · exact .inl rfl
      · exact offered _ _ rfl
  · unfold State.retestQueued
    split
    · exact .inl rfl
    · split
      · exact .inr (.inr rfl)
      · split
        · split
          · exact .inl rfl
          · exact offered _ _ rfl
        · exact offered _ _ rfl
  · exact .inl rfl

/-- Content held after the claim's test was held before it, or is a CLAIM. -/
theorem State.claimRetest_held {s : State} {d : Content} (h : d ∈ s.claimRetest.link.held) :
    s.link.held = some d ∨ d.kind = .claim := by
  obtain same | ⟨b, placed⟩ | withdrawn := s.claimRetest_link
  · exact .inl (same ▸ h)
  · rw [placed] at h
    obtain ⟨rfl, _⟩ | old := Link.placeSingle_held h
    · exact .inr rfl
    · exact .inl old
  · rw [withdrawn] at h
    exact .inl (Link.withdraw_held h).1

/-- A frame queued after the claim's test was queued before it, or is a CLAIM. -/
theorem State.claimRetest_normal {s : State} {d : Content} (h : d ∈ s.claimRetest.link.normal) :
    d ∈ s.link.normal ∨ d.kind = .claim := by
  by_cases claim : d.kind = .claim
  · exact .inr claim
  · exact .inl (((State.Spares.claimTest claim).normal d rfl).mp h)

/-- The state in which OVERRIDE_CLEAR signals the order unit and the claim unit (R65). -/
def State.overridden (s : State) : State :=
  { s with
    share := { s.share with
      halts := 0#16
      ownHalt := if haltMember s.share.halts s.own then none else s.share.ownHalt
      haltTimer := if haltMember s.share.halts s.own then none else s.share.haltTimer }
    console := if 2 ≤ s.station.reportLevel then
      s.console.enqueue ⟨.warning, .share, 18, [BitVec.ofNat 32 (haltCount s.share.halts)]⟩ else s.console }

theorem State.overrideClear_eq (s : State) : s.overrideClear = s.overridden.refreshHeld.claimRetest := by
  have reported (u : State) (n : Nat) : u.reportOverride n = { u with
      console := if 2 ≤ u.station.reportLevel then u.console.enqueue ⟨.warning, .share, 18, [BitVec.ofNat 32 n]⟩
        else u.console } := State.report_eq ..
  unfold State.overrideClear
  dsimp only
  rw [reported]
  rfl

/-- Settles O50: the set is emptied, and the signals that follow move CLAIMs alone. -/
theorem overrideClearEmptiesTheHaltSet : Obligations.OverrideClearEmptiesTheHaltSet := by
  intro t tag s live room
  have e : exec (.overrideClear t tag []) s = .next (Handled.answered tag ((s.advance t).overrideClear, .ok, [])) :=
    congrArg Host.Outcome.next (State.live_command live room (a := ()) rfl t tag _)
  rw [State.overrideClear_eq] at e
  have link : (s.advance t).overridden.refreshHeld.link = s.link := by rw [State.refreshHeld_eq]; rfl
  have masked : (s.advance t).overridden.refreshHeld.claimRetest.mask = (s.advance t).overridden.mask :=
    (claimRetest_mask _).trans (refreshHeld_mask _)
  have line := (State.Reaches.refl (s := (s.advance t).overridden.refreshHeld)).claimRetest.keeps.2.2.2
  rw [link] at line
  refine ⟨_, e, State.halts_of_mask masked, (State.urgent_of_mask masked :), (State.grant_of_mask masked :), fun d hd => ?_,
    fun d hd => ?_, line, State.ownHalt_of_mask masked, State.haltTimer_of_mask masked, ?_⟩
  · exact link ▸ State.claimRetest_normal hd
  · exact link ▸ State.claimRetest_held hd
  · have console : (s.advance t).overridden.refreshHeld.claimRetest.console = (s.advance t).overridden.console := by
      rw [State.claimRetest_eq, State.refreshHeld_eq]
    exact congrArg (Console.respond ⟨tag, .ok, []⟩) console

end Sys2Proof.Machine

/-! ## The raise abandoned and the lowering driven, whatever stands on the line (R16, R48, R50, R52, R53, R55, R57) -/

namespace Sys2Proof.Machine

/-! ### The LOWERs pending -/

/-- A frame that a test accepts stands on the line, held behind it, or queued. -/
theorem Link.holds_iff {p : Content → Bool} {l : Link} : l.holds p = true ↔
    (∃ a ∈ l.onLine, p a.content = true) ∨ (∃ c ∈ l.held, p c = true) ∨ ∃ c ∈ l.normal, p c = true := by
  unfold Link.holds
  cases l.onLine <;> cases l.held <;> simp [or_comm, or_left_comm]

/-- A LOWER with a grant is pending where that grant is one of the link's LOWERs (R53). -/
theorem Link.lowerPending_iff_mem {l : Link} {g : Nat} : l.lowerPending g = true ↔ g ∈ l.lowers := by
  rw [Link.mem_lowers, Link.lowerPending, Link.holds_iff]
  simp only [beq_iff_eq, Content.newGrant_eq_some]

theorem Link.lowerPending_congr {l l' : Link} {g : Nat} (h : g ∈ l'.lowers ↔ g ∈ l.lowers) :
    l'.lowerPending g = l.lowerPending g := by
  rw [Bool.eq_iff_iff, Link.lowerPending_iff_mem, Link.lowerPending_iff_mem, h]

/-- The frame on the line after a withdrawal (R16). -/
theorem Link.withdraw_line_eq (k : Kind) (l : Link) : (l.withdraw k).onLine
    = l.onLine.map fun a => if a.content.kind = k then { a with withdrawn := true } else a := rfl

/-- Withdrawing another kind leaves the LOWERs (R16). -/
theorem Link.mem_withdraw_lowers {k : Kind} (h : k ≠ .lower) {l : Link} {n : Nat} :
    n ∈ (l.withdraw k).lowers ↔ n ∈ l.lowers := by
  refine ⟨Link.withdraw_lowers, fun stood => ?_⟩
  rw [Link.mem_lowers] at stood ⊢
  have kept {c : Content} (e : c.newGrant = some n) : c.kind ≠ k := by
    rw [Content.newGrant_eq_some.mp e]; exact h.symm
  obtain ⟨a, ha, e⟩ | ⟨c, hc, e⟩ | ⟨c, hc, e⟩ := stood
  · refine .inl ⟨a, ?_, e⟩
    rw [Link.withdraw_line_eq, Option.mem_def.mp ha, Option.map_some, if_neg (kept e)]
    rfl
  · refine .inr (.inl ⟨c, ?_, e⟩)
    simp only [Link.withdraw, Option.mem_def.mp hc, if_neg (kept e)]
    rfl
  · exact .inr (.inr ⟨c, (Link.withdraw_normal k l c).mpr ⟨hc, kept e⟩, e⟩)

theorem Link.withdraw_lowerPending {k : Kind} (h : k ≠ .lower) (l : Link) (g : Nat) :
    (l.withdraw k).lowerPending g = l.lowerPending g := Link.lowerPending_congr (Link.mem_withdraw_lowers h)

/-! ### The drain (R53, R55) -/

/-- The transmit queues after a LOWER is offered (R14, R16). -/
def Link.lowered (g : Nat) (l : Link) : Link := (l.withdraw .raise).placeSingle (.lower g)

theorem State.offerSingle_lower {s : State} (tx : s.transmits = true) (g : Nat) :
    s.offerSingle (.lower g) = { s with link := s.link.lowered g } := if_pos tx

theorem Link.lowered_offers (g : Nat) (l : Link) : (l.lowered g).offers (.lower g) := Link.placeSingle_offers ..

theorem Link.lowered_pending (g : Nat) (l : Link) : (l.lowered g).lowerPending g = true := (l.lowered_offers g).lowerPending

/-- Offering a LOWER makes none pending but its own. -/
theorem Link.lowered_not_pending {g n : Nat} {l : Link} (ne : n ≠ g) (free : l.lowerPending n = false) :
    (l.lowered g).lowerPending n = false := by
  rw [← Bool.not_eq_true, Link.lowerPending_iff_mem] at free ⊢
  intro pending
  obtain own | old := Link.placeSingle_lowers pending
  · exact ne (Option.some.inj own).symm
  · exact free (Link.withdraw_lowers old)

/-- No RAISE stands queued once a LOWER is offered (R16). -/
theorem Link.lowered_no_raise (g : Nat) (l : Link) : ∀ c ∈ (l.lowered g).normal, c.kind ≠ .raise := by
  intro c hc
  obtain rfl | kept := Link.placeSingle_mem hc
  · nofun
  · exact ((Link.withdraw_normal .raise l c).mp kept).2

/-- The drain test passes (R53): no LOWER to the target is pending, the station transmits, and the feed has fallen. -/
def State.drains (l : Lowering) (s : State) : Bool :=
  !s.link.lowerPending l.target && s.transmits && s.feedAtMost (l.target + 10)

/-- The drain deadline after the test (R53, R55): stopped where it passes, and running where no LOWER to the target is pending
in a station that transmits. -/
def State.drainTimer (l : Lowering) (s : State) : Option Nat :=
  if !s.link.lowerPending l.target && s.transmits then
    if s.feedAtMost (l.target + 10) then none else some (l.deadline.getD (s.now + 15000))
  else l.deadline

theorem State.drain_eq {s : State} {l : Lowering} (lowering : s.share.lowering = some l) : s.drainTest.armDrain = { s with
    share := { s.share with lowering := some { l with deadline := s.drainTimer l } }
    link := if s.drains l then s.link.lowered l.target else s.link } := by
  have test := State.drainTest_of_lowering lowering
  have kept : s = { s with share := { s.share with lowering := some l } } := by rw [← lowering]
  unfold State.drains State.drainTimer
  by_cases free : (!s.link.lowerPending l.target && s.transmits) = true
  · rw [free, Bool.true_and] at test ⊢
    cases feed : s.feedAtMost (l.target + 10) with
    | true =>
      rw [feed, if_pos rfl, State.offerSingle_lower (Bool.and_eq_true .. ▸ free).2] at test
      rw [test, State.armDrain_of_lowering rfl, if_neg]
      · rfl
      · exact fun arms => by simp [Link.lowered_pending] at arms
    | false =>
      rw [feed, if_neg (by decide)] at test
      rw [test, State.armDrain_of_lowering lowering]
      cases deadline : l.deadline with
      | none =>
        rw [if_pos (by simpa [and_comm] using free)]
        rfl
      | some d =>
        rw [if_neg (by simp)]
        have same : some ((some d).getD (s.now + 15000)) = l.deadline := deadline.symm
        simp only [if_true, Bool.false_eq_true, if_false]
        rw [same]
        exact kept
  · have stays : ¬ (l.deadline.isNone && s.transmits && !s.link.lowerPending l.target) = true := fun arms => free (by
      simp only [Bool.and_eq_true] at arms ⊢
      exact ⟨arms.2, arms.1.2⟩)
    rw [if_neg fun h => free (Bool.and_eq_true .. ▸ h).1] at test
    rw [test, State.armDrain_of_lowering lowering, if_neg stays, if_neg fun h => free (Bool.and_eq_true .. ▸ h).1, if_neg free]
    exact kept

section

variable {s : State} {l : Lowering}

theorem State.drainTimer_of_silent (silent : s.transmits = false) : s.drainTimer l = l.deadline := by
  simp [State.drainTimer, silent]

theorem State.drainTimer_of_pending (pending : s.link.lowerPending l.target = true) : s.drainTimer l = l.deadline := by
  simp [State.drainTimer, pending]

theorem State.drainTimer_of_ready (ready : s.feedAtMost (l.target + 10) = true) (fresh : l.deadline = none) :
    s.drainTimer l = none := by
  simp [State.drainTimer, ready, fresh]

theorem State.drainTimer_of_waiting (tx : s.transmits = true) (filled : s.feedAtMost (l.target + 10) = false)
    (free : s.link.lowerPending l.target = false) : s.drainTimer l = some (l.deadline.getD (s.now + 15000)) := by
  simp [State.drainTimer, tx, filled, free]

/-- Where the feed allows it, the LOWER to the target is pending after the test. -/
theorem State.drain_pending (tx : s.transmits = true) (ready : s.feedAtMost (l.target + 10) = true) :
    (if s.drains l then s.link.lowered l.target else s.link).lowerPending l.target = true := by
  split
  · exact Link.lowered_pending ..
  · rename_i blocked
    by_contra free
    exact blocked (by simp [State.drains, tx, ready, free])

theorem State.drains_of_filled (filled : s.feedAtMost (l.target + 10) = false) : s.drains l = false := by
  simp [State.drains, filled]

end

end Sys2Proof.Machine

/-! ## The raise abandoned, whatever stands on the line (R16, R48, R50, R57) -/

namespace Sys2Proof.Machine

/-- The own raise abandoned for a cause (R48, R50): one SENDING waits for its attempt, any other is at an end. -/
def Raise.under (c : YieldCause) : Raise → Raise
  | .sending t b => .sending t (some (b.getD c))
  | _ => .none

theorem Raise.under_halt (r : Raise) : r.under .halt = r.underHalt := by cases r <;> rfl

theorem Raise.under_of_not_alive {r : Raise} (h : r.alive = false) (c : YieldCause) : r.under c = r := by
  cases r with
  | none => rfl
  | queued | settling => cases h
  | sending t b => cases b with
    | none => cases h
    | some => rfl

theorem State.abandonRaise_of_queued {s : State} {x : Nat} (queued : s.share.raise = .queued x) (c : YieldCause) :
    s.abandonRaise c = (s.withdraw .raise).setRaise .none := by
  simp only [State.abandonRaise, queued]

theorem State.abandonRaise_of_sending {s : State} {x : Nat} (sending : s.share.raise = .sending x none) (c : YieldCause) :
    s.abandonRaise c = (s.withdraw .raise).setRaise (.sending x (some c)) := by
  simp only [State.abandonRaise, sending]

theorem State.abandonRaise_of_settling {s : State} {x d : Nat} (settling : s.share.raise = .settling x d) (c : YieldCause) :
    s.abandonRaise c = s.abandonSettling c := by
  simp only [State.abandonRaise, settling]

/-- How a raise stands when it is abandoned: at an end or marked already, QUEUED, SENDING, or SETTLING. -/
theorem Raise.abandon_cases (r : Raise) : r.alive = false ∨ (∃ x, r = .queued x) ∨ (∃ x, r = .sending x Option.none)
    ∨ ∃ x d, r = .settling x d := by
  cases r with
  | none => exact .inl rfl
  | queued x => exact .inr (.inl ⟨x, rfl⟩)
  | sending x b => cases b with
    | none => exact .inr (.inr (.inl ⟨x, rfl⟩))
    | some => exact .inl rfl
  | settling x d => exact .inr (.inr (.inr ⟨x, d, rfl⟩))

theorem Raise.isSettling_of_not_alive {r : Raise} (h : r.alive = false) : r.isSettling = false := by
  cases r with
  | settling => cases h
  | _ => rfl

/-- A yield tested offers a LOWER with the own grant or changes nothing (R57). -/
theorem State.yieldTest_cases (s : State) : s.yieldTest = s
    ∨ (s.transmits = true ∧ s.yieldTest = { s with link := s.link.lowered s.share.grant }) := by
  unfold State.yieldTest
  split
  · by_cases tx : s.transmits = true
    · exact .inr ⟨tx, State.offerSingle_lower tx _⟩
    · exact .inl (if_neg tx)
  · exact .inl rfl

section

variable (c : YieldCause) (s : State)

theorem State.abandonRaise_share : (s.abandonRaise c).share = { s.share with
    raise := s.share.raise.under c
    yieldOwed := s.share.yieldOwed || (s.share.raise.isSettling && s.transmits) } := by
  obtain dead | ⟨x, queued⟩ | ⟨x, sending⟩ | ⟨x, d, settling⟩ := s.share.raise.abandon_cases
  · rw [State.abandonRaise_of_not_alive dead, Raise.under_of_not_alive dead, Raise.isSettling_of_not_alive dead,
      Bool.false_and, Bool.or_false]
  · rw [State.abandonRaise_of_queued queued, queued, Raise.isSettling_queued, Bool.false_and, Bool.or_false]
    rfl
  · rw [State.abandonRaise_of_sending sending, sending, Raise.isSettling_sending, Bool.false_and, Bool.or_false]
    rfl
  · rw [State.abandonRaise_of_settling settling, (State.abandonSettling_yields settling c).1, settling,
      Raise.isSettling_settling, Bool.true_and]
    rfl

/-- Abandoning the raise leaves the transmit queues, withdraws the RAISE, or offers a LOWER with the own grant. -/
theorem State.abandonRaise_link : (s.abandonRaise c).link = s.link ∨ (s.abandonRaise c).link = s.link.withdraw .raise
    ∨ (s.abandonRaise c).link = s.link.lowered s.share.grant := by
  obtain dead | ⟨x, queued⟩ | ⟨x, sending⟩ | ⟨x, d, settling⟩ := s.share.raise.abandon_cases
  · exact .inl (by rw [State.abandonRaise_of_not_alive dead])
  · exact .inr (.inl (by rw [State.abandonRaise_of_queued queued]; rfl))
  · exact .inr (.inl (by rw [State.abandonRaise_of_sending sending]; rfl))
  · obtain ⟨v, ended, shape, -⟩ := State.abandonSettling_eq settling c
    have link : v.link = s.link := by rw [shape]
    have grant : v.share.grant = s.share.grant := by rw [shape]
    rw [State.abandonRaise_of_settling settling, ended, ← link, ← grant]
    split
    · obtain same | ⟨-, offered⟩ := v.yieldTest_cases
      · exact .inl (by rw [same])
      · exact .inr (.inr (by rw [offered]))
    · exact .inl rfl

theorem State.abandonRaise_not_pending {n : Nat} (ne : n ≠ s.share.grant) (free : s.link.lowerPending n = false) :
    (s.abandonRaise c).link.lowerPending n = false := by
  obtain same | withdrawn | lowered := s.abandonRaise_link c
  · rw [same]; exact free
  · rw [withdrawn, Link.withdraw_lowerPending (k := .raise) nofun]; exact free
  · rw [lowered]; exact Link.lowered_not_pending ne free

end

/-- A SETTLING raise abandoned is reported with its cause (R50). -/
theorem State.abandonRaise_reports {s : State} {x d : Nat} (settling : s.share.raise = .settling x d) (c : YieldCause)
    (level : 3 ≤ s.station.reportLevel) (room : s.console.reports.length < 16) :
    ⟨.info, .share, 12, [BitVec.ofNat 32 x, BitVec.ofNat 32 c.code]⟩ ∈ (s.abandonRaise c).console.reports := by
  rw [State.abandonRaise_of_settling settling]
  exact (State.abandonSettling_yields settling c).2.1 level room

/-! ### A RAISE withdrawn stays withdrawn (R16) -/

/-- No RAISE stands queued, and one on the line is withdrawn. -/
structure Link.RaiseOut (l : Link) : Prop where
  normal : ∀ c ∈ l.normal, c.kind ≠ .raise
  line : ∀ a ∈ l.onLine, a.content.kind = .raise → a.withdrawn = true

theorem Link.withdraw_raiseOut (l : Link) : (l.withdraw .raise).RaiseOut where
  normal c hc := ((Link.withdraw_normal .raise l c).mp hc).2
  line a ha isRaise := by
    obtain ⟨b, hb, same, -, marked⟩ := Link.withdraw_onLine ha
    exact marked (same ▸ isRaise)

namespace Link.RaiseOut

variable {l : Link}

/-- A further withdrawal leaves the line as it is, where it holds a RAISE already withdrawn. -/
theorem withdraw_line (h : l.RaiseOut) : (l.withdraw .raise).onLine = l.onLine := by
  rw [Link.withdraw_line_eq]
  cases line : l.onLine with
  | none => rfl
  | some a =>
    rw [Option.map_some]
    split
    · rename_i isRaise
      rw [← h.line a line isRaise]
    · rfl

theorem lowered (h : l.RaiseOut) (g : Nat) : (l.lowered g).RaiseOut ∧ (l.lowered g).onLine = l.onLine := by
  have line : (l.lowered g).onLine = l.onLine := (Link.placeSingle_onLine ..).trans h.withdraw_line
  exact ⟨⟨l.lowered_no_raise g, fun a ha => h.line a (line ▸ ha)⟩, line⟩

end Link.RaiseOut

end Sys2Proof.Machine

/-! ## A first halt, whatever stands on the line (R16, R48, R50, R52, R55, R57, R61, R109) -/

namespace Sys2Proof.Machine

/-! ### The claim's test where no claim is eligible (R109, R112) -/

/-- While the halt set is not empty, and in every state but ACTIVE, no claim request is eligible (R109). -/
theorem State.claimBlocked_isSome {s : State} (h : s.halted = true ∨ s.station.state ≠ .active) (r : ClaimRequest) :
    ∃ b, s.claimBlocked r = some b := by
  unfold State.claimBlocked
  split
  · exact ⟨_, rfl⟩
  · rename_i eligible
    have halted : s.halted = true := h.resolve_right fun other => eligible (by simp [other])
    rw [if_pos halted]
    exact ⟨_, rfl⟩

/-- The claim's test then at most withdraws the CLAIM. -/
theorem State.claimRetest_link_blocked {s : State} (h : s.halted = true ∨ s.station.state ≠ .active) :
    s.claimRetest.link = s.link ∨ s.claimRetest.link = s.link.withdraw .claim := by
  unfold State.claimRetest
  split
  · unfold State.examineRequest
    split
    · exact .inl rfl
    · rename_i r _
      obtain ⟨b, blocked⟩ := State.claimBlocked_isSome h r
      rw [blocked]
      exact .inl rfl
  · unfold State.retestQueued
    split
    · exact .inl rfl
    · rename_i r _
      obtain ⟨b, blocked⟩ := State.claimBlocked_isSome h r
      rw [blocked]
      exact .inr rfl
  · exact .inl rfl

/-- The CLAIM withdrawn leaves every LOWER and RAISE. -/
structure Link.ButClaim (l l' : Link) : Prop where
  pending : ∀ n, l'.lowerPending n = l.lowerPending n
  normal : ∀ c, c ∈ l'.normal → c ∈ l.normal
  others : ∀ c : Content, c.kind ≠ .claim → (c ∈ l'.normal ↔ c ∈ l.normal)
  line : ∀ a, l.onLine = some a → a.content.kind ≠ .claim → l'.onLine = some a

theorem Link.ButClaim.of_cases {l l' : Link} (h : l' = l ∨ l' = l.withdraw .claim) : l.ButClaim l' := by
  obtain rfl | rfl := h
  · exact ⟨fun _ => rfl, fun _ => id, fun _ _ => Iff.rfl, fun _ e _ => e⟩
  · refine ⟨fun n => Link.withdraw_lowerPending (k := .claim) nofun l n,
      fun c hc => ((Link.withdraw_normal .claim l c).mp hc).1, fun c other => ?_, fun a line other => ?_⟩
    · rw [Link.withdraw_normal]
      exact and_iff_left other
    · rw [Link.withdraw_line_eq, line, Option.map_some, if_neg other]

theorem State.haltLost_butClaim {s : State} (h : s.halted = true ∨ s.station.state ≠ .active) :
    s.link.ButClaim s.haltLost.link := by
  have same : s.refreshHeld.link = s.link := by rw [State.refreshHeld_eq]
  rw [← same]
  exact .of_cases (State.claimRetest_link_blocked (s := s.refreshHeld) (by rw [State.refreshHeld_eq]; exact h))

/-! ### The lower request of a halt (R52, R61) -/

theorem State.haltStopped_share (s : State) : s.haltStopped.share = { s.share with
    raise := s.share.raise.underHalt, yieldOwed := s.share.yieldOwed || (s.share.raise.isSettling && s.transmits) } := by
  have clamp := State.holdOffClamp_eq .halt s
  unfold State.haltStopped
  rw [State.abandonRaise_share, ← Raise.under_halt, clamp]
  rfl

theorem State.holdOffClamp_link (c : HoldOff) (s : State) : (s.holdOffClamp c).link = s.link := by
  rw [State.holdOffClamp_eq]

section

variable {s : State} (unloader : s.isUnloader = true)

include unloader

theorem State.haltStopped_feed : s.haltStopped.gov.feed = 0 := by
  rw [State.haltStopped_gov]
  exact (State.holdOffClamp_gov unloader .halt).1

/-- With no lowering in progress and a grant above 0, a first halt starts a lowering to 0. -/
theorem State.haltStopped_starts_eq (lowering : s.share.lowering = none) (grant : 0 < s.share.grant) :
    s.haltStopped.lowerRequest .halt 0 = { s.haltStopped with
      share := { s.haltStopped.share with
        lowering := some ⟨0, s.haltStopped.drainTimer ⟨0, none, false, false, false⟩, false, false, false⟩
        releaseTimer := none, yieldOwed := false }
      link := if s.haltStopped.drains ⟨0, none, false, false, false⟩ then s.haltStopped.link.lowered 0
        else s.haltStopped.link } := by
  have low : s.haltStopped.share.lowering = none := by rw [State.haltStopped_share]; exact lowering
  have high : 0 < s.haltStopped.share.grant := by rw [State.haltStopped_share]; exact grant
  rw [State.lowerRequest_halt_none s.haltStopped_alive (State.haltStopped_feed unloader) low, if_pos high, State.drain_eq rfl]
  rfl

/-- With no lowering in progress and a grant of 0, it changes nothing. -/
theorem State.haltStopped_idle_eq (lowering : s.share.lowering = none) (grant : s.share.grant = 0) :
    s.haltStopped.lowerRequest .halt 0 = s.haltStopped := by
  have low : s.haltStopped.share.lowering = none := by rw [State.haltStopped_share]; exact lowering
  rw [State.lowerRequest_halt_none s.haltStopped_alive (State.haltStopped_feed unloader) low, if_neg]
  rw [State.haltStopped_share]
  exact Nat.not_lt.mpr (Nat.le_of_eq grant)

/-- A lowering in progress is taken to 0. -/
theorem State.haltStopped_deepens_eq {l : Lowering} (lowering : s.share.lowering = some l) :
    s.haltStopped.lowerRequest .halt 0 = if 0 < l.target then { s.haltStopped with
      share := { s.haltStopped.share with
        lowering := some { l with target := 0, deadline := s.haltStopped.drainTimer { l with target := 0 } } }
      link := if s.haltStopped.drains { l with target := 0 } then s.haltStopped.link.lowered 0 else s.haltStopped.link }
      else s.haltStopped := by
  have low : s.haltStopped.share.lowering = some l := by rw [State.haltStopped_share]; exact lowering
  rw [State.lowerRequest_halt_some s.haltStopped_alive (State.haltStopped_feed unloader) low]
  split
  · rw [State.drain_eq rfl]
    rfl
  · rw [State.setLowering, ← low]

/-- The transmit queues after the lower request: as they were, or with the LOWER to 0 offered. -/
theorem State.haltStopped_lowered_link : (s.haltStopped.lowerRequest .halt 0).link = s.haltStopped.link
    ∨ (s.haltStopped.lowerRequest .halt 0).link = s.haltStopped.link.lowered 0 := by
  cases lowering : s.share.lowering with
  | none =>
    by_cases grant : 0 < s.share.grant
    · rw [State.haltStopped_starts_eq unloader lowering grant]
      exact (ite_eq_or_eq ..).symm
    · rw [State.haltStopped_idle_eq unloader lowering (by omega)]
      exact .inl rfl
  | some l =>
    rw [State.haltStopped_deepens_eq unloader lowering]
    split
    · exact (ite_eq_or_eq ..).symm
    · exact .inl rfl

end

end Sys2Proof.Machine

/-! ## The host's HALT and CLEAR (R13, R48, R50, R52, R60 to R64, R82) -/

namespace Sys2Proof.Machine

/-! ### The first halt seen from the state before it -/

/-- The halt set of `s` has just gained a first member, and nothing the share unit turns on has changed besides. -/
structure State.FirstHalt (s v : State) : Prop where
  share : v.share = { s.share with halts := v.share.halts, ownHalt := v.share.ownHalt }
  link : v.link = s.link
  station : v.station = s.station
  console : v.console = s.console
  now : v.now = s.now
  halted : v.halted = true

namespace State.FirstHalt

variable {s v : State}

theorem transmits (h : s.FirstHalt v) : v.transmits = s.transmits := congrArg (fun u => u.state.transmits) h.station

theorem feedAtMost (h : s.FirstHalt v) (n : Nat) : v.haltStopped.feedAtMost n = s.feedAtMost n := by
  rw [State.feedAtMost, State.haltStopped_share, h.share, State.feedAtMost]

theorem raise (h : s.FirstHalt v) : v.haltStopped.share.raise = s.share.raise.underHalt := by
  rw [State.haltStopped_share, h.share]

theorem owed (h : s.FirstHalt v) :
    v.haltStopped.share.yieldOwed = (s.share.yieldOwed || (s.share.raise.isSettling && s.transmits)) := by
  rw [State.haltStopped_share, h.share, h.transmits]

theorem timer (h : s.FirstHalt v) : v.haltStopped.share.releaseTimer = s.share.releaseTimer := by
  rw [State.haltStopped_share, h.share]

theorem sends (h : s.FirstHalt v) : v.haltStopped.transmits = s.transmits :=
  (congrArg (fun u => u.state.transmits) v.haltStopped_station).trans h.transmits

/-- A RAISE that was QUEUED or SENDING is withdrawn before the lower request (R16). -/
theorem withdrawn (h : s.FirstHalt v) (r : (∃ x, s.share.raise = .queued x) ∨ ∃ x, s.share.raise = .sending x none) :
    v.haltStopped.link = s.link.withdraw .raise := by
  have clamped : (v.holdOffClamp .halt).share.raise = s.share.raise := by rw [State.holdOffClamp_eq, h.share]
  have link : (v.holdOffClamp .halt).link = s.link := (State.holdOffClamp_link .halt v).trans h.link
  unfold State.haltStopped
  obtain ⟨x, queued⟩ | ⟨x, sending⟩ := r
  · rw [State.abandonRaise_of_queued (clamped.trans queued), ← link]; rfl
  · rw [State.abandonRaise_of_sending (clamped.trans sending), ← link]; rfl

theorem reported (h : s.FirstHalt v) {x d : Nat} (settling : s.share.raise = .settling x d)
    (level : 3 ≤ s.station.reportLevel) (room : s.console.reports.length ≤ 10) :
    ⟨.info, .share, 12, [BitVec.ofNat 32 x, 2#32]⟩ ∈ v.haltStopped.console.reports := by
  have clamp := State.holdOffClamp_eq .halt v
  have raise : (v.holdOffClamp .halt).share.raise = .settling x d := by rw [clamp, h.share]; exact settling
  refine State.abandonRaise_reports raise .halt ?_ ?_
  · rw [clamp, h.station]; exact level
  · rw [clamp, h.console]; omega

/-- A LOWER to 0 that was not pending before the halt is not pending when the raise has ended (R57). -/
theorem not_pending (h : s.FirstHalt v) (grant : 0 < s.share.grant) (free : s.link.lowerPending 0 = false) :
    v.haltStopped.link.lowerPending 0 = false := by
  refine State.abandonRaise_not_pending .halt _ ?_ ?_
  · rw [State.holdOffClamp_eq, h.share]; exact Nat.ne_of_lt grant
  · rw [State.holdOffClamp_link, h.link]; exact free

theorem butClaim (h : s.FirstHalt v) : (v.haltStopped.lowerRequest .halt 0).link.ButClaim
    (v.haltStopped.lowerRequest .halt 0).haltLost.link := by
  have masked : (v.haltStopped.lowerRequest .halt 0).mask = v.mask :=
    (lowerRequest_mask ..).trans ((abandonRaise_mask ..).trans (holdOffClamp_mask ..))
  refine State.haltLost_butClaim (.inl ?_)
  rw [State.halted, State.halts_of_mask masked]
  exact h.halted

/-- In the unloader role the first halt ends the raise and makes the lower request with target 0 (R61). -/
theorem lowers (h : s.FirstHalt v) (unloader : v.isUnloader = true) : s.haltEndsRaiseAndLowers (v.haltGained true) := by
  have first : v.haltGained true = (v.haltStopped.lowerRequest .halt 0).haltLost := State.haltGained_first unloader
  have lost := (State.haltLost_eq (v.haltStopped.lowerRequest .halt 0)).1
  have clock : (v.haltGained true).now = s.now := (State.now_of_mask (haltGained_mask true v)).trans h.now
  have lowered := State.OnlyLowering.lowerRequest (c := .halt) (fun _ => rfl) (s := v.haltStopped) 0
  rw [State.abandonRaise_of_not_alive v.haltStopped_alive] at lowered
  have raise : (v.haltGained true).share.raise = s.share.raise.underHalt := by
    rw [first, lost, lowered.raise, h.raise]
  have pending := h.butClaim.pending 0
  refine ⟨raise, fun x queued c hc isRaise => ?_, fun x a sending line isRaise => ?_, fun x d settling level few => ?_,
    fun lowering grant => ?_, fun lowering grant => ?_, fun l lowering => ?_⟩
  · have out := s.link.withdraw_raiseOut
    rw [← h.withdrawn (.inl ⟨x, queued⟩)] at out
    rw [first] at hc
    have stood := h.butClaim.normal c hc
    obtain same | offered := State.haltStopped_lowered_link unloader
    · exact out.normal c (same ▸ stood) isRaise
    · exact Link.lowered_no_raise 0 _ c (offered ▸ stood) isRaise
  · have out := s.link.withdraw_raiseOut
    have marked : v.haltStopped.link.onLine = some { a with withdrawn := true } := by
      rw [h.withdrawn (.inr ⟨x, sending⟩), Link.withdraw_line_eq, line, Option.map_some, if_pos isRaise]
    rw [← h.withdrawn (.inr ⟨x, sending⟩)] at out
    rw [first]
    refine h.butClaim.line _ ?_ (by rw [isRaise]; decide)
    obtain same | offered := State.haltStopped_lowered_link unloader
    · rw [same]; exact marked
    · rw [offered, (out.lowered 0).2]; exact marked
  · have after : v.haltStopped.console.reports <+: (v.haltGained true).console.reports := by
      rw [first]
      exact (State.Reaches.refl.lowerRequest .halt 0).haltLost.reports
    exact after.subset (h.reported settling level few)
  · have start := State.haltStopped_starts_eq unloader (by rw [h.share]; exact lowering) (by rw [h.share]; exact grant)
    rw [State.startsLoweringToZero, clock, raise, first, lost, pending, start]
    refine ⟨Raise.alive_underHalt _, rfl, rfl, _, rfl, fun silent => ?_, fun tx drained => ?_, fun tx filled free => ?_⟩
    · exact State.drainTimer_of_silent (h.sends.trans silent)
    · have ready := (h.feedAtMost 10).trans (State.feedAtMost_of drained)
      exact ⟨State.drainTimer_of_ready ready rfl, State.drain_pending (h.sends.trans tx) ready⟩
    · have full := (h.feedAtMost 10).trans (State.feedAtMost_false_of filled)
      have free' := h.not_pending grant free
      have timer := State.drainTimer_of_waiting (l := ⟨0, none, false, false, false⟩) (h.sends.trans tx) full free'
      rw [State.drains_of_filled full, timer, v.haltStopped_now, h.now]
      exact ⟨rfl, free'⟩
  · have stays := State.haltStopped_idle_eq unloader (by rw [h.share]; exact lowering) (by rw [h.share]; exact grant)
    rw [first, lost, stays, h.owed, h.timer]
    exact ⟨by rw [State.haltStopped_share, h.share]; exact lowering, rfl, rfl⟩
  · have deep := State.haltStopped_deepens_eq unloader (l := l) (by rw [h.share]; exact lowering)
    rw [first, lost, pending, deep, ← h.owed, ← h.timer]
    refine ⟨by split <;> rfl, by split <;> rfl, fun zero => ?_, fun positive => ?_⟩
    · rw [if_neg (by omega), State.haltStopped_share, h.share]; exact lowering
    · rw [if_pos positive]
      exact ⟨⟨_, rfl⟩, fun tx drained =>
        State.drain_pending (h.sends.trans tx) ((h.feedAtMost 10).trans (State.feedAtMost_of drained))⟩

end State.FirstHalt

/-- What the first halt leaves of the raise and the lowering stands where only the urgent queue, the halt's own fields and
the reports change after it. -/
theorem State.haltEndsRaiseAndLowers_after {s u w : State} (h : s.haltEndsRaiseAndLowers u)
    (share : w.share = { u.share with haltTimer := w.share.haltTimer })
    (link : w.link = { u.link with urgent := w.link.urgent }) (now : w.now = u.now)
    (reports : u.console.reports <+: w.console.reports) : s.haltEndsRaiseAndLowers w := by
  have pending : w.link.lowerPending 0 = u.link.lowerPending 0 := by rw [link]; rfl
  obtain ⟨raise, queued, sending, settling, starts, idle, deepens⟩ := h
  unfold State.haltEndsRaiseAndLowers State.startsLoweringToZero at *
  rw [pending, now, share, link]
  exact ⟨raise, queued, sending, fun x d e level room => reports.subset (settling x d e level room), starts, idle, deepens⟩

/-! ### A halt that the station originates (R62) -/

/-- The own halt recorded and the own number a member, before the signals (R62). -/
def State.originated (h : OwnHalt) (s : State) : State :=
  { s with share := { s.share with ownHalt := some h, halts := haltInsert s.share.halts s.own } }

/-- After the signals of the halt set: the HALT offered, its repeat set, and the report (R62, R63). -/
def State.haltSent (h : OwnHalt) (s : State) : State :=
  State.reportHaltOut h.scope h.reason
    { s.offerUrgent (.halt h.scope h.reason) with share := { s.share with haltTimer := some (s.now + 1000) } }

theorem State.offerUrgent_eq (c : Content) (s : State) :
    s.offerUrgent c = { s with link := { s.link with urgent := (s.offerUrgent c).link.urgent } } := by
  unfold State.offerUrgent
  split <;> rfl

theorem State.originateHalt_eq (h : OwnHalt) (s : State) : s.originateHalt h =
    State.haltSent h (if haltMember s.share.halts s.own then s.originated h
      else (s.originated h).haltGained (!s.halted)) := by
  have sent (u : State) (own : u.share.ownHalt = some h) : State.haltSent h u = State.reportHaltOut h.scope h.reason
      { u.offerHalt with share := { u.offerHalt.share with haltTimer := some (u.offerHalt.now + Config.haltRepeat) } } := by
    have offered : u.offerHalt = u.offerUrgent (.halt h.scope h.reason) := by unfold State.offerHalt; rw [own]
    rw [offered, State.offerUrgent_eq, State.haltSent]
    rw [State.offerUrgent_eq]
    rfl
  have own : (if haltMember s.share.halts s.own then s.originated h
      else (s.originated h).haltGained (!s.halted)).share.ownHalt = some h := by
    split
    · rfl
    · exact State.ownHalt_of_mask (haltGained_mask _ (s.originated h))
  rw [sent _ own]
  rfl

theorem State.haltSent_eq (h : OwnHalt) (s : State) : State.haltSent h s = { s with
    share := { s.share with haltTimer := some (s.now + 1000) }
    link := { s.link with urgent := (State.haltSent h s).link.urgent }
    console := (State.haltSent h s).console } := by
  unfold State.haltSent
  rw [State.reportHaltOut, State.report_eq, State.offerUrgent_eq]

theorem State.haltSent_reports (h : OwnHalt) (s : State) : s.console.reports <+: (State.haltSent h s).console.reports := by
  unfold State.haltSent
  rw [State.reportHaltOut, State.offerUrgent_eq]
  exact State.report_prefix .info .share 17 _ { s with
    share := { s.share with haltTimer := some (s.now + 1000) }
    link := { s.link with urgent := (s.offerUrgent (.halt h.scope h.reason)).link.urgent } }

end Sys2Proof.Machine

namespace Sys2Proof.Machine

/-! ### The results of HALT and CLEAR (R62, R64) -/

theorem clearReasonGood_iff {n : Nat} : clearReasonGood n = true ↔ 1 ≤ n ∧ n ≤ 99 := by
  simp [clearReasonGood]

theorem haltScopeOf_byte {x : Byte} : haltScopeOf x.toNat = if x = 1#8 then some HaltScope.belt
    else if x = 2#8 then some HaltScope.quay else none := by
  have one : x.toNat = 1 ↔ x = 1#8 := ⟨fun e => BitVec.eq_of_toNat_eq e, fun e => by rw [e]; rfl⟩
  have two : x.toNat = 2 ↔ x = 2#8 := ⟨fun e => BitVec.eq_of_toNat_eq e, fun e => by rw [e]; rfl⟩
  unfold haltScopeOf
  split
  · rw [if_pos (one.mp ‹_›)]
  · rename_i e; rw [if_neg (fun h => by rw [one.mpr h] at e; cases e), if_pos (two.mp e)]
  · rename_i ne1 ne2; rw [if_neg (fun h => ne1 (one.mpr h)), if_neg (fun h => ne2 (two.mpr h))]

/-- HALT of a scope and a reason in range (R62). -/
theorem handleHalt_good {a b : Nat} {scope : HaltScope} (named : haltScopeOf a = some scope) (good : 1 ≤ b ∧ b ≤ 99)
    (s : State) : handleHalt (a, b) s = if s.transmits = true then
      if 2 ≤ s.link.urgentCount then refuse .busy s else (s.originateHalt ⟨scope, b⟩, .ok, []) else refuse .badState s := by
  unfold handleHalt
  simp only [named, clearReasonGood_iff.mpr good, State.urgentFull_iff, if_true]

theorem handleHalt_bad {a b : Nat} (h : haltScopeOf a = none ∨ ¬ (1 ≤ b ∧ b ≤ 99)) (s : State) :
    handleHalt (a, b) s = refuse .badArg s := by
  unfold handleHalt
  split
  · rfl
  · rename_i scope named
    exact if_neg fun good => (h.resolve_left (by rw [named]; nofun)) (clearReasonGood_iff.mp good)

theorem handleClear_eq (b : Nat) (s : State) : handleClear b s = if 1 ≤ b ∧ b ≤ 99 then
      if s.transmits = true then if 2 ≤ s.link.urgentCount then refuse .busy s else (s.clearHalt b, .ok, [])
      else refuse .badState s
    else refuse .badArg s := by
  unfold handleClear
  simp only [clearReasonGood_iff, State.urgentFull_iff]

/-! ### The station's own halt and its CLEAR -/

theorem haltInsert_ne_zero (m : BitVec 16) (j : StationNo) : haltInsert m j ≠ 0#16 := fun e => by
  have member := haltMember_insert m j j
  rw [e, haltMember] at member
  simp at member

theorem State.originated_firstHalt (h : OwnHalt) (s : State) : s.FirstHalt (s.originated h) :=
  ⟨rfl, rfl, rfl, rfl, rfl, bne_iff_ne.mpr (haltInsert_ne_zero _ _)⟩

/-- A halt that the station originates in the unloader role stops the feed where it is not a member already (R82). -/
theorem State.originateHalt_feed {s : State} (unloader : s.isUnloader = true) (out : haltMember s.share.halts s.own = false)
    (h : OwnHalt) : (s.originateHalt h).gov.feed = 0 := by
  rw [State.originateHalt_eq, if_neg (by rw [out]; decide), State.haltSent_eq]
  have clamped := State.haltGained_gov (s := s.originated h) unloader (!s.halted)
  exact (congrArg Governor.feed clamped).trans (State.holdOffClamp_gov (s := s.originated h) unloader .halt).1

theorem State.originateHalt_lowers {s : State} (unloader : s.isUnloader = true) (calm : s.halted = false) (h : OwnHalt) :
    s.haltEndsRaiseAndLowers (s.originateHalt h) := by
  have out : haltMember s.share.halts s.own = false := State.not_member_of_not_halted calm
  rw [State.originateHalt_eq, if_neg (by rw [out]; decide), calm]
  refine State.haltEndsRaiseAndLowers_after ((s.originated_firstHalt h).lowers unloader) ?_ ?_ ?_ (State.haltSent_reports ..)
  all_goals rw [State.haltSent_eq]; rfl

/-- In the intake role, and where the set is not empty, the share unit changes in the halt's own fields alone. -/
theorem State.originateHalt_share {s : State} (h : OwnHalt) (still : s.isIntake = true ∨ s.halted = true) :
    (s.originateHalt h).share = { s.share with
      ownHalt := (s.originateHalt h).share.ownHalt, halts := (s.originateHalt h).share.halts
      haltTimer := (s.originateHalt h).share.haltTimer } := by
  have gained : ((s.originated h).haltGained (!s.halted)).share = (s.originated h).share := by
    have further : ((!s.halted) && (s.originated h).isUnloader) = false := by
      obtain intake | halted := still
      · have role : (s.originated h).isUnloader = false := State.isUnloader_of_isIntake intake
        rw [role, Bool.and_false]
      · rw [halted]; rfl
    rw [State.haltGained_further further, (State.haltLost_eq _).1, State.holdOffClamp_eq]
  rw [State.originateHalt_eq, State.haltSent_eq]
  split
  · rfl
  · rw [gained]; rfl

section

variable {s : State} (tx : s.transmits = true) (room : s.link.urgentCount < 2)

include tx room

/-- CLEAR leaves of the share unit everything but the halt's own fields (R64). -/
theorem State.clearHalt_share (r : Nat) : (s.clearHalt r).share = { s.share with
    ownHalt := none, haltTimer := none, halts := haltErase s.share.halts s.own } := by
  unfold State.clearHalt
  rw [State.offerUrgent_room tx room]
  exact (State.haltRemove_eq (j := s.own)).1

theorem State.clearHalt_urgent (r : Nat) : (s.clearHalt r).link.urgent = s.link.urgent ++ [.clear r] := by
  unfold State.clearHalt
  rw [State.offerUrgent_room tx room]
  exact congrArg (fun u => u.link.urgent) (State.haltRemove_eq (j := s.own)).2

end

/-- Settles O49: the refusals by the first condition that holds; a HALT by the signals of the halt set, a CLEAR by the
removal of the own number. -/
theorem hostHaltAndClear : Obligations.HostHaltAndClear := by
  intro t tag x r s live room
  dsimp only
  have halts : exec (.halt t tag [x, r]) s = .next (Handled.answered tag (handleHalt (x.toNat, r.toNat) (s.advance t))) :=
    congrArg Host.Outcome.next (State.live_command live room rfl t tag _)
  have clears : exec (.clear t tag [r]) s = .next (Handled.answered tag (handleClear r.toNat (s.advance t))) :=
    congrArg Host.Outcome.next (State.live_command live room rfl t tag _)
  have named (good : x = 1#8 ∨ x = 2#8) :
      haltScopeOf x.toNat = some (if x = 1#8 then HaltScope.belt else HaltScope.quay) := by
    rw [haltScopeOf_byte]
    obtain rfl | rfl := good <;> rfl
  have silent (h : s.transmits = false) : ¬ (s.advance t).transmits = true := by
    intro tx; exact Bool.noConfusion (h.symm.trans tx)
  rw [halts, clears, handleClear_eq]
  refine ⟨fun bad => ?_, fun scope good quiet => ?_, fun scope good tx full => ?_, fun scope good tx free => ?_,
    fun bad => ?_, fun good quiet => ?_, fun good tx full => ?_, fun good tx free => ?_⟩
  · have out : haltScopeOf x.toNat = none ∨ ¬ (1 ≤ r.toNat ∧ r.toNat ≤ 99) := by
      by_cases scope : x = 1#8 ∨ x = 2#8
      · exact .inr fun good => bad ⟨scope, good⟩
      · rw [not_or] at scope
        exact .inl (by rw [haltScopeOf_byte, if_neg scope.1, if_neg scope.2])
    rw [handleHalt_bad out]
    rfl
  · rw [handleHalt_good (named scope) good, if_neg (silent quiet)]
    rfl
  · have busy : 2 ≤ (s.advance t).link.urgentCount := full
    rw [handleHalt_good (named scope) good, if_pos (show (s.advance t).transmits = true from tx), if_pos busy]
    rfl
  · have idle : ¬ 2 ≤ (s.advance t).link.urgentCount := Nat.not_le.mpr free
    have sends : (s.advance t).transmits = true := tx
    rw [handleHalt_good (named scope) good, if_pos sends, if_neg idle]
    have masked := State.originateHalt_mask ⟨if x = 1#8 then .belt else .quay, r.toNat⟩ (s.advance t) sends
    have members : ((s.advance t).originateHalt ⟨if x = 1#8 then .belt else .quay, r.toNat⟩).share.halts
        = haltInsert s.share.halts s.own := State.halts_of_mask masked
    refine ⟨_, rfl, State.ownHalt_of_mask masked, ?_, fun j other => ?_, ?_, State.haltTimer_of_mask masked,
      (State.grant_of_mask masked :), fun unloader out => State.originateHalt_feed (s := s.advance t) unloader out _,
      fun unloader calm => ?_, fun still => State.originateHalt_share (s := s.advance t) _ still⟩
    · refine (congrArg (haltMember · s.own) members).trans ?_
      rw [haltMember_insert]
      simp
    · refine (congrArg (haltMember · j) members).trans ?_
      rw [haltMember_insert, decide_eq_false other, Bool.or_false]
    · exact (State.urgent_of_mask masked).trans (if_pos free)
    · exact State.haltEndsRaiseAndLowers_after (State.originateHalt_lowers (s := s.advance t) unloader calm _) rfl rfl rfl
        (by rw [Handled.answered, Console.respond_reports])
  · rw [if_neg bad]
    rfl
  · rw [if_pos good, if_neg (silent quiet)]
    rfl
  · have busy : 2 ≤ (s.advance t).link.urgentCount := full
    rw [if_pos good, if_pos (show (s.advance t).transmits = true from tx), if_pos busy]
    rfl
  · have idle : ¬ 2 ≤ (s.advance t).link.urgentCount := Nat.not_le.mpr free
    have sends : (s.advance t).transmits = true := tx
    have share := State.clearHalt_share sends free r.toNat
    have members : ((s.advance t).clearHalt r.toNat).share.halts = haltErase s.share.halts s.own := congrArg Share.halts share
    rw [if_pos good, if_pos sends, if_neg idle]
    refine ⟨_, rfl, congrArg Share.ownHalt share, congrArg Share.haltTimer share, ?_, fun j other => ?_,
      State.clearHalt_urgent sends free r.toNat, share.trans ?_⟩
    · refine (congrArg (haltMember · s.own) members).trans ?_
      rw [haltMember_erase]
      simp
    · refine (congrArg (haltMember · j) members).trans ?_
      rw [haltMember_erase, decide_eq_true other, Bool.and_true]
    · exact congrArg (fun m => { s.share with ownHalt := none, haltTimer := none, halts := m }) members.symm

end Sys2Proof.Machine

/-! ## A lower request, whatever stands on the line (R52, R53, R55, R58, R83) -/

namespace Sys2Proof.Machine

/-! ### The request by the lowering in progress (R52) -/

section

variable {s : State} (c : LowerCause) (x : Nat)

theorem State.lowerRequest_of_none (lowering : s.share.lowering = none) : s.lowerRequest c x =
    if x < s.share.grant then (s.abandonRaise .lower).startLowering c x else (s.abandonRaise .lower).signalDrained c := by
  have share := State.abandonRaise_share .lower s
  have none : (s.abandonRaise .lower).share.lowering = none := by rw [share]; exact lowering
  have grant : (s.abandonRaise .lower).share.grant = s.share.grant := by rw [share]
  unfold State.lowerRequest
  simp only [none, grant]

theorem State.lowerRequest_of_some {l : Lowering} (lowering : s.share.lowering = some l) : s.lowerRequest c x =
    if x < l.target then (s.abandonRaise .lower).deepenLowering l c x
    else (s.abandonRaise .lower).setLowering (some (l.join c)) := by
  have some : (s.abandonRaise .lower).share.lowering = some l := by rw [State.abandonRaise_share]; exact lowering
  unfold State.lowerRequest
  simp only [some]

end

/-! ### The clamp and the drain of a lowering started or deepened -/

theorem State.handMachine_setShare (f : MachineFrame) (u : Share) (s : State) :
    State.handMachine f { s with share := u } = { s.handMachine f with share := u } := by
  unfold State.handMachine
  dsimp only
  split <;> rfl

theorem State.setFeed_setShare (f : Nat) (u : Share) (s : State) :
    State.setFeed f { s with share := u } = { s.setFeed f with share := u } := by
  unfold State.setFeed
  split <;> rfl

/-- The governor's clamp turns on F and the machine output alone (R83). -/
theorem State.loweringClamp_setShare (n : Nat) (u : Share) (s : State) :
    State.loweringClamp n { s with share := u } = { s.loweringClamp n with share := u } := by
  unfold State.loweringClamp
  split
  · rw [State.setFeed_setShare, State.handMachine_setShare]
  · rfl

theorem State.loweringClamp_eq (n : Nat) (s : State) :
    s.loweringClamp n = { s with gov := (s.loweringClamp n).gov, machine := (s.loweringClamp n).machine } := by
  unfold State.loweringClamp
  split
  · rw [State.handMachine_eq, State.setFeed_eq]
  · rfl

/-- A lowering put in place is clamped and its drain driven. -/
theorem State.drive_eq (u : Share) {l : Lowering} (n : Nat) (s : State) (lowering : u.lowering = some l)
    (feed : u.feed = s.share.feed) :
    (State.loweringClamp n { s with share := u }).drainTest.armDrain = { s.loweringClamp n with
      share := { u with lowering := some { l with deadline := s.drainTimer l } }
      link := if s.drains l then s.link.lowered l.target else s.link } := by
  have clamp := State.loweringClamp_eq n s
  have feedAtMost (k : Nat) (v : State) (same : v.share = u) : v.feedAtMost k = s.feedAtMost k := by
    unfold State.feedAtMost; rw [same, feed]
  have timer (v : State) (share : v.share = u) (link : v.link = s.link) (station : v.station = s.station)
      (now : v.now = s.now) : v.drainTimer l = s.drainTimer l ∧ v.drains l = s.drains l := by
    unfold State.drainTimer State.drains State.transmits
    rw [feedAtMost _ v share, link, station, now]
    exact ⟨rfl, rfl⟩
  rw [State.loweringClamp_setShare, clamp, State.drain_eq lowering]
  obtain ⟨deadline, drains⟩ := timer { s.loweringClamp n with share := u } rfl
    (by rw [clamp]) (by rw [clamp]) (by rw [clamp])
  rw [clamp] at deadline drains
  rw [deadline, drains]

/-- A lowering started (R52). -/
theorem State.startLowering_eq (c : LowerCause) (x : Nat) (s : State) : s.startLowering c x = { s.loweringClamp x with
    share := { s.share with
      lowering := some { Lowering.join c ⟨x, none, false, false, false⟩ with
        deadline := s.drainTimer ⟨x, none, false, false, false⟩ }
      releaseTimer := none, yieldOwed := false }
    link := if s.drains ⟨x, none, false, false, false⟩ then s.link.lowered x else s.link } := by
  have driven := State.drive_eq { s.share with
    lowering := some (Lowering.join c ⟨x, none, false, false, false⟩), releaseTimer := none, yieldOwed := false } x s rfl rfl
  cases c <;> exact driven

/-- A lowering in progress taken lower (R52). -/
theorem State.deepenLowering_eq (l : Lowering) (c : LowerCause) (x : Nat) (s : State) :
    s.deepenLowering l c x = { s.loweringClamp x with
      share := { s.share with
        lowering := some { l.join c with target := x, deadline := s.drainTimer { l with target := x } } }
      link := if s.drains { l with target := x } then s.link.lowered x else s.link } := by
  have driven := State.drive_eq { s.share with lowering := some { l.join c with target := x } } x s rfl rfl
  cases c <;> exact driven

/-! ### DRAIN_STALL and RELEASE_TIMER_EXPIRY (R55, R58) -/

/-- The release timer's expiry with no lowering and no raise (R58): a lowering to A where A is below G. -/
theorem State.releaseGrant_eq {s : State} (lowering : s.share.lowering = none) (raise : s.share.raise = .none) :
    s.releaseGrant = if s.gov.allowed < s.share.grant then
        State.startLowering .release s.gov.allowed { s with share := { s.share with releaseTimer := none } }
      else { s with share := { s.share with releaseTimer := none } } := by
  have idle := State.abandonRaise_of_not_alive (s := { s with share := { s.share with releaseTimer := none } })
    (by rw [raise]; rfl) .lower
  unfold State.releaseGrant
  rw [State.lowerRequest_of_none _ _ (by exact lowering), idle]
  rfl

/-- Settles O26: the stalled drain in one equation, the release timer by the lowering that its request starts. -/
theorem drainStallsAndGrantIsReleased : Obligations.DrainStallsAndGrantIsReleased := by
  intro s live
  refine ⟨fun l d lowering deadline => ?_, fun d timer lowering raise => ?_⟩
  · have e : exec .drainStall s = .next (s.advance d).stallDrain := by
      have due : s.share.lowering.bind (·.deadline) = some d := by rw [lowering]; exact deadline
      change Host.Outcome.next (s.expire (s.share.lowering.bind (·.deadline)) State.stallDrain) = _
      rw [due, expire_run d _ s live]
    rw [e]
    unfold State.stallDrain
    simp only [advance_share, lowering]
    rw [State.reportDrainStall, State.report_eq]
    rfl
  · have e : exec .releaseTimerExpiry s = .next (s.advance d).releaseGrant := by
      change Host.Outcome.next (s.expire s.share.releaseTimer State.releaseGrant) = _
      rw [timer, expire_run d _ s live]
    have released := State.releaseGrant_eq (s := s.advance d) lowering raise
    by_cases below : s.gov.allowed < s.share.grant
    · rw [if_pos (show (s.advance d).gov.allowed < (s.advance d).share.grant from below), State.startLowering_eq] at released
      rw [released] at e
      exact ⟨_, e, rfl, rfl, fun _ => ⟨_, rfl⟩, fun above => absurd below (Nat.not_lt.mpr above)⟩
    · rw [if_neg (show ¬ (s.advance d).gov.allowed < (s.advance d).share.grant from below)] at released
      rw [released] at e
      exact ⟨_, e, rfl, rfl, fun low => absurd low below, fun _ => rfl⟩

end Sys2Proof.Machine

/-! ## The periodic frames: HALT, CAPACITY, TALLY and STATUS (R63, R67, R101, R173) -/

namespace Sys2Proof.Machine

/-! ### The urgent queue and the TALLY/RECALL list -/

/-- An urgent frame is appended where the station transmits and has room, and dropped otherwise (R13, R17). -/
theorem State.offerUrgent_link (c : Content) (s : State) : s.offerUrgent c = { s with
    link := if s.transmits = true ∧ s.link.urgentCount < 2
      then { s.link with urgent := s.link.urgent ++ [c] } else s.link } := by
  unfold State.offerUrgent
  by_cases tx : s.transmits = true
  · by_cases full : 2 ≤ s.link.urgentCount
    · rw [if_neg (by simp [State.urgentFull_iff, full]), if_neg (by omega)]
    · rw [if_pos (by simp [State.urgentFull, tx]; omega), if_pos ⟨tx, by omega⟩]
  · rw [if_neg (by simp [tx]), if_neg (fun both => tx both.1)]

/-- A TALLY or RECALL offered changes the transmit set, and the console where it is reported dropped (R15). -/
theorem State.offerListed_eq (c : Content) (s : State) : s.offerListed c = { s with
    link := if s.transmits = true ∧ s.link.listCount < 4
      then { s.link with normal := s.link.normal ++ [c] } else s.link
    console := (s.offerListed c).console } := by
  unfold State.offerListed
  by_cases tx : s.transmits = true
  · by_cases room : s.link.listCount < 4
    · rw [if_pos tx, if_pos room, if_pos ⟨tx, room⟩]
    · rw [if_pos tx, if_neg room, if_neg (fun both => room both.2), State.reportTxqFull, State.report_eq]
  · rw [if_neg tx, if_neg (fun both => tx both.1)]

/-- A TALLY offered changes the transmit set and the console alone (R101). -/
theorem State.offerTally_eq (s : State) : s.offerTally = { s with
    link := s.offerTally.link, console := s.offerTally.console } := by
  unfold State.offerTally
  split
  · split
    · rfl
    · rw [State.offerListed_eq]
  · rfl

theorem State.offerTally_of_room {s : State} {r : PlanRecord} (ready : s.readyPlan = some r) (pairs : s.ownPairs ≠ [])
    (tx : s.transmits = true) (room : s.link.listCount < 4) :
    s.offerTally.link = { s.link with normal := s.link.normal ++ [.tally ⟨r.id, s.ownPairs⟩] } := by
  unfold State.offerTally
  simp only [ready]
  rw [if_neg pairs, State.offerListed_eq, if_pos ⟨tx, room⟩]

/-- Without a READY plan, or with every own cell 0, no TALLY is offered (R101). -/
theorem State.offerTally_of_nothing {s : State} (nothing : s.readyPlan = none ∨ s.ownPairs = []) : s.offerTally = s := by
  unfold State.offerTally
  split
  · next ready =>
    obtain none | empty := nothing
    · simp [none] at ready
    · rw [if_pos empty]
  · rfl

/-! ### The fields of an own STATUS (R107, R173) -/

/-- The sequence a STATUS in the normal set carries. -/
def Content.queuedSeq : Content → Option (BitVec 8)
  | .status b => some b.seq
  | _ => none

theorem Content.queuedSeq_eq_none {c : Content} (other : c.kind ≠ .status) : c.queuedSeq = none := by
  cases c with
  | status b => exact absurd rfl other
  | _ => rfl

theorem State.statusSeq_eq (s : State) : s.statusSeq = match s.link.normal.findSome? Content.queuedSeq with
    | some q => q
    | none => match s.link.onLine with
      | some ⟨.status b, _, _⟩ => b.seq + 1#8
      | _ => match s.station.lastSentSeq with
        | some q => q + 1#8
        | none => 0#8 := rfl

theorem State.statusSeq_of_queued {s : State} {before rest : List Content} {x : StatusBody}
    (normal : s.link.normal = before ++ .status x :: rest) (first : ∀ f ∈ before, f.kind ≠ .status) :
    s.statusSeq = x.seq := by
  have skipped : before.findSome? Content.queuedSeq = none :=
    List.findSome?_eq_none_iff.mpr fun f mem => Content.queuedSeq_eq_none (first f mem)
  rw [State.statusSeq_eq, normal, List.findSome?_append, skipped]
  rfl

section

variable {s : State} (unqueued : ∀ f ∈ s.link.normal, f.kind ≠ .status)

include unqueued

theorem State.queuedSeq_none : s.link.normal.findSome? Content.queuedSeq = none :=
  List.findSome?_eq_none_iff.mpr fun f mem => Content.queuedSeq_eq_none (unqueued f mem)

theorem State.statusSeq_of_onLine {a : Attempt} {x : StatusBody} (line : s.link.onLine = some a)
    (status : a.content = .status x) : s.statusSeq = x.seq + 1#8 := by
  obtain ⟨c, word, withdrawn⟩ := a
  subst status
  rw [State.statusSeq_eq, State.queuedSeq_none unqueued, line]

theorem State.statusSeq_of_sent (line : ∀ a, s.link.onLine = some a → a.content.kind ≠ .status) :
    s.statusSeq = match s.station.lastSentSeq with
      | some q => q + 1#8
      | none => 0#8 := by
  rw [State.statusSeq_eq, State.queuedSeq_none unqueued]
  dsimp only
  split
  · next x word withdrawn on => exact absurd rfl (line _ on)
  · rfl

end

theorem State.announcedSlot_of_settled {s : State} {c : ClaimBody} (own : s.claim.own = some c)
    (phase : s.claim.phase = .settling ∨ s.claim.phase = .settled) : s.announcedSlot = (c.hold, c.slot) := by
  unfold State.announcedSlot
  obtain settling | settled := phase
  · rw [settling, own]
  · rw [settled, own]

theorem State.announcedSlot_of_other {s : State} (settling : s.claim.phase ≠ .settling) (settled : s.claim.phase ≠ .settled) :
    s.announcedSlot = (0, 0) := by
  unfold State.announcedSlot
  split
  · next phase _ => exact absurd phase settling
  · next phase _ => exact absurd phase settled
  · rfl

/-! ### The four expiries -/

theorem State.periodicStatus_eq {s : State} (tx : s.transmits = true) : s.periodicStatus = { s with
    station := { s.station with statusTimer := some (s.now + 500) }
    link := s.link.placeSingle (.status s.statusBody) } :=
  State.offerSingle_of_transmits (c := .status s.statusBody)
    (s := { s with station := { s.station with statusTimer := some (s.now + 500) } }) tx nofun

/-- Settles O27: one equation for each expiry, and the fields of the STATUS one by one. -/
theorem periodicTimersOfferTheirFrame : Obligations.PeriodicTimersOfferTheirFrame := by
  intro s d live
  refine ⟨fun h timer halt => ?_, fun c timer cap tx => ?_, fun timer => ?_, fun timer tx => ?_⟩
  · have e : exec .haltRepeat s = .next (s.advance d).repeatHalt := by
      change Host.Outcome.next (s.expire s.share.haltTimer State.repeatHalt) = _
      rw [timer, expire_run d _ s live]
    have offered : (s.advance d).offerHalt = (s.advance d).offerUrgent (.halt h.scope h.reason) := by
      unfold State.offerHalt
      rw [show (s.advance d).share.ownHalt = some h from halt]
    rw [e, State.repeatHalt, offered, State.offerUrgent_link]
    rfl
  · have e : exec .capacityRepeat s = .next (s.advance d).offerCapacity := by
      change Host.Outcome.next (s.expire s.share.capTimer State.offerCapacity) = _
      rw [timer, expire_run d _ s live]
    rw [e, State.offerCapacity_eq (by exact cap) (by exact tx)]
    rfl
  · have e : exec .tallyTimerExpiry s = .next (s.advance d).periodicTally := by
      change Host.Outcome.next (s.expire s.plan.tallyTimer State.periodicTally) = _
      rw [timer, expire_run d _ s live]
    refine ⟨_, e, ?_, fun r ready pairs tx room => ?_, fun nothing => ?_⟩
    · exact State.offerTally_eq _
    · exact State.offerTally_of_room (by exact ready) (by exact pairs) (by exact tx) (by exact room)
    · exact congrArg (·.link) (State.offerTally_of_nothing
        (s := { s.advance d with plan := { s.plan with tallyTimer := some (max s.now d + 5000) } }) nothing)
  · have e : exec .statusTimerExpiry s = .next (s.advance d).periodicStatus := by
      change Host.Outcome.next (s.expire s.station.statusTimer State.periodicStatus) = _
      rw [timer, expire_run d _ s live]
    rw [State.periodicStatus_eq (by exact tx)] at e
    refine ⟨_, e, rfl, rfl, rfl, rfl, rfl, ?_, rfl, rfl, rfl, fun cfg config => ?_, rfl, fun c own phase hold => ?_,
      fun settling settled => ?_, ?_, fun before x rest normal first => ?_, fun unqueued =>
      ⟨fun a x line status => ?_, fun line => ?_⟩⟩
    · change s.share.raise.announced = _
      unfold Raise.announced
      rfl
    · change (match s.station.config with | some c => c.capacity | none => 0) = _
      rw [config]
    · have slot : (s.advance d).announcedSlot = (c.hold, c.slot) := State.announcedSlot_of_settled (by exact own) (by exact phase)
      refine ⟨congrArg Prod.fst slot, congrArg Prod.snd slot, ?_⟩
      have held : (s.advance d).announcedSlot.1 ≠ 0 := by rw [slot]; exact Nat.one_le_iff_ne_zero.mp hold
      exact if_neg held
    · have slot : (s.advance d).announcedSlot = (0, 0) := State.announcedSlot_of_other (by exact settling) (by exact settled)
      exact ⟨congrArg Prod.fst slot, congrArg Prod.snd slot, if_pos (congrArg Prod.fst slot)⟩
    · have cell (h : Nat) : s.cell h s.own = s.ownCell h := if_pos rfl
      rw [cell]
      rfl
    · exact State.statusSeq_of_queued (s := s.advance d) normal first
    · exact State.statusSeq_of_onLine (s := s.advance d) unqueued line status
    · exact State.statusSeq_of_sent (s := s.advance d) unqueued line

end Sys2Proof.Machine

/-! ## What the share unit and the hold limit change at a governor update (R47, R48, R58, R59, R61, R84) -/

namespace Sys2Proof.Machine

/-- F stands at the machine output: the frame being sent, or one that waits (R151). -/
def State.feedHanded (s : State) : Prop :=
  s.machine.sending = some (.setpoint s.gov.feed) ∨ .setpoint s.gov.feed ∈ s.machine.waiting

theorem mem_placeWaiting (f : MachineFrame) (l : List MachineFrame) : f ∈ placeWaiting f l := by
  induction l with
  | nil => exact List.mem_singleton_self f
  | cons g rest ih =>
    unfold placeWaiting
    split
    · exact List.mem_cons_self
    · exact List.mem_cons_of_mem _ ih

/-- A SETPOINT that carries F, once handed over, stands at the machine output. -/
theorem State.handMachine_feedHanded {s : State} {f : Nat} (feed : s.gov.feed = f) :
    (s.handMachine (.setpoint f)).feedHanded := by
  subst feed
  unfold State.handMachine
  split
  · exact .inl rfl
  · exact .inr (mem_placeWaiting _ _)

theorem State.handMachine_sending_idle {s : State} (idle : s.machine.sending = none) (f : MachineFrame) :
    (s.handMachine f).machine.sending = some f := by
  unfold State.handMachine; rw [idle]

theorem State.handMachine_sending_busy {s : State} {g : MachineFrame} (busy : s.machine.sending = some g) (f : MachineFrame) :
    (s.handMachine f).machine.sending = some g := by
  unfold State.handMachine; rw [busy]; exact busy

theorem State.setFeed_feed (f : Nat) (s : State) : (s.setFeed f).gov = { s.gov with feed := f } := by
  unfold State.setFeed
  split
  · next zero => rw [zero]
  · rfl

theorem State.setFeed_machine (f : Nat) (s : State) :
    (s.setFeed f).machine = { s.machine with chokeEntry := (s.setFeed f).machine.chokeEntry } := by
  unfold State.setFeed; split <;> rfl

/-- `t` comes of `s` by what follows the new F in a governor update: of the governor F alone changes, downwards and handed over,
and the limit record; the reservations, the capacity, G and the halt set stand. -/
structure State.Follows (s t : State) : Prop where
  shape : t = { s with
    link := t.link, console := t.console, order := t.order
    gov := { s.gov with feed := t.gov.feed, limit := t.gov.limit }
    machine := { s.machine with
      sending := t.machine.sending, waiting := t.machine.waiting, chokeEntry := t.machine.chokeEntry }
    share := { s.share with
      raise := t.share.raise, yieldOwed := t.share.yieldOwed, lowering := t.share.lowering
      releaseTimer := t.share.releaseTimer, overcommit := t.share.overcommit } }
  feed : t.gov.feed ≤ s.gov.feed
  sending : ∀ f, s.machine.sending = some f → t.machine.sending = some f
  handed : s.feedHanded → t.feedHanded

namespace State.Follows

variable {s t u : State}

/-- A change that leaves the governor and the machine output as they are. -/
theorem of_shape (shape : t = { s with
    link := t.link, console := t.console, order := t.order
    gov := { s.gov with limit := t.gov.limit }
    share := { s.share with
      raise := t.share.raise, yieldOwed := t.share.yieldOwed, lowering := t.share.lowering
      releaseTimer := t.share.releaseTimer, overcommit := t.share.overcommit } }) : s.Follows t := by
  rw [shape]
  exact ⟨rfl, Nat.le_refl _, fun _ same => same, id⟩

theorem refl : s.Follows s := of_shape rfl

theorem trans (h : s.Follows t) (h' : t.Follows u) : s.Follows u where
  shape := by
    have first := h.shape
    have second := h'.shape
    rw [first] at second
    exact second
  feed := h'.feed.trans h.feed
  sending f same := h'.sending f (h.sending f same)
  handed stands := h'.handed (h.handed stands)

theorem report (l : Level) (b : Source) (c : Nat) (as : List Nat) : s.Follows (s.report l b c as) := by
  rw [State.report_eq]; exact of_shape rfl

theorem withdraw (k : Kind) : s.Follows (s.withdraw k) := of_shape rfl

theorem setRaise (r : Raise) : s.Follows (s.setRaise r) := of_shape rfl

theorem offerSingle (c : Content) : s.Follows (s.offerSingle c) := by
  rw [State.offerSingle_eq]; exact of_shape rfl

theorem offerRaise (x : Nat) : s.Follows (s.offerRaise x) := (setRaise _).trans (offerSingle _)

theorem loweringClamp (n : Nat) : s.Follows (s.loweringClamp n) := by
  unfold State.loweringClamp
  split
  · next above =>
    have gov : ((s.setFeed n).handMachine (.setpoint n)).gov = { s.gov with feed := n } := by
      rw [State.handMachine_eq]; exact State.setFeed_feed n s
    refine ⟨?_, ?_, fun f busy => ?_, fun _ => ?_⟩
    · unfold State.handMachine State.setFeed
      split <;> split <;> rfl
    · rw [gov]; exact Nat.le_of_lt above
    · exact State.handMachine_sending_busy (by rw [State.setFeed_machine]; exact busy) _
    · exact State.handMachine_feedHanded (by rw [State.setFeed_feed])
  · exact refl

theorem abandonRaise (c : YieldCause) : s.Follows (s.abandonRaise c) := by
  refine of_shape ?_
  have only := State.OnlyRaise.abandonRaise (s := s) c
  have share := s.abandonRaise_share c
  unfold State.OnlyRaise at only
  rw [share] at only ⊢
  rw [only]

theorem startLowering (c : LowerCause) (x : Nat) : s.Follows (s.startLowering c x) := by
  rw [State.startLowering_eq]
  refine (loweringClamp x).trans (of_shape ?_)
  rw [State.loweringClamp_eq]

theorem deepenLowering (l : Lowering) (c : LowerCause) (x : Nat) : s.Follows (s.deepenLowering l c x) := by
  rw [State.deepenLowering_eq]
  refine (loweringClamp x).trans (of_shape ?_)
  rw [State.loweringClamp_eq]

/-- A lower request whose requester takes no signal. -/
theorem lowerRequest {c : LowerCause} (quiet : ∀ v : State, v.signalDrained c = v) (x : Nat) :
    s.Follows (s.lowerRequest c x) := by
  cases lowering : s.share.lowering with
  | none =>
    rw [State.lowerRequest_of_none c x lowering, quiet]
    split
    · exact (abandonRaise _).trans (startLowering c x)
    · exact abandonRaise _
  | some l =>
    rw [State.lowerRequest_of_some c x lowering]
    split
    · exact (abandonRaise _).trans (deepenLowering l c x)
    · exact (abandonRaise _).trans (of_shape rfl)

theorem startRaise : s.Follows s.startRaise := by
  unfold State.startRaise
  split
  · exact offerRaise _
  · exact refl

theorem reviewRaise (b : Bool) : s.Follows (s.reviewRaise b) := by
  unfold State.reviewRaise
  split
  · split
    · exact (withdraw .raise).trans (setRaise _)
    · split
      · exact refl
      · exact offerRaise _
  · exact refl

theorem reviewRelease : s.Follows s.reviewRelease := by
  unfold State.reviewRelease
  split
  · split
    · exact of_shape rfl
    · exact refl
  · exact of_shape rfl

theorem shed : s.Follows s.shed := by
  have lowered := lowerRequest (s := s) (c := .shed) (fun _ => rfl)
  unfold State.shed
  split
  · split
    · split
      · dsimp only
        split
        · exact lowered _
        · exact ((lowered _).trans (of_shape rfl)).trans (report ..)
      · exact refl
    · exact of_shape rfl
  · exact refl

theorem haltLower : s.Follows s.haltLower := by
  unfold State.haltLower
  split
  · exact lowerRequest (fun _ => rfl) 0
  · exact refl

theorem shareUpdate : s.Follows s.shareUpdate :=
  (((startRaise.trans (reviewRaise true)).trans reviewRelease).trans shed).trans haltLower

theorem setLimitHeld (b : Bool) : s.Follows (s.setLimitHeld b) := by
  unfold State.setLimitHeld
  split
  · exact of_shape rfl
  · exact refl

theorem judgeLimit (a b : Nat) : s.Follows (s.judgeLimit a b) := by
  have set (v : State) (l : Option ClosedLimit) : v.Follows (v.setLimit l) := of_shape rfl
  unfold State.judgeLimit
  split
  · split
    · split
      · exact ((set _ _).trans (setLimitHeld true)).trans (report ..)
      · exact set _ _
    · split
      · exact refl
      · exact (set _ _).trans (setLimitHeld false)
  · exact set _ _

theorem exhaustionTest : s.Follows s.exhaustionTest := by
  unfold State.exhaustionTest
  split
  · split
    · exact of_shape rfl
    · exact refl
  · exact of_shape rfl

end State.Follows

end Sys2Proof.Machine

/-! ## The values a governor update records, and what follows them (R71, R79 to R81) -/

namespace Sys2Proof.Machine

/-! ### The new F (R71, R80, R81) -/

section

variable (g : GovTerms) (s : State)

/-- F_t and its binding term as an update forms them (R80). -/
def State.updateTarget : Nat × BindTarget :=
  feedTarget (s.holdOff g.balance g.trim) g.allowed s.share.grant (s.share.lowering.map (·.target))

/-- F as an update forms it (R81). -/
def State.updateFeed : Nat := ramp (s.updateTarget g).1 s.gov.feed

/-- The values recorded, and F handed to the machine interface (R71). -/
def State.governed : State := (s.recordUpdate g).handMachine (.setpoint (s.recordUpdate g).gov.feed)

theorem State.recordUpdate_gov : (s.recordUpdate g).gov = { s.gov with
    feed := s.updateFeed g
    allowed := g.allowed
    target := (s.updateTarget g).1
    taper := g.taper
    balance := g.balance
    trim := g.trim
    machineCap := g.cap
    moment := if g.moment.isSome then g.moment else s.gov.moment
    room := if g.room.isSome then g.room else s.gov.room
    bindAllowed := g.bind
    bindTarget := (s.updateTarget g).2
    timer := some (s.now + 250) } :=
  State.setFeed_feed _ _

theorem State.governed_gov : (s.governed g).gov = (s.recordUpdate g).gov := by
  unfold State.governed; rw [State.handMachine_eq]

/-- The governor's record and the machine output change, and nothing else. -/
theorem State.governed_eq : s.governed g = { s with
    gov := (s.governed g).gov
    machine := { s.machine with
      sending := (s.governed g).machine.sending, waiting := (s.governed g).machine.waiting
      chokeEntry := (s.governed g).machine.chokeEntry } } := by
  unfold State.governed State.recordUpdate State.handMachine State.setFeed
  dsimp only
  split <;> split <;> rfl

theorem State.governed_feedHanded : (s.governed g).feedHanded := State.handMachine_feedHanded rfl

theorem State.governed_sending (idle : s.machine.sending = none) :
    (s.governed g).machine.sending = some (.setpoint (s.updateFeed g)) := by
  have recorded : (s.recordUpdate g).machine.sending = none := by
    unfold State.recordUpdate
    rw [State.setFeed_machine]
    exact idle
  unfold State.governed
  rw [State.handMachine_sending_idle recorded, State.recordUpdate_gov]

end

/-! ### The limit and the exhaustion test (R84 to R86, R131) -/

theorem State.setLimitHeld_eq (b : Bool) (s : State) : s.setLimitHeld b = { s with order := (s.setLimitHeld b).order } := by
  unfold State.setLimitHeld; split <;> rfl

theorem State.judgeLimit_eq (a b : Nat) (s : State) : s.judgeLimit a b = { s with
    gov := (s.judgeLimit a b).gov, order := (s.judgeLimit a b).order, console := (s.judgeLimit a b).console } := by
  unfold State.judgeLimit
  split
  · split
    · split
      · rw [State.reportHoldLimit, State.report_eq, State.setLimitHeld_eq]; rfl
      · rfl
    · split
      · rfl
      · rw [State.setLimitHeld_eq]; rfl
  · rfl

theorem State.exhaustionTest_eq (s : State) : s.exhaustionTest = { s with order := s.exhaustionTest.order } := by
  unfold State.exhaustionTest
  split
  · split <;> rfl
  · rfl

/-- An update in its parts (R71). -/
theorem State.governorUpdate_eq (s : State) : s.governorUpdate =
    (((s.governed s.govTerms).shareUpdate).judgeLimit s.govTerms.balance s.govTerms.trim).exhaustionTest := rfl

/-- The share unit and the transmit set as an update leaves them. -/
theorem State.governorUpdate_share_link (s : State) : s.governorUpdate.share = (s.governed s.govTerms).shareUpdate.share
    ∧ s.governorUpdate.link = (s.governed s.govTerms).shareUpdate.link := by
  have limit (v : State) (a b : Nat) : (v.judgeLimit a b).share = v.share ∧ (v.judgeLimit a b).link = v.link := by
    rw [State.judgeLimit_eq]; exact ⟨rfl, rfl⟩
  have test (v : State) : v.exhaustionTest.share = v.share ∧ v.exhaustionTest.link = v.link := by
    rw [State.exhaustionTest_eq]; exact ⟨rfl, rfl⟩
  rw [State.governorUpdate_eq, (test _).1, (test _).2, (limit _ _ _).1, (limit _ _ _).2]
  exact ⟨rfl, rfl⟩

/-- What follows the new F in an update (R71). -/
theorem State.governed_follows (s : State) : (s.governed s.govTerms).Follows s.governorUpdate := by
  rw [State.governorUpdate_eq]
  exact (State.Follows.shareUpdate.trans (State.Follows.judgeLimit ..)).trans State.Follows.exhaustionTest

end Sys2Proof.Machine

/-! ## The own raise at a governor update (R47, R48) -/

namespace Sys2Proof.Machine

/-! ### The conditions -/

/-- An increment of 10 or more lies below A (R47): the condition that G be below A is met with it. -/
theorem State.grant_lt_allowed {s : State} (room : 10 ≤ s.increment) : s.share.grant < s.gov.allowed := by
  unfold State.increment at room
  omega

/-- An increment of 10 or more lies below the headroom: there is no overcommit (R47, R59). -/
theorem State.not_overcommitted {s : State} (room : 10 ≤ s.increment) : s.share.resv + s.share.grant ≤ s.share.capacity := by
  unfold State.increment State.headroom at room
  omega

theorem State.startRaise_of_stands {s : State} (unloader : s.isUnloader = true) (none : s.share.raise = .none)
    (owed : s.share.yieldOwed = false) (stands : s.raiseStands) :
    s.startRaise = s.offerRaise (s.share.grant + s.increment.toNat) := by
  have below := State.grant_lt_allowed stands.2.2.2.2
  obtain ⟨calm, lowering, active, poor, room⟩ := stands
  unfold State.startRaise
  refine if_pos ?_
  simp [unloader, none, owed, calm, lowering, active, poor, below, room]

theorem State.startRaise_of_not {s : State}
    (fails : ¬ (s.isUnloader = true ∧ s.share.raise = .none ∧ s.share.yieldOwed = false ∧ s.raiseStands)) :
    s.startRaise = s := by
  unfold State.startRaise
  refine if_neg fun holds => fails ?_
  simp only [Bool.and_eq_true, Bool.not_eq_true', decide_eq_true_eq, beq_iff_eq, Option.isNone_iff_eq_none] at holds
  obtain ⟨⟨⟨⟨⟨⟨⟨⟨unloader, active⟩, poor⟩, none⟩, owed⟩, lowering⟩, calm⟩, -⟩, room⟩ := holds
  exact ⟨unloader, none, owed, calm, lowering, active, poor, room⟩

/-- The condition that A be at most G, tested at an update alone, adds nothing to the others of R48. -/
theorem State.reviewRaise_update {s : State} : s.reviewRaise true = s.reviewRaise false := by
  unfold State.reviewRaise
  split
  · have same : (decide (s.gov.allowed ≤ s.share.grant) || decide (s.increment < 10)) = decide (s.increment < 10) := by
      by_cases room : 10 ≤ s.increment
      · have below := State.grant_lt_allowed room
        simp [below]
      · simp [Int.not_le.mp room]
    rw [Bool.true_and, Bool.false_and, Bool.or_false, Bool.or_assoc, same]
  · rfl

theorem State.offerRaise_eq {s : State} (tx : s.transmits = true) (x : Nat) : s.offerRaise x = { s with
    share := { s.share with raise := .queued x }, link := s.link.placeSingle (.raise x s.share.grant) } :=
  State.offerSingle_of_transmits (s := s.setRaise (.queued x)) (c := .raise x s.share.grant) tx nofun

theorem Link.placeSingle_rxPoor (c : Content) (l : Link) : (l.placeSingle c).rxPoor = l.rxPoor := by
  unfold Link.placeSingle
  split
  · rfl
  · split <;> rfl

/-- The own raise as an update leaves it before the lowerings (R47, R48). -/
def State.raised (s : State) : State := s.startRaise.reviewRaise true

section

variable {s : State}

theorem State.raised_of_started (unloader : s.isUnloader = true) (none : s.share.raise = .none)
    (owed : s.share.yieldOwed = false) (stands : s.raiseStands) :
    s.raised = s.offerRaise (s.share.grant + s.increment.toNat) := by
  have tx : s.transmits = true := by
    unfold State.transmits; rw [stands.2.2.1]; rfl
  have offered := State.offerRaise_eq tx (s.share.grant + s.increment.toNat)
  have still : (s.offerRaise (s.share.grant + s.increment.toNat)).raiseStands := by
    obtain ⟨calm, lowering, active, poor, room⟩ := stands
    rw [offered]
    exact ⟨calm, lowering, active, (Link.placeSingle_rxPoor ..).trans poor, room⟩
  have queued : (s.offerRaise (s.share.grant + s.increment.toNat)).share.raise = .queued (s.share.grant + s.increment.toNat) := by
    rw [offered]
  unfold State.raised
  rw [State.startRaise_of_stands unloader none owed stands, State.reviewRaise_update,
    State.reviewRaise_stands queued still, offered]
  exact if_pos rfl

theorem State.raised_of_not_started (none : s.share.raise = .none)
    (fails : ¬ (s.isUnloader = true ∧ s.share.yieldOwed = false ∧ s.raiseStands)) : s.raised = s := by
  unfold State.raised
  rw [State.startRaise_of_not fun ⟨unloader, _, owed, stands⟩ => fails ⟨unloader, owed, stands⟩]
  exact State.reviewRaise_of_not_queued true (by rw [none]; rfl)

theorem State.raised_of_queued {x : Nat} (queued : s.share.raise = .queued x) : s.raised = s.reviewRaise false := by
  unfold State.raised
  rw [State.startRaise_of_not fun ⟨_, ended, _⟩ => Raise.noConfusion (queued.symm.trans ended), State.reviewRaise_update]

end

theorem State.offerRaise_raises (x : Nat) (s : State) : s.offerRaise x = { s with
    share := { s.share with raise := (s.offerRaise x).share.raise }, link := (s.offerRaise x).link } := by
  unfold State.offerRaise
  rw [State.offerSingle_eq]
  rfl

theorem State.startRaise_raises (s : State) : s.startRaise = { s with
    share := { s.share with raise := s.startRaise.share.raise }, link := s.startRaise.link } := by
  unfold State.startRaise
  split
  · exact State.offerRaise_raises ..
  · rfl

theorem State.reviewRaise_raises (b : Bool) (s : State) : s.reviewRaise b = { s with
    share := { s.share with raise := (s.reviewRaise b).share.raise }, link := (s.reviewRaise b).link } := by
  unfold State.reviewRaise
  split
  · split
    · rfl
    · split
      · rfl
      · exact State.offerRaise_raises ..
  · rfl

/-- Starting and examining the raise changes the phase and the transmit set alone. -/
theorem State.raised_eq (s : State) : s.raised = { s with
    share := { s.share with raise := s.raised.share.raise }, link := s.raised.link } := by
  have started := State.startRaise_raises s
  have examined := State.reviewRaise_raises true s.startRaise
  unfold State.raised
  generalize s.startRaise.reviewRaise true = u at examined ⊢
  generalize s.startRaise = t at started examined
  rw [started] at examined
  exact examined

/-! ### What the lowerings of an update do to the raise and its frame -/

theorem State.reviewRelease_eq (s : State) : s.reviewRelease = { s with share := { s.share with
    releaseTimer := if s.isUnloader && s.working && decide (s.gov.allowed + 50 ≤ s.share.grant) && s.share.lowering.isNone
      && s.share.raise == .none then some (s.share.releaseTimer.getD (s.now + 10000)) else none } } := by
  unfold State.reviewRelease
  split
  · split
    · next stopped => rw [stopped]; rfl
    · next x runs =>
      have same : s.share = { s.share with releaseTimer := some (s.share.releaseTimer.getD (s.now + 10000)) } := by
        rw [runs, Option.getD_some, ← runs]
      exact congrArg (fun u => { s with share := u }) same
  · rfl

/-- Without an overcommit an update sheds nothing (R59). -/
theorem State.shed_of_fits {s : State} (fits : s.share.resv + s.share.grant ≤ s.share.capacity) :
    s.shed = { s with share := { s.share with
      overcommit := if s.isUnloader && s.working then false else s.share.overcommit } } := by
  have under : ¬ s.share.capacity < s.share.resv + s.share.grant := by omega
  unfold State.shed
  by_cases role : (s.isUnloader && s.working) = true
  · rw [if_pos role, if_neg under, if_pos role]
  · rw [if_neg role, if_neg role]

theorem State.haltLower_of_calm {s : State} (calm : s.halted = false) : s.haltLower = s :=
  if_neg (by rw [calm, Bool.and_false, Bool.false_and, Bool.false_and]; exact Bool.false_ne_true)

/-- The share unit's part of an update, the raise examined first (R47, R48, R58, R59, R61). -/
theorem State.shareUpdate_eq (s : State) : s.shareUpdate = s.raised.reviewRelease.shed.haltLower := rfl

/-- Without an overcommit and with the halt set empty, an update starts no lowering (R59, R61). -/
theorem State.shareUpdate_of_calm {s : State} (fits : s.share.resv + s.share.grant ≤ s.share.capacity)
    (calm : s.halted = false) : s.shareUpdate = { s.raised.reviewRelease with share := { s.raised.reviewRelease.share with
      overcommit := if s.isUnloader && s.working then false else s.share.overcommit } } := by
  have raised := s.raised_eq
  rw [State.shareUpdate_eq, State.shed_of_fits, State.haltLower_of_calm, State.reviewRelease_eq, raised]
  · rfl
  · rw [State.reviewRelease_eq, raised]; exact calm
  · rw [State.reviewRelease_eq, raised]; exact fits

/-- The own raise is at an end and no RAISE has joined the transmit set. -/
structure State.NoNewRaise (s t : State) : Prop where
  raise : t.share.raise = .none
  frames : ∀ c ∈ t.link.normal, c.kind = .raise → c ∈ s.link.normal

namespace State.NoNewRaise

variable {s t : State}

theorem trans {u : State} (h : s.NoNewRaise t) (h' : t.NoNewRaise u) : s.NoNewRaise u :=
  ⟨h'.raise, fun c mem kind => h.frames c (h'.frames c mem kind) kind⟩

section

variable (none : s.share.raise = .none)

include none

theorem refl : s.NoNewRaise s := ⟨none, fun _ mem _ => mem⟩

theorem lowerRequest {c : LowerCause} (quiet : ∀ v : State, v.signalDrained c = v) (x : Nat) :
    s.NoNewRaise (s.lowerRequest c x) := by
  have idle : s.abandonRaise .lower = s := State.abandonRaise_of_not_alive (by rw [none]; rfl) .lower
  have raise : (s.lowerRequest c x).share.raise = .none := by
    rw [(State.OnlyLowering.lowerRequest quiet x).raise, idle, none]
  have sent {b : Bool} : ∀ c ∈ (if b then s.link.lowered x else s.link).normal, c.kind = .raise → c ∈ s.link.normal := by
    cases b
    · exact fun _ mem _ => mem
    · exact fun c mem kind => absurd kind (Link.lowered_no_raise x s.link c mem)
  refine ⟨raise, ?_⟩
  cases lowering : s.share.lowering with
  | none =>
    rw [State.lowerRequest_of_none c x lowering, quiet, idle]
    split
    · rw [State.startLowering_eq]; exact sent
    · exact fun _ mem _ => mem
  | some l =>
    rw [State.lowerRequest_of_some c x lowering, idle]
    split
    · rw [State.deepenLowering_eq]; exact sent
    · exact fun _ mem _ => mem

theorem reviewRelease : s.NoNewRaise s.reviewRelease := by
  rw [State.reviewRelease_eq]; exact ⟨none, fun _ mem _ => mem⟩

theorem shed : s.NoNewRaise s.shed := by
  have lowered := lowerRequest (s := s) none (c := .shed) (fun _ => rfl)
  unfold State.shed
  split
  · split
    · split
      · dsimp only
        split
        · exact lowered _
        · rw [State.reportShed, State.report_eq]
          exact ⟨(lowered _).raise, (lowered _).frames⟩
      · exact refl none
    · exact ⟨none, fun _ mem _ => mem⟩
  · exact refl none

theorem haltLower : s.NoNewRaise s.haltLower := by
  unfold State.haltLower
  split
  · exact lowerRequest none (fun _ => rfl) 0
  · exact refl none

end

end State.NoNewRaise

/-- Once an update finds the own raise at an end, its lowerings queue no RAISE. -/
theorem State.shareUpdate_noNewRaise {s : State} (none : s.raised.share.raise = .none) :
    s.raised.NoNewRaise s.shareUpdate := by
  have release := State.NoNewRaise.reviewRelease none
  have shed := State.NoNewRaise.shed release.raise
  exact (release.trans shed).trans (State.NoNewRaise.haltLower shed.raise)

end Sys2Proof.Machine

/-! ## The raise started and re-examined at GOVERNOR_UPDATE (R47, R48) -/

namespace Sys2Proof.Machine

theorem State.exec_governorUpdate {s : State} {d : Nat} (live : s.inReset = none) (timer : s.gov.timer = some d) :
    exec .governorUpdate s = .next (s.advance d).governorUpdate := by
  change Host.Outcome.next (s.expire s.gov.timer State.governorUpdate) = _
  rw [timer, expire_run d _ s live]

/-- The state in which the share unit acts at an update: the values of the update recorded. -/
def State.atUpdate (d : Nat) (s : State) : State := (s.advance d).governed (s.advance d).govTerms

/-- An update records its values before the share unit acts, and changes none of its inputs. -/
theorem State.atUpdate_eq (d : Nat) (s : State) : ∃ gov machine,
    s.atUpdate d = { s with now := max s.now d, gov := gov, machine := machine } :=
  ⟨_, _, State.governed_eq ..⟩

section

variable {d : Nat} {s : State}

theorem State.atUpdate_share_link : (s.advance d).governorUpdate.share = (s.atUpdate d).shareUpdate.share
    ∧ (s.advance d).governorUpdate.link = (s.atUpdate d).shareUpdate.link :=
  (s.advance d).governorUpdate_share_link

theorem State.atUpdate_allowed : (s.advance d).governorUpdate.gov.allowed = (s.atUpdate d).gov.allowed := by
  rw [(s.advance d).governed_follows.shape]
  rfl

/-- The conditions of R47 and R48 as an update finds them, A its own. -/
theorem State.atUpdate_stands : (s.atUpdate d).raiseStands ↔ s.station.state = .active ∧ s.link.rxPoor = false
    ∧ s.share.lowering = none ∧ s.halted = false ∧ s.share.grant < (s.atUpdate d).gov.allowed
    ∧ 10 ≤ (s.atUpdate d).increment := by
  obtain ⟨gov, machine, shape⟩ := s.atUpdate_eq d
  have grant : (s.atUpdate d).share.grant = s.share.grant := by rw [shape]
  have parts : (s.atUpdate d).raiseStands ↔ s.halted = false ∧ s.share.lowering = none ∧ s.station.state = .active
      ∧ s.link.rxPoor = false ∧ 10 ≤ (s.atUpdate d).increment := by
    rw [shape]; exact Iff.rfl
  have below := State.grant_lt_allowed (s := s.atUpdate d)
  rw [grant] at below
  rw [parts]
  tauto

/-- A raise that stands is left to the end of the update, which then starts no lowering. -/
theorem State.atUpdate_kept (stands : (s.atUpdate d).raiseStands) :
    (s.advance d).governorUpdate.share.raise = (s.atUpdate d).raised.share.raise
      ∧ (s.advance d).governorUpdate.link = (s.atUpdate d).raised.link := by
  obtain ⟨share, link⟩ := State.atUpdate_share_link (d := d) (s := s)
  have calm := State.shareUpdate_of_calm (State.not_overcommitted stands.2.2.2.2) stands.1
  rw [share, link, calm, State.reviewRelease_eq]
  exact ⟨rfl, rfl⟩

/-- A raise at an end stays so to the end of the update, and no RAISE is offered after it. -/
theorem State.atUpdate_ended (none : (s.atUpdate d).raised.share.raise = .none) :
    (s.advance d).governorUpdate.share.raise = .none
      ∧ ∀ c ∈ (s.advance d).governorUpdate.link.normal, c.kind = .raise → c ∈ (s.atUpdate d).raised.link.normal := by
  obtain ⟨share, link⟩ := State.atUpdate_share_link (d := d) (s := s)
  have ended := State.shareUpdate_noNewRaise none
  rw [share, link]
  exact ⟨ended.raise, ended.frames⟩

end

/-- Settles O31: the raise is examined with the A that the update records, and the lowerings after it queue no RAISE; where
it stands there is no overcommit and no halt, so none starts. -/
theorem raiseStartsUnderEveryCondition : Obligations.RaiseStartsUnderEveryCondition := by
  intro s d live timer
  refine ⟨_, State.exec_governorUpdate live timer, ?_⟩
  rw [State.atUpdate_allowed]
  obtain ⟨gov, machine, shape⟩ := s.atUpdate_eq d
  have increment : (s.atUpdate d).increment = min (min (((s.atUpdate d).gov.allowed : Int) - s.share.grant) 200)
      ((s.share.capacity : Int) - s.share.resv - s.share.grant) := by
    rw [shape]; rfl
  have share : (s.atUpdate d).share = s.share := by rw [shape]
  have link : (s.atUpdate d).link = s.link := by rw [shape]
  have role : (s.atUpdate d).isUnloader = s.isUnloader := by rw [shape]; rfl
  have sends : s.station.state = .active → (s.atUpdate d).transmits = true := fun active => by
    unfold State.transmits
    rw [shape, active]
    rfl
  dsimp only
  rw [← increment, ← State.atUpdate_stands]
  have target (stands : (s.atUpdate d).raiseStands) :
      (((s.atUpdate d).share.grant + (s.atUpdate d).increment.toNat : Nat) : Int) = s.share.grant + (s.atUpdate d).increment := by
    have room := stands.2.2.2.2
    rw [share]
    omega
  refine ⟨fun none unloader owed stands => ?_, fun none fails => ?_,
    fun old queued => ⟨fun stands => ?_, fun fails => ?_⟩⟩
  · have started := State.raised_of_started (s := s.atUpdate d) (role.trans unloader) (by rw [share]; exact none)
      (by rw [share]; exact owed) stands
    rw [State.offerRaise_eq (sends (State.atUpdate_stands.mp stands).1)] at started
    obtain ⟨raise, frames⟩ := State.atUpdate_kept stands
    rw [started] at raise frames
    refine ⟨_, target stands, ?_, ?_, raise, ?_⟩
    · have := target stands
      omega
    · have := target stands
      omega
    · rw [frames, link, share]
  · have idle := State.raised_of_not_started (s := s.atUpdate d) (by rw [share]; exact none)
      (by rw [role, share]; exact fails)
    have ended := State.atUpdate_ended (d := d) (s := s) (by rw [idle, share]; exact none)
    rw [idle, link] at ended
    exact ended
  · have examined := State.raised_of_queued (s := s.atUpdate d) (by rw [share]; exact queued)
    rw [State.reviewRaise_stands (by rw [share]; exact queued) stands] at examined
    obtain ⟨raise, frames⟩ := State.atUpdate_kept stands
    refine ⟨_, target stands, ?_, ?_⟩
    · rw [raise, examined]
      split
      · next same => rw [share, queued, ← same, share]
      · rw [State.offerRaise_eq (sends (State.atUpdate_stands.mp stands).1)]
    · rw [frames, examined]
      split
      · exact link
      · rw [State.offerRaise_eq (sends (State.atUpdate_stands.mp stands).1), link, share]
  · have examined := State.raised_of_queued (s := s.atUpdate d) (by rw [share]; exact queued)
    rw [State.reviewRaise_ends (by rw [share]; exact queued) fails] at examined
    obtain ⟨raise, frames⟩ := State.atUpdate_ended (d := d) (s := s) (by rw [examined]; rfl)
    refine ⟨raise, fun c mem kind => ?_⟩
    have left := frames c mem kind
    rw [examined] at left
    exact ((Link.withdraw_normal .raise _ c).mp left).2 kind

end Sys2Proof.Machine

/-! ## The terms, the feed and the lowerings of GOVERNOR_UPDATE (R52, R58, R59, R61, R71, R72, R79 to R82, R151) -/

namespace Sys2Proof.Machine

/-! ### The terms of A (R72, R79) -/

theorem State.govTerms_demand (s : State) : s.govTerms.demand = match s.discharging with
    | some o => o.demand
    | none => 0 := by
  unfold State.govTerms
  split
  · next none => rw [none]
  · next o some => rw [some]; split <;> rfl

theorem State.govTerms_cap (s : State) : s.govTerms.cap = match s.machine.last with
    | some m => if m.ready = true ∧ s.machine.silent = false then m.capacity else 0
    | none => 0 := by
  have cap : s.govTerms.cap = s.machineCap := by
    unfold State.govTerms
    split
    · rfl
    · split <;> rfl
  rw [cap]
  unfold State.machineCap
  cases s.machine.silent <;> cases s.machine.last <;> simp

theorem State.govTerms_taper {s : State} {o : OrderRecord} {r : PlanRecord} (worked : s.discharging = some o)
    (ready : s.readyPlan = some r) :
    s.govTerms.taper = taperTerm o.demand (o.target - o.done) (s.configNat (·.taperMass)) := by
  unfold State.govTerms
  rw [worked]
  dsimp only
  rw [ready]

/-! ### F_t and F (R80, R81) -/

theorem ramp_le (target feed : Nat) : ramp target feed ≤ target := by
  unfold ramp; split <;> omega

theorem ramp_le_step (target feed : Nat) : ramp target feed ≤ feed + 20 := by
  unfold ramp; split <;> omega

/-- A hold-off condition holds at an update (R80). -/
def State.heldOff (balance trim : Nat) (s : State) : Prop :=
  s.halted = true ∨ s.onQuay = false ∨ s.table.selfSilent = true ∨ s.machine.silent = true
    ∨ s.machine.choke = true ∨ s.running = false ∨ balance = 0 ∨ trim = 0

theorem State.holdOff_eq_none_iff {balance trim : Nat} {s : State} :
    s.holdOff balance trim = none ↔ ¬ s.heldOff balance trim := by
  unfold State.holdOff State.heldOff
  simp [ite_eq_iff]

section

variable {g : GovTerms} {s : State}

theorem State.updateTarget_of_off (off : s.heldOff g.balance g.trim) : ∃ h, s.updateTarget g = (0, .holdOff h) := by
  unfold State.updateTarget
  cases h : s.holdOff g.balance g.trim with
  | none => exact absurd off (State.holdOff_eq_none_iff.mp h)
  | some c => exact ⟨c, rfl⟩

/-- The least of A, G and L (R80). -/
theorem State.updateTarget_of_on (on : ¬ s.heldOff g.balance g.trim) : (s.updateTarget g).1 = match s.share.lowering with
    | some l => min (min g.allowed s.share.grant) l.target
    | none => min g.allowed s.share.grant := by
  unfold State.updateTarget
  rw [State.holdOff_eq_none_iff.mpr on]
  cases s.share.lowering <;> rfl

end

end Sys2Proof.Machine

/-! ## The release timer, the overcommit and the lowerings of an update (R52, R58, R59, R61) -/

namespace Sys2Proof.Machine

/-! ### What a lower request leaves of the share unit's record -/

section

variable {s : State} {c : LowerCause} (quiet : ∀ v : State, v.signalDrained c = v) (x : Nat)

include quiet

theorem State.lowerRequest_overcommit : (s.lowerRequest c x).share.overcommit = s.share.overcommit := by
  have lowered := State.OnlyLowering.lowerRequest quiet x (s := s)
  rw [lowered, State.abandonRaise_share]

/-- A stopped release timer stays stopped (R58). -/
theorem State.lowerRequest_releaseTimer (off : s.share.releaseTimer = none) : (s.lowerRequest c x).share.releaseTimer = none := by
  have kept : (s.abandonRaise .lower).share.releaseTimer = none := by rw [State.abandonRaise_share]; exact off
  cases lowering : s.share.lowering with
  | none =>
    rw [State.lowerRequest_of_none c x lowering, quiet]
    split
    · rw [State.startLowering_eq]
    · exact kept
  | some l =>
    rw [State.lowerRequest_of_some c x lowering]
    split
    · rw [State.deepenLowering_eq]; exact kept
    · exact kept

end

section

variable {s : State}

/-! ### Shedding (R59) -/

/-- Shedding lowers G where it is above 0. -/
theorem shedTarget_lt {resv grant capacity : Nat} (excess : capacity < resv + grant) (high : 0 < grant) :
    shedTarget resv grant capacity < grant := by
  have product : 0 < (resv + grant - capacity) * grant := Nat.mul_pos (by omega) high
  have up : 0 < ceilDiv ((resv + grant - capacity) * grant) (resv + grant) := by
    unfold ceilDiv
    exact Nat.div_pos (by omega) (by omega)
  unfold shedTarget
  omega

section

variable (role : s.isUnloader = true) (works : s.working = true) (excess : s.share.capacity < s.share.resv + s.share.grant)
  (high : 0 < s.share.grant)

include role works excess high

/-- An overcommit makes the lower request and sets its mark. -/
theorem State.shed_share : s.shed.share =
    { (s.lowerRequest .shed (shedTarget s.share.resv s.share.grant s.share.capacity)).share with overcommit := true } := by
  have marked := State.lowerRequest_overcommit (s := s) (c := .shed) (fun _ => rfl)
    (shedTarget s.share.resv s.share.grant s.share.capacity)
  unfold State.shed
  rw [if_pos (by rw [role, works]; rfl), if_pos excess, if_pos high]
  dsimp only
  split
  · next set => rw [← set, ← marked]
  · rw [State.reportShed, State.report_eq]

theorem State.shed_starts (lowering : s.share.lowering = none) : ∃ x,
    s.shed.share.lowering = some ⟨shedTarget s.share.resv s.share.grant s.share.capacity, x, false, false, false⟩ := by
  rw [State.shed_share role works excess high, State.lowerRequest_of_none _ _ lowering, if_pos (shedTarget_lt excess high),
    State.startLowering_eq]
  exact ⟨_, rfl⟩

theorem State.shed_deepens {l : Lowering} (lowering : s.share.lowering = some l) : ∃ x, s.shed.share.lowering =
    some { l with target := min l.target (shedTarget s.share.resv s.share.grant s.share.capacity), deadline := x } := by
  rw [State.shed_share role works excess high, State.lowerRequest_of_some _ _ lowering]
  split
  · next below =>
    rw [State.deepenLowering_eq, Nat.min_eq_right (Nat.le_of_lt below)]
    exact ⟨_, rfl⟩
  · next above =>
    rw [Nat.min_eq_left (Nat.not_lt.mp above)]
    exact ⟨l.deadline, rfl⟩

end

theorem State.shed_releaseTimer (off : s.share.releaseTimer = none) : s.shed.share.releaseTimer = none := by
  have lowered := State.lowerRequest_releaseTimer (s := s) (c := .shed) (fun _ => rfl)
    (shedTarget s.share.resv s.share.grant s.share.capacity) off
  unfold State.shed
  split
  · split
    · split
      · dsimp only
        split
        · exact lowered
        · rw [State.reportShed, State.report_eq]; exact lowered
      · exact off
    · exact off
  · exact off

/-! ### The lowering under a halt (R61) -/

theorem State.haltLower_releaseTimer (off : s.share.releaseTimer = none) : s.haltLower.share.releaseTimer = none := by
  unfold State.haltLower
  split
  · exact State.lowerRequest_releaseTimer (fun _ => rfl) 0 off
  · exact off

theorem State.haltLower_overcommit : s.haltLower.share.overcommit = s.share.overcommit := by
  unfold State.haltLower
  split
  · exact State.lowerRequest_overcommit (fun _ => rfl) 0
  · rfl

theorem State.haltLower_of_lowering {l : Lowering} (lowering : s.share.lowering = some l) : s.haltLower = s :=
  if_neg (by rw [lowering]; simp)

theorem State.haltLower_starts (role : s.isUnloader = true) (halted : s.halted = true) (high : 0 < s.share.grant)
    (lowering : s.share.lowering = none) : s.haltLower = (s.abandonRaise .lower).startLowering .halt 0 := by
  have acts : s.haltLower = s.lowerRequest .halt 0 := if_pos (by simp [role, halted, high, lowering])
  rw [acts, State.lowerRequest_of_none _ _ lowering, if_pos high]

/-- A lowering to 0 started in `v`, where the feed and the station stand as in `s` and no LOWER to 0 has been offered since. -/
theorem State.startsLoweringToZero_of_start {v t : State} (dead : v.share.raise.alive = false)
    (feed : v.share.feed = s.share.feed) (station : v.station = s.station) (now : t.now = v.now)
    (free : s.link.lowerPending 0 = false → v.link.lowerPending 0 = false)
    (share : t.share = (v.startLowering .halt 0).share) (link : t.link = (v.startLowering .halt 0).link) :
    s.startsLoweringToZero t := by
  have sends : v.transmits = s.transmits := congrArg (fun u => u.state.transmits) station
  have same (n : Nat) : v.feedAtMost n = s.feedAtMost n := by unfold State.feedAtMost; rw [feed]
  rw [State.startLowering_eq] at share link
  rw [State.startsLoweringToZero, now, share, link]
  refine ⟨dead, rfl, rfl, _, rfl, fun silent => ?_, fun tx drained => ?_, fun tx filled unsent => ?_⟩
  · exact State.drainTimer_of_silent (sends.trans silent)
  · have ready := (same 10).trans (State.feedAtMost_of drained)
    exact ⟨State.drainTimer_of_ready ready rfl, State.drain_pending (sends.trans tx) ready⟩
  · have full := (same 10).trans (State.feedAtMost_false_of filled)
    have timer := State.drainTimer_of_waiting (l := ⟨0, none, false, false, false⟩) (sends.trans tx) full (free unsent)
    rw [State.drains_of_filled full, timer]
    exact ⟨rfl, free unsent⟩

end

end Sys2Proof.Machine

/-! ## GOVERNOR_UPDATE: A, F_t, F and the lowerings (R52, R58, R59, R61, R71, R79 to R82, R151) -/

namespace Sys2Proof.Machine

section

variable {s : State} {d : Nat}

/-- The share unit's state after the raise is examined at an update: besides the values recorded, the raise and the transmit
set alone have changed. -/
theorem State.atUpdate_raised_eq : ∃ gov machine link, (s.atUpdate d).raised = { s with
    now := max s.now d, gov := gov, machine := machine, link := link
    share := { s.share with raise := (s.atUpdate d).raised.share.raise } } := by
  obtain ⟨gov, machine, shape⟩ := s.atUpdate_eq d
  have raised := (s.atUpdate d).raised_eq
  generalize (s.atUpdate d).raised = r at raised ⊢
  rw [shape] at raised
  exact ⟨gov, machine, r.link, raised⟩

theorem State.atUpdate_gov : (s.atUpdate d).raised.gov = (s.atUpdate d).gov := by
  rw [State.raised_eq]

theorem State.governorUpdate_share_eq : (s.advance d).governorUpdate.share =
    ((s.atUpdate d).raised.reviewRelease.shed.haltLower).share := State.atUpdate_share_link.1

/-! ### The recorded values -/

/-- The governor's record after an update, of which F and the limit alone may differ from the values recorded (R71). -/
theorem State.governorUpdate_gov : (s.advance d).governorUpdate.gov = { (s.atUpdate d).gov with
    feed := (s.advance d).governorUpdate.gov.feed, limit := (s.advance d).governorUpdate.gov.limit } :=
  congrArg (·.gov) (s.advance d).governed_follows.shape

theorem State.atUpdate_gov_eq : (s.atUpdate d).gov = ((s.advance d).recordUpdate (s.advance d).govTerms).gov :=
  State.governed_gov ..

theorem State.judgeLimit_feed (a b : Nat) (v : State) : (v.judgeLimit a b).gov.feed = v.gov.feed := by
  unfold State.judgeLimit
  split
  · split
    · split
      · rw [State.reportHoldLimit, State.report_eq, State.setLimitHeld_eq]; rfl
      · rfl
    · split
      · rfl
      · rw [State.setLimitHeld_eq]; rfl
  · rfl

/-- Without an overcommit and with the halt set empty, F stays as formed. -/
theorem State.governorUpdate_feed (fits : s.share.resv + s.share.grant ≤ s.share.capacity) (calm : s.halted = false) :
    (s.advance d).governorUpdate.gov.feed = (s.advance d).updateFeed (s.advance d).govTerms := by
  obtain ⟨gov, machine, shape⟩ := s.atUpdate_eq d
  have kept : (s.atUpdate d).shareUpdate.gov.feed = (s.atUpdate d).gov.feed := by
    rw [State.shareUpdate_of_calm, State.reviewRelease_eq, State.raised_eq]
    · rw [shape]; exact fits
    · rw [shape]; exact calm
  have formed : (s.atUpdate d).gov.feed = (s.advance d).updateFeed (s.advance d).govTerms := by
    rw [State.atUpdate_gov_eq, State.recordUpdate_gov]
  have test (v : State) : v.exhaustionTest.gov = v.gov := by rw [State.exhaustionTest_eq]
  have parts : (s.advance d).governorUpdate = ((s.atUpdate d).shareUpdate.judgeLimit (s.advance d).govTerms.balance
      (s.advance d).govTerms.trim).exhaustionTest := State.governorUpdate_eq _
  rw [parts, test, State.judgeLimit_feed]
  exact kept.trans formed

theorem State.governorUpdate_feed_le :
    (s.advance d).governorUpdate.gov.feed ≤ (s.advance d).updateFeed (s.advance d).govTerms := by
  have falls := (s.advance d).governed_follows.feed
  rw [State.governed_gov, State.recordUpdate_gov] at falls
  exact falls

theorem State.governorUpdate_sending (idle : s.machine.sending = none) : (s.advance d).governorUpdate.machine.sending =
    some (.setpoint ((s.advance d).updateFeed (s.advance d).govTerms)) :=
  (s.advance d).governed_follows.sending _ (State.governed_sending _ _ idle)

theorem State.governorUpdate_kept : (s.advance d).governorUpdate.plan = s.plan ∧ (s.advance d).governorUpdate.table = s.table
    ∧ (s.advance d).governorUpdate.share.halts = s.share.halts
    ∧ (s.advance d).governorUpdate.share.grant = s.share.grant := by
  obtain ⟨gov, machine, shape⟩ := s.atUpdate_eq d
  have follows : (s.atUpdate d).Follows (s.advance d).governorUpdate := (s.advance d).governed_follows
  rw [follows.shape, shape]
  exact ⟨rfl, rfl, rfl, rfl⟩

/-! ### The release timer (R58) -/

theorem State.governorUpdate_releaseTimer_off (off : (s.atUpdate d).raised.reviewRelease.share.releaseTimer = none) :
    (s.advance d).governorUpdate.share.releaseTimer = none := by
  rw [State.governorUpdate_share_eq]
  exact State.haltLower_releaseTimer (State.shed_releaseTimer off)

/-- Without an overcommit and with the halt set empty, the release timer stays as its test leaves it. -/
theorem State.governorUpdate_releaseTimer_calm (fits : s.share.resv + s.share.grant ≤ s.share.capacity)
    (calm : s.halted = false) :
    (s.advance d).governorUpdate.share.releaseTimer = (s.atUpdate d).raised.reviewRelease.share.releaseTimer := by
  obtain ⟨gov, machine, shape⟩ := s.atUpdate_eq d
  rw [State.atUpdate_share_link.1, State.shareUpdate_of_calm]
  · rw [shape]; exact fits
  · rw [shape]; exact calm

theorem State.atUpdate_releaseTimer : (s.atUpdate d).raised.reviewRelease.share.releaseTimer =
    if s.isUnloader && s.working && decide ((s.atUpdate d).gov.allowed + 50 ≤ s.share.grant) && s.share.lowering.isNone
      && (s.atUpdate d).raised.share.raise == .none then some (s.share.releaseTimer.getD (max s.now d + 10000)) else none := by
  obtain ⟨gov, machine, link, shape⟩ := State.atUpdate_raised_eq (s := s) (d := d)
  rw [State.reviewRelease_eq, State.atUpdate_gov]
  generalize (s.atUpdate d).raised = r at shape ⊢
  rw [shape]
  rfl

/-- Where A lies 50 t/h or more below G, an update ends a QUEUED raise (R48). -/
theorem State.atUpdate_raise_none (below : (s.atUpdate d).gov.allowed + 50 ≤ s.share.grant)
    (unsent : s.share.raise = .none ∨ ∃ old, s.share.raise = .queued old) : (s.atUpdate d).raised.share.raise = .none := by
  have share : (s.atUpdate d).share = s.share := by
    obtain ⟨gov, machine, shape⟩ := s.atUpdate_eq d
    rw [shape]
  have fails : ¬ (s.atUpdate d).raiseStands := fun stands => by
    have high := State.grant_lt_allowed stands.2.2.2.2
    rw [share] at high
    omega
  obtain none | ⟨old, queued⟩ := unsent
  · rw [State.raised_of_not_started (by rw [share]; exact none) fun starts => fails starts.2.2, share, none]
  · rw [State.raised_of_queued (by rw [share]; exact queued), State.reviewRaise_ends (by rw [share]; exact queued) fails]
    rfl

/-- A raise that is SENDING or SETTLING is not touched before the lowerings of an update. -/
theorem State.atUpdate_raise_kept (alive : s.share.raise ≠ .none) (sent : ∀ old, s.share.raise ≠ .queued old) :
    (s.atUpdate d).raised.share.raise = s.share.raise := by
  have share : (s.atUpdate d).share = s.share := by
    obtain ⟨gov, machine, shape⟩ := s.atUpdate_eq d
    rw [shape]
  unfold State.raised
  rw [State.startRaise_of_not fun starts => alive (by rw [share] at starts; exact starts.2.1),
    State.reviewRaise_of_not_queued, share]
  rw [share]
  cases raise : s.share.raise with
  | queued old => exact absurd raise (sent old)
  | _ => rfl

/-! ### The lowerings (R52, R59, R61) -/

/-- The state in which an update sheds: nothing its lowering turns on has changed before it. -/
theorem State.atUpdate_released_eq : ∃ gov machine raise timer, (s.atUpdate d).raised.reviewRelease = { s with
    now := max s.now d, gov := gov, machine := machine, link := (s.atUpdate d).raised.link
    share := { s.share with raise := raise, releaseTimer := timer } } := by
  obtain ⟨gov, machine, link, shape⟩ := State.atUpdate_raised_eq (s := s) (d := d)
  rw [State.reviewRelease_eq]
  generalize (s.atUpdate d).raised = r at shape ⊢
  rw [shape]
  exact ⟨_, _, _, _, rfl⟩

theorem State.governorUpdate_sheds (role : s.isUnloader = true) (works : s.working = true)
    (excess : s.share.capacity < s.share.resv + s.share.grant) (high : 0 < s.share.grant) :
    let shed := shedTarget s.share.resv s.share.grant s.share.capacity
    (s.advance d).governorUpdate.share.overcommit = true
      ∧ (s.share.lowering = none →
        ∃ x, (s.advance d).governorUpdate.share.lowering = some ⟨shed, x, false, false, false⟩)
      ∧ (∀ l, s.share.lowering = some l →
        ∃ x, (s.advance d).governorUpdate.share.lowering = some { l with target := min l.target shed, deadline := x }) := by
  obtain ⟨gov, machine, raise, timer, shape⟩ := State.atUpdate_released_eq (s := s) (d := d)
  rw [State.governorUpdate_share_eq, shape]
  generalize released : State.mk .. = v
  have share : v.share = { s.share with raise := raise, releaseTimer := timer } := by rw [← released]
  have role' : v.isUnloader = true := by rw [← released]; exact role
  have works' : v.working = true := by rw [← released]; exact works
  have excess' : v.share.capacity < v.share.resv + v.share.grant := by rw [share]; exact excess
  have high' : 0 < v.share.grant := by rw [share]; exact high
  have marked := State.shed_share role' works' excess' high'
  have starts := State.shed_starts role' works' excess' high'
  have deepens {l : Lowering} := State.shed_deepens role' works' excess' high' (l := l)
  rw [share] at starts deepens
  refine ⟨?_, fun lowering => ?_, fun l lowering => ?_⟩
  · rw [State.haltLower_overcommit, marked]
  · obtain ⟨x, started⟩ := starts lowering
    exact ⟨x, by rw [State.haltLower_of_lowering started]; exact started⟩
  · obtain ⟨x, deepened⟩ := deepens lowering
    exact ⟨x, by rw [State.haltLower_of_lowering deepened]; exact deepened⟩

/-- Where an update sheds nothing, the lowering under a halt finds the share unit as the release timer's test left it. -/
theorem State.atUpdate_unshed (rest : s.working = false ∨ s.share.resv + s.share.grant ≤ s.share.capacity) :
    ∃ mark, (s.atUpdate d).raised.reviewRelease.shed = { (s.atUpdate d).raised.reviewRelease with
      share := { (s.atUpdate d).raised.reviewRelease.share with overcommit := mark } } := by
  obtain ⟨gov, machine, raise, timer, shape⟩ := State.atUpdate_released_eq (s := s) (d := d)
  generalize (s.atUpdate d).raised.reviewRelease = v at shape ⊢
  obtain idle | fits := rest
  · refine ⟨v.share.overcommit, if_neg ?_⟩
    have rests : v.working = false := by rw [shape]; exact idle
    rw [rests, Bool.and_false]
    exact Bool.false_ne_true
  · exact ⟨_, State.shed_of_fits (by rw [shape]; exact fits)⟩

theorem State.governorUpdate_overcommit (role : s.isUnloader = true) (works : s.working = true)
    (fits : s.share.resv + s.share.grant ≤ s.share.capacity) : (s.advance d).governorUpdate.share.overcommit = false := by
  obtain ⟨gov, machine, raise, timer, shape⟩ := State.atUpdate_released_eq (s := s) (d := d)
  rw [State.governorUpdate_share_eq, State.haltLower_overcommit]
  generalize (s.atUpdate d).raised.reviewRelease = v at shape ⊢
  have acts : (v.isUnloader && v.working) = true := by
    rw [show v.isUnloader = true by rw [shape]; exact role, show v.working = true by rw [shape]; exact works]
    rfl
  rw [State.shed_of_fits (by rw [shape]; exact fits)]
  exact if_pos acts

/-- Under a halt the raise's examination leaves no new LOWER. -/
theorem State.atUpdate_raised_free (halted : s.halted = true) (free : s.link.lowerPending 0 = false) :
    (s.atUpdate d).raised.link.lowerPending 0 = false := by
  obtain ⟨gov, machine, shape⟩ := s.atUpdate_eq d
  have fails : ¬ (s.atUpdate d).raiseStands := fun stands => by
    have calm := stands.1
    rw [shape] at calm
    exact Bool.noConfusion (halted.symm.trans calm)
  have link : (s.atUpdate d).link.lowerPending 0 = false := by rw [shape]; exact free
  have started : (s.atUpdate d).startRaise = s.atUpdate d := State.startRaise_of_not fun starts => fails starts.2.2.2
  unfold State.raised
  rw [started]
  cases raise : (s.atUpdate d).share.raise with
  | queued x =>
    rw [State.reviewRaise_update, State.reviewRaise_ends raise fails]
    exact (Link.withdraw_lowerPending (k := .raise) nofun _ _).trans link
  | none | sending | settling =>
    rw [State.reviewRaise_of_not_queued true (by rw [raise]; rfl)]
    exact link

theorem State.governorUpdate_lowers_under_halt (role : s.isUnloader = true) (halted : s.halted = true)
    (high : 0 < s.share.grant) (lowering : s.share.lowering = none)
    (rest : s.working = false ∨ s.share.resv + s.share.grant ≤ s.share.capacity) :
    s.startsLoweringToZero (s.advance d).governorUpdate := by
  obtain ⟨gov, machine, raise, timer, shape⟩ := State.atUpdate_released_eq (s := s) (d := d)
  obtain ⟨mark, unshed⟩ := State.atUpdate_unshed (d := d) rest
  have free := State.atUpdate_raised_free (d := d) halted
  obtain ⟨share, link⟩ := State.atUpdate_share_link (d := d) (s := s)
  have now : (s.advance d).governorUpdate.now = max s.now d := by
    have same := congrArg State.now (s.advance d).governed_follows.shape
    rw [State.governed_eq] at same
    exact same
  rw [State.shareUpdate_eq, unshed] at share link
  rw [shape] at share link
  generalize stood : State.mk .. = v at share link
  have starts : v.haltLower = (v.abandonRaise .lower).startLowering .halt 0 := State.haltLower_starts
    (by rw [← stood]; exact role) (by rw [← stood]; exact halted) (by rw [← stood]; exact high)
    (by rw [← stood]; exact lowering)
  have only := State.OnlyRaise.abandonRaise (s := v) .lower
  have kept := v.abandonRaise_share .lower
  rw [starts] at share link
  refine State.startsLoweringToZero_of_start (v.abandonRaise_alive .lower) ?_ ?_ ?_ (fun unsent => ?_) share link
  · rw [kept, ← stood]
  · rw [only, ← stood]
  · rw [now, only, ← stood]
  · refine State.abandonRaise_not_pending .lower v ?_ ?_
    · rw [← stood]; exact Nat.ne_of_lt high
    · rw [← stood]; exact free unsent

end

end Sys2Proof.Machine

/-! ### The whole update -/

namespace Sys2Proof.Machine

section

variable {s : State} {d : Nat}

/-- What an update records (R71): F and the limit aside, the values of its terms. -/
theorem State.governorUpdate_record :
    let g := (s.advance d).govTerms
    (s.advance d).governorUpdate.gov.timer = some (max s.now d + 250)
      ∧ (s.advance d).governorUpdate.gov.allowed = g.allowed ∧ (s.advance d).governorUpdate.gov.machineCap = g.cap
      ∧ (s.advance d).governorUpdate.gov.taper = g.taper ∧ (s.advance d).governorUpdate.gov.balance = g.balance
      ∧ (s.advance d).governorUpdate.gov.trim = g.trim
      ∧ (s.advance d).governorUpdate.gov.target = ((s.advance d).updateTarget g).1
      ∧ (s.advance d).governorUpdate.gov.bindTarget = ((s.advance d).updateTarget g).2 := by
  rw [State.governorUpdate_gov, State.atUpdate_gov_eq, State.recordUpdate_gov]
  exact ⟨rfl, rfl, rfl, rfl, rfl, rfl, rfl, rfl⟩

end

/-- Settles O28: the recorded values come before the share unit acts, which then lowers F by its clamps alone. -/
theorem governorUpdateFormsTheFeed : Obligations.GovernorUpdateFormsTheFeed := by
  intro s d live due
  obtain ⟨timer, allowed, cap, taper, balance, trim, target, bind⟩ := State.governorUpdate_record (s := s) (d := d)
  have allowed' : (s.advance d).governorUpdate.gov.allowed = (s.atUpdate d).gov.allowed := State.atUpdate_allowed
  have release := State.atUpdate_releaseTimer (s := s) (d := d)
  have stops := State.governorUpdate_releaseTimer_off (s := s) (d := d)
  rw [release] at stops
  refine ⟨_, State.exec_governorUpdate live due, timer, ?_, cap.trans (State.govTerms_cap _), fun o r worked ready => ?_,
    ⟨fun off => ?_, fun on => ?_⟩, (s.advance d).governed_follows.handed (State.governed_feedHanded ..),
    fun role works low lowering unsent fits calm => ?_, fun stop => ?_, fun alive sent => ?_, fun alive => ?_,
    fun role works excess high => State.governorUpdate_sheds role works excess high,
    fun role works fits => State.governorUpdate_overcommit role works fits,
    fun role halted high lowering rest => State.governorUpdate_lowers_under_halt role halted high lowering rest,
    State.governorUpdate_kept⟩
  · rw [allowed, taper, balance, trim, cap]
    exact congrArg (fun demand => min (min (min (min (min demand _) _) _) _) _) (State.govTerms_demand _)
  · exact taper.trans (State.govTerms_taper worked ready)
  · rw [balance, trim] at off
    obtain ⟨h, none⟩ := State.updateTarget_of_off (s := s.advance d) off
    have zero : (s.advance d).updateFeed (s.advance d).govTerms = 0 := by
      unfold State.updateFeed
      rw [none]
      exact Nat.le_zero.mp (ramp_le 0 _)
    refine ⟨?_, by rw [target, none], ⟨h, by rw [bind, none]⟩, fun idle => ?_⟩
    · exact Nat.le_zero.mp (zero ▸ State.governorUpdate_feed_le)
    · rw [State.governorUpdate_sending idle, zero]
  · rw [balance, trim] at on
    have least := State.updateTarget_of_on (s := s.advance d) on
    rw [← allowed] at least
    have formed : (s.advance d).updateFeed (s.advance d).govTerms = ramp ((s.advance d).updateTarget (s.advance d).govTerms).1
      s.gov.feed := rfl
    rw [least] at formed target
    have falls := State.governorUpdate_feed_le (s := s) (d := d)
    rw [formed] at falls
    have calm : s.halted = false := by
      by_contra halted
      exact on (.inl (by simpa using halted))
    refine ⟨target, falls.trans (ramp_le ..), falls.trans (ramp_le_step ..), fun fits => ?_, fun idle => ?_⟩
    · rw [State.governorUpdate_feed fits calm, formed]
      rfl
    · rw [State.governorUpdate_sending idle, formed]
      rfl
  · rw [allowed'] at low
    have ended := State.atUpdate_raise_none low unsent
    rw [State.governorUpdate_releaseTimer_calm fits calm, release]
    exact if_pos (by simp [role, works, low, lowering, ended])
  · rw [allowed'] at stop
    refine stops (if_neg ?_)
    obtain idle | high | lowering := stop
    · simp [idle]
    · simp [Nat.not_le.mpr high]
    · simp [Option.isSome_iff_ne_none.mp lowering]
  · refine stops (if_neg ?_)
    rw [State.atUpdate_raise_kept alive sent]
    simp [alive]
  · refine stops (if_neg fun none => alive ?_)
    have ended : (s.atUpdate d).raised.share.raise = .none := eq_of_beq (Bool.and_eq_true .. ▸ none).2
    exact (State.atUpdate_ended ended).1

end Sys2Proof.Machine

/-! ## The grant rises at no command but the settle deadline (R42, R51) -/

namespace Sys2Proof.Machine

/-- `t` comes of `s` and its grant is no higher. -/
def State.NoRise (s t : State) : Prop := t.share.grant ≤ s.share.grant

namespace State.NoRise

variable {s t u : State}

theorem refl : s.NoRise s := Nat.le_refl _

theorem trans (h : s.NoRise t) (h' : t.NoRise u) : s.NoRise u := Nat.le_trans h' h

theorem of_grant (same : t.share.grant = s.share.grant) : s.NoRise t := Nat.le_of_eq same

theorem signals (h : s.Reaches t) : s.NoRise t := of_grant h.grant_eq

theorem of_mask (same : t.mask = s.mask) : s.NoRise t := of_grant (congrArg (·.share.grant) same)

/-! ### The events of the line and of the station -/

theorem silence : s.NoRise s.silence := by
  have silenced : s.emptyQueues.NoRise s.emptyQueues.shareSilenced := by
    unfold State.shareSilenced
    split
    · exact refl
    · exact of_grant (State.Reaches.refl (s := s.emptyQueues).abandonSettling .state).grant_eq
    · exact refl
  exact silenced.trans (signals s.silence_reaches)

theorem enterMuted : s.NoRise s.enterMuted := by
  obtain ⟨u, entered, before⟩ := s.enterMuted_eq
  rw [entered]
  exact State.NoRise.trans (s := s.setStation .muted) (signals before) silence

theorem enterOffline : s.NoRise s.enterOffline := by
  obtain ⟨u, before, after⟩ := s.enterOffline_reaches
  exact (State.NoRise.trans (s := s.setStation .offline) (signals before) silence).trans (signals after)

theorem judgeTxFaults : s.NoRise s.judgeTxFaults := by
  by_cases mutes : s.transmits = true ∧ 160 ≤ s.link.txFaults
  · unfold State.judgeTxFaults
    rw [if_pos (by simpa using mutes)]
    exact enterMuted
  · exact signals (State.Reaches.refl.judgeTxFaults fun tx => by by_contra high; exact mutes ⟨tx, by omega⟩)

theorem startAttempt : s.NoRise s.startAttempt := by
  unfold State.startAttempt
  split
  · split
    · next c l _ => cases c <;> exact refl
    · exact refl
  · exact refl

theorem attemptFailed : s.NoRise s.attemptFailed :=
  State.NoRise.trans (t := s.returned) refl (signals s.attemptFailed_reaches)

theorem abortAttempt : s.NoRise s.abortAttempt := by
  unfold State.abortAttempt
  split
  · exact refl
  · exact attemptFailed.trans (State.NoRise.judgeTxFaults (s := { s.attemptFailed with link := _ }))

theorem completed (hello acked : Bool) : s.NoRise (s.completed hello acked) := by
  rw [State.completed_eq]
  exact State.NoRise.trans (s := s.finished hello) (signals (State.Reaches.refl.countUnheard acked)) judgeTxFaults

theorem enterActive : s.NoRise s.enterActive := by
  obtain ⟨u, before, after⟩ := s.enterActive_reaches
  exact State.NoRise.trans (s := s.setStation .active) (signals before) (judgeTxFaults.trans (signals after))

theorem enterJoining : s.NoRise s.enterJoining := by
  obtain ⟨u, after, -, share, -⟩ := s.enterJoining_reaches
  exact of_grant (after.grant_eq.trans (congrArg (·.grant) share))

/-- A reset clears the grant (R165). -/
theorem beginReset (c : ResetCause) : s.NoRise (s.beginReset c) := Nat.zero_le _

theorem releaseReset (c : ResetCause) (straps : Straps) : s.NoRise (s.releaseReset c straps) := by
  have started : (State.cleared s.pending s.now c straps).Reaches (s.releaseReset c straps) := by
    unfold State.releaseReset
    exact State.Reaches.refl.report ..
  exact (Nat.le_of_eq started.grant_eq).trans (Nat.zero_le _)

theorem applyReset (j : StationNo) (d : Nat) (straps : Straps) : s.NoRise (s.applyReset j d straps) := by
  have taken : s.Reaches (s.tableTake j false id false .other) := State.Reaches.refl.tableTake ..
  simp only [State.applyReset]
  split
  · split
    · exact (signals taken).trans (releaseReset .remote straps)
    · exact signals (taken.report ..)
  · exact signals taken

theorem dupNumber (k : Kind) : s.NoRise (s.dupNumber k) := by
  have told : s.Reaches (if s.link.dupReported then s
      else State.reportDupNumber k { s with link := { s.link with dupReported := true } }) := by
    split
    · exact .refl
    · exact (State.Reaches.refl.frame (by rfl)).report ..
  simp only [State.dupNumber]
  split
  · exact signals told
  · exact (signals told).trans enterOffline

/-! ### How a command reaches the state -/

section

variable {n : Nat}

theorem live {f : State → State} (hf : ∀ u : State, u.NoRise (f u)) : s.NoRise (s.live n f) := by
  unfold State.live
  split
  · exact refl
  · exact State.NoRise.trans (t := s.advance n) refl (hf _)

theorem liveSignals {f : State → State} (hf : ∀ u : State, u.Reaches (f u)) : s.NoRise (s.live n f) :=
  live fun u => signals (hf u)

theorem expire {d : Option Nat} {f : State → State} (hf : ∀ u : State, u.NoRise (f u)) : s.NoRise (s.expire d f) := by
  unfold State.expire
  split
  · exact live hf
  · exact refl

theorem expireSignals {d : Option Nat} {f : State → State} (hf : ∀ u : State, u.Reaches (f u)) : s.NoRise (s.expire d f) :=
  expire fun u => signals (hf u)

theorem command {tag : BitVec 16} {handle : State → Handled} (hf : ∀ u : State, u.NoRise (handle u).1) :
    s.NoRise (s.live n (·.command tag handle)) := by
  refine live fun u => ?_
  unfold State.command
  split
  · exact signals ((State.Reaches.refl.frame (by rfl)).report ..)
  · exact hf u

/-- A console command with arguments of one length (R180). -/
theorem console {tag : BitVec 16} {α : Type} {args : Option α} {f : α → State → Handled}
    (hf : ∀ (a : α) (u : State), u.NoRise (f a u).1) : s.NoRise (s.live n (·.command tag (withArgs args f))) := by
  refine command fun u => ?_
  unfold withArgs refuse
  split
  · exact hf _ u
  · exact refl

theorem consoleSignals {tag : BitVec 16} {α : Type} {args : Option α} {f : α → State → Handled}
    (hf : ∀ (a : α) (u : State), u.Reaches (f a u).1) : s.NoRise (s.live n (·.command tag (withArgs args f))) :=
  console fun a u => signals (hf a u)

theorem receive {α : Type} {j : StationNo} {k : Kind} {dest : Nat} {payload : Option α} {apply : α → State → State}
    (hf : ∀ (b : α) (u : State), u.NoRise (apply b u)) : s.NoRise (s.live n (·.receive j k dest payload apply)) := by
  refine live fun u => ?_
  have fault (b : Bool) : u.NoRise (u.lineFault b) := signals (State.Reaches.refl.lineFault b)
  have good (o : Occupancy) : u.NoRise ((u.markOccupancy true o).countRxGood) :=
    signals (State.Reaches.refl.frame (by rfl)).countRxGood
  unfold State.receive
  split
  · split
    · split
      · unfold State.takeGood
        generalize (if k = Kind.hello then Occupancy.hello else Occupancy.taken) = o
        dsimp only
        split
        · exact (good o).trans (dupNumber k)
        · exact (good o).trans (hf _ _)
      · exact fault _
    · exact fault _
  · exact refl

theorem receiveSignals {α : Type} {j : StationNo} {k : Kind} {dest : Nat} {payload : Option α} {apply : α → State → State}
    (hf : ∀ (b : α) (u : State), u.Reaches (apply b u)) : s.NoRise (s.live n (·.receive j k dest payload apply)) :=
  receive fun b u => signals (hf b u)

/-- An own frame that completes, from the frame on the line of `s`. -/
theorem complete {p : Kind → Bool} {acked : Bool} {signal : Content → State → State}
    (hf : ∀ (a : Attempt) (u : State), s.link.onLine = some a → u.share.grant ≤ s.share.grant →
      s.NoRise (signal a.content u)) : s.NoRise (s.live n (·.complete p acked signal)) := by
  unfold State.live
  split
  · exact refl
  · dsimp only
    unfold State.complete
    split
    · next a line =>
      split
      · exact hf a _ line (completed (s := s.advance n) _ acked)
      · exact refl
    · exact refl

theorem completeSignals {p : Kind → Bool} {acked : Bool} {signal : Content → State → State}
    (hf : ∀ (c : Content) (u : State), u.NoRise (signal c u)) : s.NoRise (s.live n (·.complete p acked signal)) :=
  complete fun a u _ low => State.NoRise.trans (t := u) low (hf a.content u)

end

/-! ### The console commands that change the station's state -/

theorem handleConfigure (a : ConfigureArgs) : s.NoRise (handleConfigure a s).1 := by
  unfold Machine.handleConfigure refuse
  split
  · exact refl
  · next config =>
    have silent : s.transmits = false := by
      simp only [not_not, ne_eq] at config
      simp [State.transmits, config, StationState.transmits]
    have taken : s.NoRise (s.takeConfigure a.record) := signals (State.Reaches.takeConfigure a.record silent .refl)
    split
    · exact refl
    · split
      · dsimp only; exact taken
      · dsimp only; exact taken

theorem handleJoin : s.NoRise (handleJoin s).1 := by
  unfold Machine.handleJoin refuse
  split
  · exact enterJoining
  · exact enterJoining
  · exact refl

theorem handleLeave : s.NoRise (handleLeave s).1 := by
  unfold Machine.handleLeave refuse
  split
  · next working =>
    split
    · exact refl
    · refine signals (State.Reaches.refl.enterLeaving ?_)
      exact StationState.transmits_of_working working
  · exact refl

end State.NoRise

end Sys2Proof.Machine

/-! ### Every command (R51) -/

namespace Sys2Proof.Machine

/-- An own LOWER on the line carries at most the grant where each own LOWER does. -/
theorem State.onLine_lower_le {s : State} (low : ∀ g ∈ s.link.lowers, g ≤ s.share.grant) {a : Attempt} {g : Nat}
    (line : s.link.onLine = some a) (lower : a.content = .lower g) : g ≤ s.share.grant :=
  low g ((Link.mem_lowers ..).mpr (.inl ⟨a, line, by rw [lower]; rfl⟩))

theorem State.lowerDone_grant (g : Nat) (s : State) : (s.lowerDone g).share.grant = g :=
  congrArg (·.share.grant) (s.lowerDone_mask g)

open State.Reaches (refl) in
open State.NoRise in
/-- No command but the settle deadline raises the grant, where each own LOWER carries at most it. -/
theorem exec_noRise {s s' : State} (c : Instr) (low : ∀ g ∈ s.link.lowers, g ≤ s.share.grant) (e : exec c s = .next s')
    (other : c ≠ .raiseSettleDeadline) : s.NoRise s' := by
  cases c <;> obtain rfl := Host.Outcome.next.inj e
  case raiseSettleDeadline => exact absurd rfl other
  case powerReset t => exact beginReset _
  case pinReset t => exact live fun u => beginReset _
  case resetRelease t straps =>
    split
    · exact releaseReset _ _
    · exact State.NoRise.refl
  case lineIdle t => exact liveSignals fun u => refl.frame (by rfl)
  case occupancyEnd t => exact liveSignals fun u => refl.endOccupancy
  case attemptStart t => exact live fun u => startAttempt
  case lostArbitration t => exact live fun u => attemptFailed
  case transmitFault t => exact live fun u => abortAttempt
  case receiveFault t cause => exact liveSignals fun u => by split <;> [exact refl.lineFault _; exact refl]
  -- frames taken
  case helloTaken t j p => exact receiveSignals fun b u => refl.applyHello j b
  case byeTaken t j p => exact receiveSignals fun b u => refl.applyBye j b
  case statusTaken t j p => exact receiveSignals fun b u => refl.applyStatus j b
  case raiseTaken t j p => exact receiveSignals fun b u => refl.applyRaise j b
  case lowerTaken t j p => exact receiveSignals fun b u => refl.applyLower j b
  case claimTaken t j p => exact receiveSignals fun b u => refl.applyClaim j b
  case releaseTaken t j p => exact receiveSignals fun b u => refl.applyRelease j b
  case tallyTaken t j p => exact receiveSignals fun b u => refl.applyTallyFrame j b
  case recallTaken t j d p => exact receiveSignals fun b u => refl.applyRecallFrame j _ b
  case capacityTaken t j d p => exact receiveSignals fun b u => refl.applyCapacity j _ b
  case haltTaken t j d p => exact receiveSignals fun b u => refl.applyHalt j _ b
  case clearTaken t j d p => exact receiveSignals fun b u => refl.applyClear j _ b
  case resetTaken t j d straps => exact receive fun _ u => applyReset j _ straps
  -- own frames that complete
  case helloCompletes t acked => exact completeSignals fun _ u => signals refl.helloDone
  case byeCompletes t acked =>
    exact completeSignals fun _ u => enterOffline.trans (of_grant (congrArg (·.share.grant) u.leftQuay_mask))
  case statusCompletes t acked =>
    exact completeSignals fun c u => by cases c with
      | status => exact signals (refl.statusDone _)
      | _ => exact State.NoRise.refl
  case raiseCompletes t acked =>
    exact completeSignals fun c u => by cases c with
      | raise x => exact of_mask (raiseDone_mask x u)
      | _ => exact State.NoRise.refl
  case lowerCompletes t acked =>
    refine complete fun a u line rest => ?_
    cases content : a.content with
    | lower g => exact (u.lowerDone_grant g).trans_le (State.onLine_lower_le low line content)
    | _ => exact rest
  case claimCompletes t acked => exact completeSignals fun _ u => signals refl.claimDone
  case releaseCompletes t acked => exact completeSignals fun _ u => signals refl.releaseDone
  case frameCompletes t acked => exact completeSignals fun _ u => State.NoRise.refl
  -- timers
  case peerSilent j => exact expireSignals fun u => refl.becomeSilent j
  case peerLost j => exact expireSignals fun u => refl.becomeLost j
  case pendingRaiseExpiry j => exact expireSignals fun u => refl.dropPendingRaise j
  case selfSilent => exact expireSignals fun u => refl.becomeSelfSilent
  case drainStall => exact expireSignals fun u => refl.stallDrain
  case releaseTimerExpiry => exact expireSignals fun u => (refl.frame (by rfl)).lowerRequest _ _
  case haltRepeat => exact expireSignals fun u => refl.offerHalt.frame (by rfl)
  case capacityRepeat => exact expireSignals fun u => refl.offerCapacity
  case governorUpdate => exact expireSignals fun u => refl.governorUpdate
  case tallyTimerExpiry => exact expireSignals fun u => (refl.frame (by rfl)).offerTally
  case claimSettleDeadline => exact expireSignals fun u => refl.settleClaim
  case travelTimeout => exact expireSignals fun u => (refl.frame (by rfl)).decideEnd _ _
  case exhaustionTimerExpiry => exact expireSignals fun u => (refl.frame (by rfl)).decideEnd _ _
  case listenTimerExpiry => exact expire fun u => enterActive
  case statusTimerExpiry => exact expireSignals fun u => (refl.frame (by rfl)).offerStatus
  case machineSilent => exact expireSignals fun u => refl.becomeMachineSilent
  case choke => exact expireSignals fun u => refl.setChoke
  case chokeCleared => exact expireSignals fun u => refl.clearChoke
  -- the machine link and the console line
  case machineByteTimeout t => exact liveSignals fun u => refl.machineError
  case machineFrameError t cause => exact liveSignals fun u => by cases cause <;> exact refl.machineError
  case measure t p => exact liveSignals fun u => by split <;> [exact refl.takeMeasure _; exact refl.machineError]
  case machineFrameSent t => exact liveSignals fun u => refl.frame (by rfl)
  case consoleByteTimeout t => exact liveSignals fun u => refl.consoleFrameFault
  case consoleFrameError t cause => exact liveSignals fun u => by cases cause <;> exact refl.consoleFrameFault
  case responseSent t => exact live fun u => State.NoRise.refl
  -- console commands
  case unknown t tag code => exact command fun u => State.NoRise.refl
  case configure t tag a => exact console fun a u => State.NoRise.handleConfigure a
  case join t tag a => exact console fun _ u => State.NoRise.handleJoin
  case leave t tag a => exact console fun _ u => State.NoRise.handleLeave
  case planBegin t tag a => exact consoleSignals fun a u => State.Reaches.handlePlanBegin u a
  case planHold t tag a => exact consoleSignals fun a u => State.Reaches.handlePlanHold u a
  case planEnd t tag a => exact consoleSignals fun _ u => State.Reaches.handlePlanEnd u
  case planDrop t tag a => exact consoleSignals fun _ u => State.Reaches.handlePlanDrop u
  case order t tag a => exact consoleSignals fun a u => State.Reaches.handleOrder u a
  case cancel t tag a => exact consoleSignals fun a u => refl.cancelOrder a
  case halt t tag a => exact consoleSignals fun a u => State.Reaches.handleHalt u a
  case clear t tag a => exact consoleSignals fun a u => State.Reaches.handleClear u a
  case overrideClear t tag a => exact consoleSignals fun _ u => refl.overrideClear
  case beltcap t tag a => exact consoleSignals fun a u => State.Reaches.handleBeltcap u a
  case remoteReset t tag a => exact consoleSignals fun a u => State.Reaches.handleRemoteReset u a
  case queryStation t tag a => exact consoleSignals fun _ u => refl
  case queryPeer t tag a => exact consoleSignals fun a u => State.Reaches.handleQueryPeer a u
  case queryHold t tag a => exact consoleSignals fun a u => State.Reaches.handleQueryHold a u
  case queryOrders t tag a => exact consoleSignals fun _ u => refl
  case queryFinished t tag a => exact consoleSignals fun _ u => refl
  case readReport t tag a =>
    exact console fun _ u => by
      unfold handleReadReport
      split <;> exact State.NoRise.refl

/-- Settles O25: the settle deadline in one equation, every other command by `exec_noRise`. -/
theorem grantRisesOnlyAtTheSettleDeadline : Obligations.GrantRisesOnlyAtTheSettleDeadline := by
  refine ⟨fun s target d live settling => ?_, fun c s s' low e other => exec_noRise c low e other⟩
  have e : exec .raiseSettleDeadline s = .next (s.advance d).settleRaise := by
    change Host.Outcome.next (s.expire s.share.raise.deadline State.settleRaise) = _
    have due : s.share.raise.deadline = some d := by rw [settling]; rfl
    rw [due, expire_run d _ s live]
  rw [e]
  unfold State.settleRaise
  simp only [advance_share, settling]
  rfl

end Sys2Proof.Machine

/-! ## JOIN (R56, R63, R70, R82, R118, R169, R170) -/

namespace Sys2Proof.Machine

/-! ### What stands at the head of the normal set -/

/-- The normal transmit set is led by this content. -/
def Link.HeadedBy (c : Content) (l : Link) : Prop := ∃ rest, l.normal = c :: rest

namespace Link.HeadedBy

variable {c : Content} {l : Link}

theorem placeSingle (h : l.HeadedBy c) {d : Content} (ne : c.kind ≠ d.kind) : (l.placeSingle d).HeadedBy c := by
  obtain ⟨rest, head⟩ := h
  unfold Link.placeSingle
  split
  · exact ⟨rest, head⟩
  · split
    · exact ⟨replaceKind d rest, by rw [head]; exact if_neg ne⟩
    · exact ⟨rest ++ [d], by rw [head]; rfl⟩

theorem withdraw (h : l.HeadedBy c) {k : Kind} (ne : c.kind ≠ k) : (l.withdraw k).HeadedBy c := by
  obtain ⟨rest, head⟩ := h
  have kept : (l.withdraw k).normal = l.normal.filter (fun d => d.kind != k) := rfl
  exact ⟨rest.filter (fun d => d.kind != k), by rw [kept, head, List.filter_cons_of_pos (by simpa using ne)]⟩

theorem lowered (h : l.HeadedBy c) {g : Nat} (raise : c.kind ≠ .raise) (lower : c.kind ≠ .lower) :
    (l.lowered g).HeadedBy c := (h.withdraw raise).placeSingle lower

theorem claimRetest {s : State} (h : s.link.HeadedBy c) (claim : c.kind ≠ .claim) : s.claimRetest.link.HeadedBy c := by
  obtain same | ⟨b, placed⟩ | withdrawn := s.claimRetest_link
  · rw [same]; exact h
  · rw [placed]; exact h.placeSingle claim
  · rw [withdrawn]; exact h.withdraw claim

end Link.HeadedBy

/-! ### The stages of the entry to JOINING (R56, R63, R70, R118) -/

theorem State.governorStart_eq (s : State) : s.governorStart = { s with gov := { s.gov with
    timer := if s.isUnloader = true ∧ s.gov.timer = none then some (s.now + 250) else s.gov.timer } } := by
  unfold State.governorStart
  by_cases starts : s.isUnloader = true ∧ s.gov.timer = none
  · rw [if_pos starts, if_pos (by simp [starts])]
    rfl
  · rw [if_neg starts, if_neg (by simpa using starts)]

/-- The own halt's HALT as it stands after an offer to the urgent queue (R63). -/
def State.haltOffered (s : State) : List Content :=
  match s.share.ownHalt with
  | some h => if s.link.urgentCount < 2 then s.link.urgent ++ [.halt h.scope h.reason] else s.link.urgent
  | none => s.link.urgent

theorem State.resumeHalt_eq {s : State} (tx : s.transmits = true) : s.resumeHalt = { s with
    share := { s.share with haltTimer := if s.share.ownHalt.isSome then some (s.now + 1000) else s.share.haltTimer }
    link := { s.link with urgent := s.haltOffered } } := by
  unfold State.resumeHalt State.offerHalt State.haltOffered
  cases halt : s.share.ownHalt with
  | none => rfl
  | some h =>
    have offered := State.offerUrgent_link (.halt h.scope h.reason) s
    simp only [tx, true_and] at offered
    dsimp only
    rw [offered]
    by_cases room : s.link.urgentCount < 2
    · rw [if_pos room, if_pos room]; rfl
    · rw [if_neg room, if_neg room]; rfl

/-- The kept lowering's deadline after the test that starts it again (R56). -/
def State.drainResumed (s : State) : Option Lowering :=
  s.share.lowering.map fun l => { l with deadline := s.drainTimer { l with deadline := none } }

/-- The transmit set after that test: the LOWER of a kept lowering is offered where it passes (R53). -/
def State.drainSent (s : State) : Link :=
  match s.share.lowering with
  | some l => if s.drains l then s.link.lowered l.target else s.link
  | none => s.link

theorem State.resumeDrain_eq (s : State) : s.resumeDrain = { s with
    share := { s.share with lowering := s.drainResumed }, link := s.drainSent } := by
  cases lowering : s.share.lowering with
  | none =>
    have resumed : s.drainResumed = s.share.lowering := by
      unfold State.drainResumed; rw [lowering]; rfl
    have sent : s.drainSent = s.link := by
      unfold State.drainSent; rw [lowering]
    have kept : s.setLowering none = s := by
      unfold State.setLowering; rw [← lowering]
    have unarmed : s.armDrain = s := by
      unfold State.armDrain; simp only [lowering]
    rw [resumed, sent]
    unfold State.resumeDrain
    rw [lowering, Option.map_none, kept, State.drainTest_of_not_lowering lowering, unarmed, ← lowering]
  | some l =>
    have resumed : s.drainResumed = some { l with deadline := s.drainTimer { l with deadline := none } } := by
      unfold State.drainResumed; rw [lowering]; rfl
    have sent : s.drainSent = if s.drains l then s.link.lowered l.target else s.link := by
      unfold State.drainSent; rw [lowering]
    rw [resumed, sent]
    unfold State.resumeDrain
    rw [lowering]
    exact State.drain_eq (s := s.setLowering (some { l with deadline := none })) (l := { l with deadline := none }) rfl

theorem State.offerOwedRelease_eq (s : State) : s.offerOwedRelease = { s with
    claim := s.offerOwedRelease.claim, link := s.offerOwedRelease.link } := by
  unfold State.offerOwedRelease
  split
  · split
    · rw [State.offerSingle_eq]
    · rfl
  · rfl

theorem State.offerOwedRelease_link (s : State) : s.offerOwedRelease.link = s.link
    ∨ ∃ h x, s.offerOwedRelease.link = s.link.placeSingle (.release h x) := by
  unfold State.offerOwedRelease
  split
  · next c _ _ =>
    split
    · have offered := State.offerSingle_link (c := .release c.hold c.slot) nofun
        { s with claim := { s.claim with releaseOwed := false } }
      rw [offered]
      split
      · exact .inr ⟨_, _, rfl⟩
      · exact .inl rfl
    · exact .inl rfl
  · exact .inl rfl

theorem State.offerOwedRelease_of_owed {s : State} (tx : s.transmits = true) {b : ClaimBody} (own : s.claim.own = some b)
    (releasing : s.claim.phase = .releasing) (owed : s.claim.releaseOwed = true) : s.offerOwedRelease = { s with
      claim := { s.claim with releaseOwed := false }, link := s.link.placeSingle (.release b.hold b.slot) } := by
  have offers : s.offerOwedRelease = State.offerSingle (.release b.hold b.slot)
      { s with claim := { s.claim with releaseOwed := false } } := by
    unfold State.offerOwedRelease
    rw [releasing, own]
    exact if_pos owed
  rw [offers]
  exact State.offerSingle_of_transmits (s := { s with claim := { s.claim with releaseOwed := false } })
    (c := .release b.hold b.slot) tx nofun

theorem State.offerOwedRelease_spares {k : Kind} (raise : k ≠ .raise) (release : k ≠ .release) (s : State) :
    s.Spares k s.offerOwedRelease := by
  unfold State.offerOwedRelease
  split
  · split
    · exact (State.Spares.offerSingle (.release _ _) release.symm raise).after rfl
    · exact .refl
  · exact .refl

/-! ### The entry to JOINING -/

/-- The counts cleared and the state entered (R169, R170). -/
def State.joining (s : State) : State := { s with
  link := { s.link with txFaults := 0, rxFaults := 0, rxPoor := false, dupReported := false }
  station := { s.station with state := .joining, joined := true, helloCause := some s.startCause } }

/-- The feed at 0 and the HELLO offered (R82, R170). -/
def State.helloSent (s : State) : State := (s.joining.holdOffClamp .state).offerSingle (.hello s.helloBody)

theorem State.helloSent_eq (s : State) : s.helloSent = { s.joining with
    gov := (s.joining.holdOffClamp .state).gov, machine := (s.joining.holdOffClamp .state).machine
    link := s.joining.link.placeSingle (.hello s.helloBody) } := by
  have clamp := State.holdOffClamp_eq .state s.joining
  have tx : (s.joining.holdOffClamp .state).transmits = true := by
    rw [clamp]; rfl
  unfold State.helloSent
  rw [State.offerSingle_of_transmits (c := .hello s.helloBody) tx nofun]
  generalize s.joining.holdOffClamp .state = v at clamp ⊢
  rw [clamp]

/-- The state before the last stage of the entry. -/
def State.joinResumed (s : State) : State := s.helloSent.governorStart.resumeDrain.resumeHalt

theorem State.enterJoining_eq (s : State) : s.enterJoining = s.joinResumed.offerOwedRelease.claimRetest := rfl

theorem State.haltOffered_congr {s t : State} (halt : t.share.ownHalt = s.share.ownHalt)
    (urgent : t.link.urgent = s.link.urgent) (line : t.link.lineKind = s.link.lineKind) : t.haltOffered = s.haltOffered := by
  unfold State.haltOffered Link.urgentCount
  rw [halt, urgent, line]

/-- The frames offered to the normal set leave the urgent queue and the kind on the line. -/
theorem State.drainSent_urgent (s : State) : s.drainSent.urgent = s.link.urgent ∧ s.drainSent.lineKind = s.link.lineKind := by
  unfold State.drainSent
  split
  · split
    · exact ⟨Link.placeSingle_urgent .., (Link.placeSingle_lineKind ..).trans (State.Spares.lineKind_withdraw ..)⟩
    · exact ⟨rfl, rfl⟩
  · exact ⟨rfl, rfl⟩

/-- What the entry to JOINING changes before the owed RELEASE. -/
theorem State.joinResumed_eq (s : State) : s.joinResumed = { s.joining with
    gov := { (s.joining.holdOffClamp .state).gov with
      timer := if s.isUnloader = true ∧ s.gov.timer = none then some (s.now + 250) else s.gov.timer }
    machine := (s.joining.holdOffClamp .state).machine
    share := { s.share with
      lowering := s.helloSent.drainResumed
      haltTimer := if s.share.ownHalt.isSome then some (s.now + 1000) else s.share.haltTimer }
    link := { s.helloSent.drainSent with urgent := s.haltOffered } } := by
  have hello := s.helloSent_eq
  have drained : s.helloSent.governorStart.resumeDrain = { s.helloSent with
      gov := s.helloSent.governorStart.gov
      share := { s.helloSent.share with lowering := s.helloSent.drainResumed }
      link := s.helloSent.drainSent } := by
    rw [State.governorStart_eq, State.resumeDrain_eq]
    rfl
  obtain ⟨urgent, line⟩ := s.helloSent.drainSent_urgent
  have offered : s.helloSent.link.urgent = s.link.urgent ∧ s.helloSent.link.lineKind = s.link.lineKind := by
    rw [hello]
    exact ⟨Link.placeSingle_urgent .., Link.placeSingle_lineKind ..⟩
  have timer : (s.joining.holdOffClamp .state).gov.timer = s.gov.timer :=
    congrArg (·.gov.timer) (holdOffClamp_mask .state s.joining)
  have halt : s.helloSent.governorStart.resumeDrain.haltOffered = s.haltOffered := by
    rw [drained]
    exact State.haltOffered_congr (by rw [hello]; rfl) (urgent.trans offered.1) (line.trans offered.2)
  have tx : s.helloSent.governorStart.resumeDrain.transmits = true := by
    rw [drained, hello]; rfl
  unfold State.joinResumed
  rw [State.resumeHalt_eq tx, halt, drained]
  generalize s.helloSent.drainResumed = lowering
  generalize s.helloSent.drainSent = sent
  rw [State.governorStart_eq, hello, ← timer]
  rfl

end Sys2Proof.Machine

/-! ### The state after the entry to JOINING -/

namespace Sys2Proof.Machine

/-- Of the link the normal set, the held content and the line's mark alone have changed. -/
def Link.SetOnly (l l' : Link) : Prop := ∃ normal onLine held, l' = { l with normal := normal, onLine := onLine, held := held }

namespace Link.SetOnly

variable {l l' l'' : Link}

theorem refl : l.SetOnly l := ⟨_, _, _, rfl⟩

theorem trans (h : l.SetOnly l') (h' : l'.SetOnly l'') : l.SetOnly l'' := by
  obtain ⟨_, _, _, rfl⟩ := h
  obtain ⟨_, _, _, rfl⟩ := h'
  exact ⟨_, _, _, rfl⟩

theorem withdraw (k : Kind) : l.SetOnly (l.withdraw k) := ⟨_, _, _, rfl⟩

theorem placeSingle (c : Content) : l.SetOnly (l.placeSingle c) := by
  unfold Link.placeSingle
  split
  · exact ⟨_, _, _, rfl⟩
  · split <;> exact ⟨_, _, _, rfl⟩

theorem drainSent (s : State) : s.link.SetOnly s.drainSent := by
  unfold State.drainSent
  split
  · split
    · exact (withdraw .raise).trans (placeSingle _)
    · exact refl
  · exact refl

theorem offerOwedRelease (s : State) : s.link.SetOnly s.offerOwedRelease.link := by
  obtain same | ⟨h, x, placed⟩ := s.offerOwedRelease_link
  · rw [same]; exact refl
  · rw [placed]; exact placeSingle _

theorem claimRetest (s : State) : s.link.SetOnly s.claimRetest.link := by
  obtain same | ⟨b, placed⟩ | withdrawn := s.claimRetest_link
  · rw [same]; exact refl
  · rw [placed]; exact placeSingle _
  · rw [withdrawn]; exact withdraw _

end Link.SetOnly

section

variable (s : State)

/-- The last two stages change the claim unit, the order unit's blocked reason and the transmit set alone. -/
theorem State.enterJoining_resumed : s.enterJoining = { s.joinResumed with
    claim := s.enterJoining.claim, order := s.enterJoining.order, link := s.enterJoining.link } := by
  have owed := s.joinResumed.offerOwedRelease_eq
  have tested := s.joinResumed.offerOwedRelease.claimRetest_eq
  rw [State.enterJoining_eq]
  generalize s.joinResumed.offerOwedRelease.claimRetest = z at tested ⊢
  generalize s.joinResumed.offerOwedRelease = w at owed tested
  rw [owed] at tested
  exact tested

/-- The blocks that the last stages leave stand as the resumed timers left them. -/
theorem State.enterJoining_blocks : s.enterJoining.station = s.joining.station ∧ s.enterJoining.plan = s.plan
    ∧ s.enterJoining.table = s.table
    ∧ s.enterJoining.share = { s.share with
      lowering := s.helloSent.drainResumed
      haltTimer := if s.share.ownHalt.isSome then some (s.now + 1000) else s.share.haltTimer }
    ∧ s.enterJoining.gov = { (s.joining.holdOffClamp .state).gov with
      timer := if s.isUnloader = true ∧ s.gov.timer = none then some (s.now + 250) else s.gov.timer } := by
  rw [s.enterJoining_resumed, s.joinResumed_eq]
  exact ⟨rfl, rfl, rfl, rfl, rfl⟩

theorem State.enterJoining_setOnly : Link.SetOnly { s.joining.link with urgent := s.haltOffered } s.enterJoining.link := by
  have sent : Link.SetOnly { s.joining.link with urgent := s.haltOffered } s.joinResumed.link := by
    have hello : s.joining.link.SetOnly s.helloSent.link := by
      rw [s.helloSent_eq]; exact Link.SetOnly.placeSingle _
    obtain ⟨normal, onLine, held, drained⟩ := hello.trans (Link.SetOnly.drainSent s.helloSent)
    rw [s.joinResumed_eq, drained]
    exact ⟨_, _, _, rfl⟩
  exact (sent.trans (Link.SetOnly.offerOwedRelease _)).trans (Link.SetOnly.claimRetest _)

/-- The fault counts and marks that a JOIN clears, and the unheard count that it keeps (R169). -/
theorem State.enterJoining_counts : s.enterJoining.link.txFaults = 0 ∧ s.enterJoining.link.rxFaults = 0
    ∧ s.enterJoining.link.rxPoor = false ∧ s.enterJoining.link.dupReported = false
    ∧ s.enterJoining.link.unheard = s.link.unheard ∧ s.enterJoining.link.aloneReported = s.link.aloneReported
    ∧ s.enterJoining.link.urgent = s.haltOffered := by
  obtain ⟨normal, onLine, held, link⟩ := s.enterJoining_setOnly
  rw [link]
  exact ⟨rfl, rfl, rfl, rfl, rfl, rfl, rfl⟩

/-- Contents of a kind other than those the later stages offer stand as the drain test left them. -/
theorem State.enterJoining_spares {k : Kind} (raise : k ≠ .raise) (claim : k ≠ .claim) (release : k ≠ .release) :
    s.joinResumed.Spares k s.enterJoining :=
  (State.offerOwedRelease_spares raise release _).trans (State.Spares.claimRetest raise claim)

end

section

variable {s : State} (normal : s.link.normal = []) (line : s.link.onLine = none)

include normal line

theorem State.helloSent_normal : s.helloSent.link.normal = [.hello s.helloBody] := by
  rw [s.helloSent_eq]
  change (s.joining.link.placeSingle _).normal = _
  have empty : s.joining.link.normal = [] := normal
  rw [Link.placeSingle_of_line_none _ (by exact line), empty]
  rfl

/-- The HELLO leads the normal set. -/
theorem State.enterJoining_headed : s.enterJoining.link.HeadedBy (.hello s.helloBody) := by
  have sent : s.helloSent.link.HeadedBy (.hello s.helloBody) := ⟨[], State.helloSent_normal normal line⟩
  have drained : s.helloSent.drainSent.HeadedBy (.hello s.helloBody) := by
    unfold State.drainSent
    split
    · split
      · exact sent.lowered nofun nofun
      · exact sent
    · exact sent
  have resumed : s.joinResumed.link.HeadedBy (.hello s.helloBody) := by
    rw [s.joinResumed_eq]; exact drained
  have released : s.joinResumed.offerOwedRelease.link.HeadedBy (.hello s.helloBody) := by
    obtain same | ⟨h, x, placed⟩ := s.joinResumed.offerOwedRelease_link
    · rw [same]; exact resumed
    · rw [placed]; exact resumed.placeSingle nofun
  exact released.claimRetest nofun

variable (held : s.link.held = none)

include held

theorem State.helloSent_free (n : Nat) : s.helloSent.link.lowerPending n = false := by
  have placed := State.helloSent_normal normal line
  have rest : s.helloSent.link.held = none ∧ s.helloSent.link.onLine = none := by
    rw [s.helloSent_eq]
    change (s.joining.link.placeSingle _).held = none ∧ (s.joining.link.placeSingle _).onLine = none
    rw [Link.placeSingle_of_line_none _ (by exact line)]
    exact ⟨held, line⟩
  unfold Link.lowerPending Link.holds
  rw [placed, rest.1, rest.2]
  rfl

omit normal held in
theorem State.helloSent_line : s.helloSent.link.onLine = none := by
  rw [s.helloSent_eq]
  exact (Link.placeSingle_onLine ..).trans line

/-- A kept lowering whose drain test passes at the entry has its LOWER offered (R56). -/
theorem State.enterJoining_passes {l : Lowering} (lowering : s.share.lowering = some l)
    (passes : ∃ f, s.share.feed = some f ∧ f ≤ l.target + 10) :
    s.enterJoining.share.lowering = some { l with deadline := none } ∧ .lower l.target ∈ s.enterJoining.link.normal := by
  have ready : s.helloSent.feedAtMost (l.target + 10) = true := by
    rw [s.helloSent_eq]; exact State.feedAtMost_of passes
  have tx : s.helloSent.transmits = true := by
    rw [s.helloSent_eq]; rfl
  have kept : s.helloSent.share.lowering = some l := by
    rw [s.helloSent_eq]; exact lowering
  have free := State.helloSent_free normal line held l.target
  have drains : s.helloSent.drains l = true := by simp [State.drains, tx, ready, free]
  have sent : s.helloSent.drainSent = s.helloSent.link.lowered l.target := by
    unfold State.drainSent; rw [kept]; exact if_pos drains
  constructor
  · rw [s.enterJoining_resumed, s.joinResumed_eq]
    change s.helloSent.drainResumed = _
    unfold State.drainResumed
    rw [kept, Option.map_some, State.drainTimer_of_ready (l := { l with deadline := none }) ready rfl]
  · refine ((s.enterJoining_spares (k := .lower) nofun nofun nofun).normal _ rfl).mpr ?_
    rw [s.joinResumed_eq, sent]
    refine (Link.placeSingle_stands (.lower l.target) _).2 ?_
    rw [State.Spares.lineKind_withdraw]
    unfold Link.lineKind
    rw [State.helloSent_line line]
    nofun

/-- One whose test does not pass has its deadline set and no LOWER offered (R55, R56). -/
theorem State.enterJoining_waits {l : Lowering} (lowering : s.share.lowering = some l)
    (waits : ¬ ∃ f, s.share.feed = some f ∧ f ≤ l.target + 10) :
    s.enterJoining.share.lowering = some { l with deadline := some (s.now + 15000) }
      ∧ ∀ f ∈ s.enterJoining.link.normal, f.kind ≠ .lower := by
  have filled : s.helloSent.feedAtMost (l.target + 10) = false := by
    rw [s.helloSent_eq]; exact State.feedAtMost_false_of waits
  have tx : s.helloSent.transmits = true := by
    rw [s.helloSent_eq]; rfl
  have kept : s.helloSent.share.lowering = some l := by
    rw [s.helloSent_eq]; exact lowering
  have free := State.helloSent_free normal line held l.target
  have now : s.helloSent.now = s.now := by
    rw [s.helloSent_eq]; rfl
  have sent : s.helloSent.drainSent = s.helloSent.link := by
    unfold State.drainSent; rw [kept]; exact if_neg (by rw [State.drains_of_filled filled]; decide)
  constructor
  · rw [s.enterJoining_resumed, s.joinResumed_eq]
    change s.helloSent.drainResumed = _
    unfold State.drainResumed
    rw [kept, Option.map_some, State.drainTimer_of_waiting (l := { l with deadline := none }) tx filled free, now]
    rfl
  · intro f mem isLower
    have stood := ((s.enterJoining_spares (k := .lower) nofun nofun nofun).normal f isLower).mp mem
    rw [s.joinResumed_eq, sent] at stood
    change f ∈ s.helloSent.link.normal at stood
    rw [State.helloSent_normal normal line, List.mem_singleton] at stood
    subst stood
    cases isLower

omit normal held in
/-- An owed RELEASE is offered (R118). -/
theorem State.enterJoining_owed {b : ClaimBody} (own : s.claim.own = some b) (releasing : s.claim.phase = .releasing)
    (owed : s.claim.releaseOwed = true) : s.enterJoining.claim = { s.claim with releaseOwed := false }
      ∧ .release b.hold b.slot ∈ s.enterJoining.link.normal := by
  have claim : s.joinResumed.claim = s.claim := by rw [s.joinResumed_eq]; rfl
  have tx : s.joinResumed.transmits = true := by rw [s.joinResumed_eq]; rfl
  have offered := State.offerOwedRelease_of_owed tx (by rw [claim]; exact own) (by rw [claim]; exact releasing)
    (by rw [claim]; exact owed)
  have quiet : s.enterJoining = s.joinResumed.offerOwedRelease := by
    rw [State.enterJoining_eq]
    refine State.claimRetest_of_phase (.inr ?_)
    rw [offered, claim]
    simp [releasing]
  have idle : s.joinResumed.link.lineKind = none := by
    rw [s.joinResumed_eq]
    refine (s.helloSent.drainSent_urgent.2).trans ?_
    unfold Link.lineKind
    rw [State.helloSent_line line]
    rfl
  rw [quiet, offered, claim]
  exact ⟨rfl, (Link.placeSingle_stands _ _).2 (by rw [idle]; nofun)⟩

end

end Sys2Proof.Machine

/-! ## LEAVE (R117, R174, R175) -/

namespace Sys2Proof.Machine

/-! ### The leave waits (R175) -/

section

variable (s : State)

theorem State.tryBye_eq : s.tryBye = { s with link := s.tryBye.link } := by
  unfold State.tryBye
  split
  · rw [State.offerSingle_eq]
  · rfl

/-- The drain's end changes the wait that it is for, and the transmit set where the BYE goes. -/
theorem State.leaveDrained_eq : s.leaveDrained = { s with
    station := { s.station with leaveDrain := s.station.leaveDrain || decide (s.station.state = .leaving) }
    link := s.leaveDrained.link } := by
  unfold State.leaveDrained
  by_cases leaving : s.station.state = .leaving
  · simp only [if_pos leaving]
    rw [State.tryBye_eq]
    simp [leaving]
  · simp only [if_neg leaving]
    simp [leaving]

theorem State.leaveReleased_eq : s.leaveReleased = { s with
    station := { s.station with leaveRelease := s.station.leaveRelease || decide (s.station.state = .leaving) }
    link := s.leaveReleased.link } := by
  unfold State.leaveReleased
  by_cases leaving : s.station.state = .leaving
  · simp only [if_pos leaving]
    rw [State.tryBye_eq]
    simp [leaving]
  · simp only [if_neg leaving]
    simp [leaving]

/-! ### The station's release request (R117) -/

theorem State.enterReleasing_claim_link : s.enterReleasing = { s with
    claim := s.enterReleasing.claim, link := s.enterReleasing.link } := by
  unfold State.enterReleasing
  dsimp only
  split
  · rw [State.offerSingle_eq]
  · rfl

theorem State.startRelease_eq (w : Waiter) : (s.startRelease w).1 = { s with
    claim := (s.startRelease w).1.claim, link := (s.startRelease w).1.link } := by
  have joined (v : State) : v.joinRelease w = { v with claim := (v.joinRelease w).claim } := by
    cases w <;> rfl
  have entered : (s.joinRelease w).enterReleasing = { s with
      claim := (s.joinRelease w).enterReleasing.claim, link := (s.joinRelease w).enterReleasing.link } := by
    have releasing := (s.joinRelease w).enterReleasing_claim_link
    generalize (s.joinRelease w).enterReleasing = v at releasing ⊢
    rw [releasing, joined]
  unfold State.startRelease
  split
  · rfl
  · rfl
  · dsimp only
    rw [joined]
    rfl
  · exact entered
  · exact entered
  · rw [joined]

/-- The station's release request leaves the share unit, and every block but the claim unit and the station. -/
theorem State.stationRelease_share : s.stationRelease.share = s.share := by
  unfold State.stationRelease
  dsimp only
  split
  · rw [State.leaveReleased_eq, State.startRelease_eq]
  · rw [State.startRelease_eq]

/-- With no own claim the station's release request is complete at once (R117). -/
theorem State.stationRelease_of_none (none : s.claim.phase = .none) : s.stationRelease = s.leaveReleased := by
  unfold State.stationRelease State.startRelease
  rw [none]
  rfl

end

/-! ### The lower request of a leave (R52, R174) -/

theorem State.signalDrained_share (c : LowerCause) (quiet : c ≠ .order) (s : State) : (s.signalDrained c).share = s.share := by
  unfold State.signalDrained
  split
  · exact absurd rfl quiet
  · rw [State.leaveDrained_eq]
  · rfl

section

variable {s : State}

/-- A leave waits on the lowering that its request starts or joins. -/
theorem State.lowerRequest_leave (lowers : 0 < s.share.grant ∨ s.share.lowering.isSome = true) :
    ∃ l, (s.lowerRequest .leave 0).share.lowering = some l ∧ l.waitStation = true := by
  cases lowering : s.share.lowering with
  | none =>
    have high : 0 < s.share.grant := by simpa [lowering] using lowers
    rw [State.lowerRequest_of_none _ _ lowering, if_pos high, State.startLowering_eq]
    exact ⟨_, rfl, rfl⟩
  | some l =>
    rw [State.lowerRequest_of_some _ _ lowering]
    split
    · rw [State.deepenLowering_eq]
      exact ⟨_, rfl, rfl⟩
    · exact ⟨_, rfl, rfl⟩

theorem State.lowerRequest_leave_releaseTimer (off : s.share.releaseTimer = none) :
    (s.lowerRequest .leave 0).share.releaseTimer = none := by
  have kept : (s.abandonRaise .lower).share.releaseTimer = none := by rw [State.abandonRaise_share]; exact off
  cases lowering : s.share.lowering with
  | none =>
    rw [State.lowerRequest_of_none _ _ lowering]
    split
    · rw [State.startLowering_eq]
    · rw [State.signalDrained_share .leave nofun]; exact kept
  | some l =>
    rw [State.lowerRequest_of_some _ _ lowering]
    split
    · rw [State.deepenLowering_eq]; exact kept
    · exact kept

/-- At a grant of 0 with no raise and no lowering, the drain of a leave is finished at once (R52). -/
theorem State.lowerRequest_leave_drained (raise : s.share.raise = .none) (lowering : s.share.lowering = none)
    (grant : s.share.grant = 0) : s.lowerRequest .leave 0 = s.leaveDrained := by
  rw [State.lowerRequest_of_none _ _ lowering, if_neg (by omega),
    State.abandonRaise_of_not_alive (by rw [raise]; rfl)]
  rfl

end

/-! ### The entry to LEAVING (R174) -/

/-- The state entered, its timers stopped. -/
def State.leaving (s : State) : State := { s with
  station := { s.station with state := .leaving, leaveDrain := false, leaveRelease := false }
  plan := { s.plan with tallyTimer := none }
  share := { s.share with releaseTimer := none, capTimer := none } }

/-- The raise at an end, and the claim and the drain tested again. -/
def State.leaveTested (s : State) : State :=
  ((match s.leaving.share.raise with
    | .queued _ => s.leaving.abandonRaise .state
    | .settling _ _ => s.leaving.abandonRaise .state
    | _ => s.leaving).claimRetest).drainTest

theorem State.enterLeaving_eq (s : State) : s.enterLeaving = (s.leaveTested.lowerRequest .leave 0).stationRelease := rfl

section

variable (s : State)

/-- The tests leave the share unit but for its raise, an owed yield and the drain deadline. -/
theorem State.leaveTested_share : ∃ raise owed lowering, s.leaveTested.share = { s.leaving.share with
    raise := raise, yieldOwed := owed, lowering := lowering } := by
  have test (v : State) : ∃ lowering, v.claimRetest.drainTest.share = { v.share with lowering := lowering } := by
    have claim : v.claimRetest.share = v.share := by rw [State.claimRetest_eq]
    rw [← claim]
    generalize v.claimRetest = u
    unfold State.drainTest
    split
    · split
      · rw [State.offerSingle_share]
        exact ⟨_, rfl⟩
      · exact ⟨_, rfl⟩
    · exact ⟨_, rfl⟩
  unfold State.leaveTested
  split
  · obtain ⟨lowering, tested⟩ := test (s.leaving.abandonRaise .state)
    rw [tested, State.abandonRaise_share]
    exact ⟨_, _, lowering, rfl⟩
  · obtain ⟨lowering, tested⟩ := test (s.leaving.abandonRaise .state)
    rw [tested, State.abandonRaise_share]
    exact ⟨_, _, lowering, rfl⟩
  · obtain ⟨lowering, tested⟩ := test s.leaving
    rw [tested]
    exact ⟨_, _, lowering, rfl⟩

theorem State.enterLeaving_mask : s.enterLeaving.mask = s.leaving.mask := by
  have raise : (match s.leaving.share.raise with
    | .queued _ => s.leaving.abandonRaise .state
    | .settling _ _ => s.leaving.abandonRaise .state
    | _ => s.leaving).mask = s.leaving.mask := by
    split
    · exact abandonRaise_mask ..
    · exact abandonRaise_mask ..
    · rfl
  rw [State.enterLeaving_eq, stationRelease_mask, lowerRequest_mask]
  unfold State.leaveTested
  rw [drainTest_mask, claimRetest_mask]
  exact raise

theorem State.enterLeaving_releaseTimer : s.enterLeaving.share.releaseTimer = none := by
  obtain ⟨raise, owed, lowering, share⟩ := s.leaveTested_share
  rw [State.enterLeaving_eq, State.stationRelease_share]
  exact State.lowerRequest_leave_releaseTimer (by rw [share]; rfl)

theorem State.enterLeaving_waits (high : 0 < s.share.grant) :
    ∃ l, s.enterLeaving.share.lowering = some l ∧ l.waitStation = true := by
  obtain ⟨raise, owed, lowering, share⟩ := s.leaveTested_share
  rw [State.enterLeaving_eq, State.stationRelease_share]
  exact State.lowerRequest_leave (.inl (by rw [share]; exact high))

/-- A request that waits in NONE finds its claim in NONE again where the state is not ACTIVE (R109). -/
theorem State.claimRetest_phase_none {s : State} (none : s.claim.phase = .none) (idle : s.station.state ≠ .active) :
    s.claimRetest.claim.phase = .none := by
  unfold State.claimRetest
  rw [none]
  dsimp only
  unfold State.examineRequest
  cases s.claim.request with
  | none => exact none
  | some r =>
    obtain ⟨b, blocked⟩ := State.claimBlocked_isSome (.inr idle) r
    dsimp only
    rw [blocked]
    exact none

/-- With nothing to lower and nothing to release both waits are over at once (R174). -/
theorem State.enterLeaving_at_once {s : State} (none : s.claim.phase = .none) (lowering : s.share.lowering = Option.none)
    (raise : s.share.raise = .none) (grant : s.share.grant = 0) :
    s.enterLeaving.station.leaveDrain = true ∧ s.enterLeaving.station.leaveRelease = true := by
  have idle : s.leaving.station.state ≠ .active := nofun
  have share : s.leaving.claimRetest.share = s.leaving.share := by rw [State.claimRetest_eq]
  have tested : s.leaveTested = s.leaving.claimRetest := by
    unfold State.leaveTested
    rw [show s.leaving.share.raise = .none from raise]
    exact State.drainTest_of_not_lowering (by rw [share]; exact lowering)
  have phase : s.leaving.claimRetest.leaveDrained.claim.phase = .none := by
    rw [State.leaveDrained_eq]
    exact State.claimRetest_phase_none none idle
  have state : s.leaving.claimRetest.station.state = .leaving := by rw [State.claimRetest_eq]; rfl
  rw [State.enterLeaving_eq, tested, State.lowerRequest_leave_drained (by rw [share]; exact raise)
    (by rw [share]; exact lowering) (by rw [share]; exact grant), State.stationRelease_of_none _ phase,
    State.leaveReleased_eq, State.leaveDrained_eq]
  simp [state]

end

end Sys2Proof.Machine

/-! ## JOIN and LEAVE at the console (R169, R170, R174) -/

namespace Sys2Proof.Machine

section

variable {s : State}

theorem handleJoin_enters (h : s.station.state = .offline ∨ s.station.state = .muted) :
    handleJoin s = (s.enterJoining, .ok, []) := by
  unfold handleJoin
  obtain offline | muted := h
  · rw [offline]
  · rw [muted]

theorem handleJoin_refuses (offline : s.station.state ≠ .offline) (muted : s.station.state ≠ .muted) :
    handleJoin s = refuse .badState s := by
  unfold handleJoin
  split
  · next h => exact absurd h offline
  · next h => exact absurd h muted
  · rfl

/-- LEAVE by the first condition of its table that holds (R174). -/
theorem handleLeave_eq (s : State) : handleLeave s =
    if s.working = true then
      if s.order.active.isSome = true ∨ s.order.incoming.isSome = true then refuse .busy s else (s.enterLeaving, .ok, [])
    else refuse .badState s := by
  unfold handleLeave State.orderHeld
  simp only [Bool.or_eq_true]

end

/-- Settles O43: the entry to JOINING and the entry to LEAVING, stage by stage. -/
theorem joinAndLeaveEnterTheirStates : Obligations.JoinAndLeaveEnterTheirStates := by
  intro t tag s live room
  have join : exec (.join t tag []) s = .next (Handled.answered tag (handleJoin (s.advance t))) :=
    congrArg Host.Outcome.next (State.live_command (a := ()) live room rfl t tag _)
  have leave : exec (.leave t tag []) s = .next (Handled.answered tag (handleLeave (s.advance t))) :=
    congrArg Host.Outcome.next (State.live_command (a := ()) live room rfl t tag _)
  refine ⟨fun state => ?_, fun offline muted => ?_, fun working active incoming => ?_, fun working held => ?_, fun idle => ?_⟩
  · rw [handleJoin_enters (s := s.advance t) state] at join
    obtain ⟨station, plan, table, share, gov⟩ := (s.advance t).enterJoining_blocks
    obtain ⟨txFaults, rxFaults, rxPoor, dup, unheard, alone, urgent⟩ := (s.advance t).enterJoining_counts
    have timer : (s.advance t).enterJoining.share.haltTimer =
        if s.share.ownHalt.isSome then some (max s.now t + 1000) else s.share.haltTimer := congrArg Share.haltTimer share
    refine ⟨_, (s.advance t).startCause, join, rfl, ?_, txFaults, rxFaults, rxPoor, dup, unheard, alone,
      (congrArg Share.grant share :), plan, table, fun empty line => ?_, (congrArg Governor.timer gov :), fun unloader => ?_,
      fun h halt => ⟨?_, ?_⟩, fun halt => ⟨?_, ?_⟩, fun lowering => ?_, fun empty held line =>
      ⟨fun l lowering => ⟨fun passes => ?_, fun waits => ?_⟩, fun b own releasing owed => ?_⟩⟩
    · change (s.advance t).enterJoining.station = { s.station with
        state := .joining, joined := true, helloCause := some (s.advance t).startCause
        leaveDrain := (s.advance t).enterJoining.station.leaveDrain
        leaveRelease := (s.advance t).enterJoining.station.leaveRelease }
      rw [station]
      rfl
    · exact State.enterJoining_headed (s := s.advance t) empty line
    · obtain ⟨feed, target, -⟩ := State.holdOffClamp_gov (s := (s.advance t).joining) unloader .state
      exact ⟨(congrArg Governor.feed gov).trans feed, (congrArg Governor.target gov).trans target⟩
    · exact timer.trans (by rw [halt]; rfl)
    · refine urgent.trans ?_
      unfold State.haltOffered
      rw [show (s.advance t).share.ownHalt = some h from halt]
      rfl
    · exact timer.trans (by rw [halt]; rfl)
    · refine urgent.trans ?_
      unfold State.haltOffered
      rw [show (s.advance t).share.ownHalt = none from halt]
      rfl
    · refine (congrArg Share.lowering share).trans ?_
      change (s.advance t).helloSent.drainResumed = none
      unfold State.drainResumed
      rw [(s.advance t).helloSent_eq]
      exact congrArg (Option.map _) lowering
    · exact State.enterJoining_passes (s := s.advance t) empty line held lowering passes
    · exact State.enterJoining_waits (s := s.advance t) empty line held lowering waits
    · exact State.enterJoining_owed (s := s.advance t) line own releasing owed
  · rw [join, handleJoin_refuses (s := s.advance t) offline muted]
    rfl
  · rw [handleLeave_eq, if_pos (show (s.advance t).working = true from working), if_neg] at leave
    · have mask := (s.advance t).enterLeaving_mask
      refine ⟨_, leave, congrArg (·.station.state) mask, congrArg (·.plan) mask, congrArg (·.share.capTimer) mask,
        (s.advance t).enterLeaving_releaseTimer, congrArg (·.station.statusTimer) mask, congrArg (·.table) mask,
        congrArg (·.gov.timer) mask, congrArg (·.share.ownHalt) mask, congrArg (·.share.haltTimer) mask,
        congrArg (·.share.grant) mask, fun none lowering raise grant => ?_, fun high => ?_⟩
      · exact State.enterLeaving_at_once (s := s.advance t) none lowering raise grant
      · exact State.enterLeaving_waits (s.advance t) high
    · change ¬ (s.order.active.isSome = true ∨ s.order.incoming.isSome = true)
      simp [active, incoming]
  · have busy : (s.advance t).order.active.isSome = true ∨ (s.advance t).order.incoming.isSome = true := held
    rw [leave, handleLeave_eq, if_pos (show (s.advance t).working = true from working), if_pos busy]
    rfl
  · have idles : ¬ (s.advance t).working = true := by
      intro works
      exact Bool.noConfusion (idle.symm.trans works)
    rw [leave, handleLeave_eq, if_neg idles]
    rfl

end Sys2Proof.Machine

/-! ## The drain's end signalled to the order unit (R54, R117, R126, R134 to R136) -/

namespace Sys2Proof.Machine

/-- `t` comes of `s` by movements of the orders and of the claim: the station, the view, the share unit, the governor and the plan
stand. -/
def State.OnlyOrders (s t : State) : Prop := t = { s with
  link := t.link, claim := t.claim, order := t.order, console := t.console
  machine := { s.machine with history := t.machine.history } }

namespace State.OnlyOrders

variable {s t u : State}

theorem refl : s.OnlyOrders s := rfl

theorem trans (h : s.OnlyOrders t) (h' : t.OnlyOrders u) : s.OnlyOrders u := by
  unfold State.OnlyOrders at h h'
  rw [h] at h'
  exact h'

theorem share (h : s.OnlyOrders t) : t.share = s.share := by rw [h]

theorem station (h : s.OnlyOrders t) : t.station = s.station := by rw [h]

theorem report (l : Level) (b : Source) (c : Nat) (as : List Nat) : s.OnlyOrders (s.report l b c as) := by
  rw [State.report_eq]; rfl

theorem offerSingle (c : Content) : s.OnlyOrders (s.offerSingle c) := by
  rw [State.offerSingle_eq]; rfl

theorem offerClaim (r : ClaimRequest) : s.OnlyOrders (s.offerClaim r) := by
  have formed (v : ClaimUnit) : s.OnlyOrders { s with claim := v } := rfl
  exact (formed _).trans (offerSingle _)

theorem examineRequest : s.OnlyOrders s.examineRequest := by
  unfold State.examineRequest
  split
  · exact refl
  · split
    · rfl
    · exact State.OnlyOrders.trans (t := s.setBlocked none) rfl (offerClaim _)

theorem makeRequest (h l : Nat) : s.OnlyOrders (s.makeRequest h l) := by
  have made (v : ClaimUnit) : s.OnlyOrders { s with claim := v } := rfl
  unfold State.makeRequest
  dsimp only
  split
  · exact (made _).trans examineRequest
  · exact made _

theorem activate (o : OrderRecord) : s.OnlyOrders (s.activate o) := by
  have chosen (v : OrderUnit) (h : List Nat) :
      s.OnlyOrders { s with order := v, machine := { s.machine with history := h } } := rfl
  unfold State.activate
  dsimp only
  split
  · exact chosen _ _
  · exact (chosen _ _).trans (makeRequest _ _)

theorem nextOrder : s.OnlyOrders s.nextOrder := by
  have taken (v : OrderUnit) (o : OrderRecord) : s.OnlyOrders (State.activate o { s with order := v }) :=
    State.OnlyOrders.trans (t := { s with order := v }) rfl (activate o)
  unfold State.nextOrder
  split
  · exact refl
  · exact taken _ _
  · exact taken _ _
  · split
    · exact taken _ _
    · exact taken _ _

theorem followOn : s.OnlyOrders s.followOn := by
  unfold State.followOn
  split
  · exact State.OnlyOrders.trans (t := { s with order := { s.order with incoming := none } }) rfl (activate _)
  · exact nextOrder

theorem finishActive (o : OrderRecord) : s.OnlyOrders (s.finishActive o) := by
  have ended (v w : OrderUnit) (tag : Nat) (e : EndState) (r : EndReason) :
      s.OnlyOrders { State.reportOrderEnd tag e o.done r { s with order := v } with order := w } :=
    (State.OnlyOrders.trans (t := { s with order := v }) rfl (report ..)).trans rfl
  exact (ended _ _ _ _ _).trans followOn

theorem suspendActive (o : OrderRecord) : s.OnlyOrders (s.suspendActive o) := by
  have pushed (v : OrderUnit) : s.OnlyOrders { s with order := v } := rfl
  exact (pushed _).trans followOn

theorem startRelease (w : Waiter) : s.OnlyOrders (s.startRelease w).1 := by
  rw [State.startRelease_eq]; rfl

theorem orderReleased : s.OnlyOrders s.orderReleased := by
  have cleared : s.OnlyOrders { s with order := { s.order with releaseOut := false } } := rfl
  unfold State.orderReleased
  dsimp only
  split
  · exact cleared
  · split
    · exact cleared.trans (makeRequest _ _)
    · split
      · exact cleared.trans (finishActive _)
      · exact cleared
    · split
      · exact cleared.trans (finishActive _)
      · exact cleared.trans (suspendActive _)
    · exact cleared

theorem orderRelease : s.OnlyOrders s.orderRelease := by
  have out : s.OnlyOrders { s with order := { s.order with releaseOut := true } } := rfl
  unfold State.orderRelease
  dsimp only
  split
  · exact (out.trans (startRelease _)).trans orderReleased
  · exact out.trans (startRelease _)

theorem orderDrained : s.OnlyOrders s.orderDrained := by
  unfold State.orderDrained
  split
  · exact refl
  · split
    · split
      · exact State.OnlyOrders.trans (t := { s with order := _ }) rfl orderRelease
      · dsimp only
        split
        · rfl
        · exact State.OnlyOrders.trans (t := { s with order := _ }) rfl (finishActive _)
    · exact refl

end State.OnlyOrders

/-! ### What the order unit does with the signal (R134) -/

section

variable {s : State} {o : OrderRecord} (active : s.order.active = some o)

include active

theorem State.orderDrained_of_not_ending (other : o.state ≠ .ending) : s.orderDrained = s := by
  unfold State.orderDrained
  rw [active]
  exact if_neg other

variable (ending : o.state = .ending)

include ending

theorem State.orderDrained_of_pending (waits : s.order.endReleasePending = true) : s.orderDrained =
    State.orderRelease { s with order := { s.order with endDrained := true, endReleasePending := false } } := by
  unfold State.orderDrained
  rw [active]
  exact (if_pos ending).trans (if_pos waits)

theorem State.orderDrained_of_out (asked : s.order.endReleasePending = false) (out : s.order.releaseOut = true) :
    s.orderDrained = { s with order := { s.order with endDrained := true } } := by
  unfold State.orderDrained
  rw [active]
  exact ((if_pos ending).trans (if_neg (by rw [asked]; decide))).trans (if_pos out)

theorem State.orderDrained_of_complete (asked : s.order.endReleasePending = false) (complete : s.order.releaseOut = false) :
    s.orderDrained = State.finishActive o { s with order := { s.order with endDrained := true } } := by
  unfold State.orderDrained
  rw [active]
  exact ((if_pos ending).trans (if_neg (by rw [asked]; decide))).trans (if_neg (by rw [complete]; decide))

end

/-! ### The release request of the order unit (R117, R118) -/

theorem State.enterReleasing_claim (s : State) : s.enterReleasing.claim = { s.claim with
    phase := .releasing, settle := none, releaseOwed := !s.transmits } := by
  unfold State.enterReleasing
  dsimp only
  split
  · rw [State.offerSingle_claim]
  · rfl

theorem State.enterReleasing_offers {s : State} {b : ClaimBody} (own : s.claim.own = some b) (tx : s.transmits = true)
    (idle : s.link.lineKind = none) : .release b.hold b.slot ∈ s.enterReleasing.link.normal := by
  unfold State.enterReleasing
  rw [own]
  dsimp only
  rw [State.offerSingle_of_transmits (c := .release b.hold b.slot) (by exact tx) nofun]
  exact (Link.placeSingle_stands (.release b.hold b.slot) s.link).2 (by rw [idle]; nofun)

section

variable {s : State}

theorem State.orderRelease_of_settled (settled : s.claim.phase = .settled) : s.orderRelease =
    State.enterReleasing { s with
      order := { s.order with releaseOut := true }, claim := { s.claim with waitOrder := true } } := by
  unfold State.orderRelease State.startRelease
  rw [settled]
  rfl

theorem State.orderRelease_waits (releasing : s.claim.phase = .releasing) : s.orderRelease = { s with
    order := { s.order with releaseOut := true }, claim := { s.claim with waitOrder := true } } := by
  unfold State.orderRelease State.startRelease
  rw [releasing]
  rfl

end

/-! ### The next order (R126, R135, R136) -/

section

variable {s : State} {x : OrderRecord} {rest : List OrderRecord}

/-- The claim request of an order that is CLAIMING records its blocked reason, and nothing else of the order unit. -/
theorem State.makeRequest_order {y : OrderRecord} (active : s.order.active = some y) (claiming : y.state = .claiming)
    (h l : Nat) : ∃ b, (s.makeRequest h l).order = { s.order with active := some { y with blocked := b } } := by
  have kept : s.order = { s.order with active := some { y with blocked := y.blocked } } := by rw [← active]
  have blocked (b : Option BlockedReason) : s.order.setBlocked b = { s.order with active := some { y with blocked := b } } := by
    unfold OrderUnit.setBlocked
    rw [active]
    exact if_pos claiming
  have offered (r : ClaimRequest) (v : State) : (v.offerClaim r).order = v.order := by
    unfold State.offerClaim; rw [State.offerSingle_order]
  unfold State.makeRequest
  dsimp only
  split
  · unfold State.examineRequest
    dsimp only
    split
    · exact ⟨_, blocked _⟩
    · exact ⟨_, (offered _ _).trans (blocked none)⟩
  · exact ⟨_, kept⟩

theorem State.activate_order (complete : s.order.releaseOut = false) (o : OrderRecord) : ∃ b, (s.activate o).order =
    { s.order with active := some { o with state := .claiming, held := Held.none, blocked := b } } := by
  unfold State.activate
  dsimp only
  split
  · next out => exact absurd (complete.symm.trans out) (by decide)
  · exact State.makeRequest_order (y := { o with state := .claiming, held := Held.none, blocked := none }) rfl rfl _ _

/-- The stack top is next where no queue head has a higher priority (R136). -/
theorem State.nextOrder_of_stack (stack : s.order.stack = x :: rest)
    (first : ∀ q ∈ s.order.queue.head?, q.priority ≤ x.priority) :
    s.nextOrder = State.activate x { s with order := { s.order with stack := rest } } := by
  unfold State.nextOrder
  rw [stack]
  cases queue : s.order.queue with
  | nil => rfl
  | cons q qs => exact if_neg (Nat.not_lt.mpr (first q (by rw [queue]; rfl)))

/-- The queue head is next where the stack top has a lower priority (R136). -/
theorem State.nextOrder_of_queue (queue : s.order.queue = x :: rest)
    (first : ∀ y ∈ s.order.stack.head?, y.priority < x.priority) :
    s.nextOrder = State.activate x { s with order := { s.order with queue := rest } } := by
  unfold State.nextOrder
  rw [queue]
  cases stack : s.order.stack with
  | nil => rfl
  | cons y ys => exact if_pos (first y (by rw [stack]; rfl))

theorem State.nextOrder_of_none (stack : s.order.stack = []) (queue : s.order.queue = []) : s.nextOrder = s := by
  unfold State.nextOrder
  rw [stack, queue]

theorem State.recordEnd_eq (o : OrderRecord) (e : EndState) (r : EndReason) (s : State) : s.recordEnd o e r = { s with
    console := (s.recordEnd o e r).console
    order := s.order.finish { o with state := e.orderState, endState := some e, endReason := some r } } := by
  unfold State.recordEnd State.reportOrderEnd
  rw [State.report_eq]

theorem State.followOn_of_none (incoming : s.order.incoming = none) : s.followOn = s.nextOrder := by
  unfold State.followOn
  rw [incoming]

/-- The order that ends is recorded with its end before the next is chosen (R135). -/
theorem State.finishActive_eq {o : OrderRecord} {e : EndState} {r : EndReason} (ended : o.endState = some e)
    (reason : o.endReason = some r) (incoming : s.order.incoming = none) : s.finishActive o =
      State.nextOrder { s with console := (s.recordEnd o e r).console, order := { s.order with
        active := none
        finished := (if s.order.finished.length < 8 then s.order.finished else s.order.finished.tail)
          ++ [{ o with state := e.orderState }] } } := by
  have done : { o with state := e.orderState, endState := some e, endReason := some r } = { o with state := e.orderState } := by
    rw [← ended, ← reason]
  have recorded := s.recordEnd_eq o e r
  rw [done] at recorded
  have ends : s.finishActive o = ((s.recordEnd o e r).setActive none).followOn := by
    unfold State.finishActive
    rw [ended, reason]
    rfl
  rw [ends]
  generalize s.recordEnd o e r = v at recorded ⊢
  rw [State.followOn_of_none (by rw [recorded]; exact incoming), recorded]
  rfl

end

end Sys2Proof.Machine

/-! ## Own RAISE and LOWER that complete (R49, R50, R53 to R55, R57, R134 to R136, R175) -/

namespace Sys2Proof.Machine

/-! ### The RAISE (R49, R50, R57) -/

section

variable {s : State} {x y : Nat} {b : Option YieldCause} (sending : s.share.raise = .sending x b)

include sending

theorem State.raiseDone_settles (unmarked : b = none) (calm : s.halted = false)
    (fits : s.share.resv + y ≤ s.share.capacity) :
    (s.raiseDone y).share = { s.share with raise := .settling y (s.now + 1000) } := by
  subst unmarked
  unfold State.raiseDone
  rw [sending]
  have still : ¬ (s.setRaise (.settling y (s.now + Config.raiseSettle))).halted = true := fun halted =>
    absurd (calm.symm.trans halted) (by decide)
  dsimp only
  rw [if_neg still]
  unfold State.settleConflict
  change State.share (if s.share.capacity < s.share.resv + y then _ else _) = _
  rw [if_neg (Nat.not_lt.mpr fits)]
  rfl

/-- A SETTLING raise abandoned at its start leaves a yield owed where the station transmits. -/
theorem State.raiseDone_yields (yields : b.isSome = true ∨ s.halted = true ∨ s.share.capacity < s.share.resv + y) :
    (s.raiseDone y).share = { s.share with
      raise := .none, yieldOwed := (b.isSome || s.transmits) || s.share.yieldOwed } := by
  have tested (v : State) : v.yieldTest.share = v.share := by
    obtain same | ⟨-, offered⟩ := v.yieldTest_cases
    · rw [same]
    · rw [offered]
  have abandoned (c : YieldCause) : ((s.setRaise (.settling y (s.now + 1000))).abandonSettling c).share = { s.share with
      raise := .none, yieldOwed := s.transmits || s.share.yieldOwed } := by
    have settling : (s.setRaise (.settling y (s.now + 1000))).share.raise = .settling y (s.now + 1000) := rfl
    rw [← State.abandonRaise_of_settling settling, State.abandonRaise_share, Bool.or_comm]
    rfl
  unfold State.raiseDone
  rw [sending]
  cases b with
  | some c =>
    dsimp only
    rw [tested, State.reportRaiseYielded, State.report_eq]
    rfl
  | none =>
    dsimp only
    split
    · exact abandoned _
    · next calm =>
      have conflict : s.share.capacity < s.share.resv + y := by
        obtain marked | halted | conflict := yields
        · exact absurd marked (by decide)
        · exact absurd halted calm
        · exact conflict
      unfold State.settleConflict
      change State.share (if s.share.capacity < s.share.resv + y then _ else _) = _
      rw [if_pos conflict]
      exact abandoned _

end

/-! ### What the requesters of a lowering are told at its end (R54) -/

theorem State.yieldTest_eq (s : State) : s.yieldTest = { s with link := s.yieldTest.link } := by
  obtain same | ⟨-, offered⟩ := s.yieldTest_cases
  · rw [same]
  · rw [offered]

theorem State.yieldTest_spares {k : Kind} (raise : k ≠ .raise) (lower : k ≠ .lower) (s : State) : s.Spares k s.yieldTest := by
  unfold State.yieldTest
  split
  · exact State.Spares.offerSingle (.lower _) lower.symm raise
  · exact .refl

theorem State.leaveDrained_spares {k : Kind} (raise : k ≠ .raise) (bye : k ≠ .bye) (s : State) :
    s.Spares k s.leaveDrained := by
  unfold State.leaveDrained State.tryBye
  split
  · split
    · exact (State.Spares.offerSingle (.bye _) bye.symm raise).after rfl
    · exact .frame rfl
  · exact .refl

/-- The order unit's part of the signal. -/
def State.ordersTold (l : Lowering) (s : State) : State := if l.waitOrder then s.orderDrained else s

section

variable (l : Lowering) (s : State)

theorem State.signalWaiters_eq : s.signalWaiters l =
    if l.waitStation then (s.ordersTold l).leaveDrained else s.ordersTold l := rfl

theorem State.ordersTold_only : s.OnlyOrders (s.ordersTold l) := by
  unfold State.ordersTold
  split
  · exact State.OnlyOrders.orderDrained
  · exact State.OnlyOrders.refl

theorem State.ordersTold_line : (s.ordersTold l).link.lineKind = s.link.lineKind := by
  unfold State.ordersTold
  split
  · exact State.Signalled.refl.orderDrained.line
  · rfl

/-- The station's part of the signal and the yield that is owed change no other block. -/
theorem State.signalled_eq : (s.signalWaiters l).yieldTest = { s.ordersTold l with
    station := (s.signalWaiters l).station, link := (s.signalWaiters l).yieldTest.link } := by
  have yielded := (s.signalWaiters l).yieldTest_eq
  rw [State.signalWaiters_eq] at yielded ⊢
  split at yielded
  · have drained := (s.ordersTold l).leaveDrained_eq
    rw [if_pos ‹_›]
    generalize (s.ordersTold l).leaveDrained = v at drained yielded ⊢
    generalize v.yieldTest = z at yielded ⊢
    rw [yielded, drained]
  · rw [if_neg ‹_›]
    generalize (s.ordersTold l).yieldTest = z at yielded ⊢
    rw [yielded]

theorem State.signalled_spares {k : Kind} (raise : k ≠ .raise) (bye : k ≠ .bye) (lower : k ≠ .lower) :
    (s.ordersTold l).Spares k (s.signalWaiters l).yieldTest := by
  rw [State.signalWaiters_eq]
  split
  · exact (State.leaveDrained_spares raise bye _).trans (State.yieldTest_spares raise lower _)
  · exact State.yieldTest_spares raise lower _

theorem State.signalled_share : (s.signalWaiters l).yieldTest.share = s.share := by
  rw [State.signalled_eq]
  exact (s.ordersTold_only l).share

theorem State.signalled_order_claim : (s.signalWaiters l).yieldTest.order = (s.ordersTold l).order
    ∧ (s.signalWaiters l).yieldTest.claim = (s.ordersTold l).claim := by
  rw [State.signalled_eq]
  exact ⟨rfl, rfl⟩

theorem State.signalWaiters_station : (s.signalWaiters l).station = { s.station with
    leaveDrain := s.station.leaveDrain || (l.waitStation && decide (s.station.state = .leaving)) } := by
  have told := (s.ordersTold_only l).station
  rw [State.signalWaiters_eq]
  cases l.waitStation with
  | true =>
    rw [if_pos rfl, State.leaveDrained_eq, told, Bool.true_and]
  | false =>
    rw [if_neg (by decide), told, Bool.false_and, Bool.or_false]

theorem State.signalled_station : (s.signalWaiters l).yieldTest.station = (s.signalWaiters l).station := by
  rw [State.signalled_eq]

/-- A leave whose release is complete goes on with its BYE (R175). -/
theorem State.signalled_bye {l : Lowering} {s : State} (waits : l.waitStation = true) (leaving : s.station.state = .leaving)
    (released : s.station.leaveRelease = true) (idle : s.link.lineKind = none) :
    .bye 1 ∈ (s.signalWaiters l).yieldTest.link.normal := by
  have told := (s.ordersTold_only l).station
  have line := s.ordersTold_line l
  refine ((State.yieldTest_spares (k := .bye) nofun nofun _).normal _ rfl).mpr ?_
  rw [State.signalWaiters_eq, if_pos waits]
  generalize s.ordersTold l = v at told line ⊢
  unfold State.leaveDrained State.tryBye
  rw [if_pos (by rw [told]; exact leaving), if_pos (by rw [told, released]; rfl),
    State.offerSingle_of_transmits (c := .bye 1) (by unfold State.transmits; rw [told, leaving]; rfl) nofun]
  exact (Link.placeSingle_stands (.bye 1) v.link).2 (by rw [line, idle]; nofun)

end

/-! ### The LOWER (R53 to R55, R57) -/

section

variable {s : State} (g : Nat)

/-- The grant taken from the own LOWER (R54). -/
def State.granted (g : Nat) (s : State) : State := { s with share := { s.share with grant := g } }

theorem State.lowerDone_of_none (lowering : s.share.lowering = none) :
    (s.lowerDone g).share = { s.share with grant := g, yieldOwed := false } := by
  unfold State.lowerDone
  rw [lowering]

theorem State.lowerDone_of_reached {l : Lowering} (lowering : s.share.lowering = some l) (reached : g ≤ l.target) :
    s.lowerDone g = ((((s.granted g).setLowering none).signalWaiters l).yieldTest) := by
  unfold State.lowerDone
  rw [lowering]
  exact if_pos reached

/-- A lowering whose target lies below the new grant goes on, its drain tested again. -/
theorem State.lowerDone_of_below {l : Lowering} (lowering : s.share.lowering = some l) (below : l.target < g) :
    s.lowerDone g = { s with
      share := { s.share with grant := g, lowering := some { l with deadline := s.drainTimer { l with deadline := none } } }
      link := if s.drains { l with deadline := none } then s.link.lowered l.target else s.link } := by
  unfold State.lowerDone
  rw [lowering]
  exact (if_neg (Nat.not_le.mpr below)).trans (State.drain_eq (l := { l with deadline := none })
    (s := (s.granted g).setLowering (some { l with deadline := none })) rfl)

end

end Sys2Proof.Machine

/-! ### The reached lowering and the whole completion -/

namespace Sys2Proof.Machine

section

variable {s : State} {l : Lowering} {o : OrderRecord} (waits : l.waitOrder = true) (active : s.order.active = some o)

include waits active

theorem State.ordersTold_of_not_ending (other : o.state ≠ .ending) : s.ordersTold l = s :=
  (if_pos waits).trans (State.orderDrained_of_not_ending active other)

variable (ending : o.state = .ending)

include ending

/-- A release request that waited for the drain is made (R134). -/
theorem State.ordersTold_asks (pending : s.order.endReleasePending = true) :
    let asked : OrderUnit := { s.order with endDrained := true, endReleasePending := false, releaseOut := true }
    (s.claim.phase = .settled → (s.ordersTold l).order = asked
        ∧ (s.ordersTold l).claim = { s.claim with
          phase := .releasing, settle := none, waitOrder := true, releaseOwed := !s.transmits }
        ∧ (∀ b, s.claim.own = some b → s.transmits = true → s.link.lineKind = none →
          .release b.hold b.slot ∈ (s.ordersTold l).link.normal))
      ∧ (s.claim.phase = .releasing → (s.ordersTold l).order = asked
        ∧ (s.ordersTold l).claim = { s.claim with waitOrder := true }) := by
  have told : s.ordersTold l = State.orderRelease { s with
      order := { s.order with endDrained := true, endReleasePending := false } } :=
    (if_pos waits).trans (State.orderDrained_of_pending active ending pending)
  refine ⟨fun settled => ?_, fun releasing => ?_⟩
  · rw [told, State.orderRelease_of_settled (by exact settled)]
    refine ⟨?_, State.enterReleasing_claim _, fun b own tx idle => State.enterReleasing_offers own tx idle⟩
    rw [State.enterReleasing_claim_link]
  · rw [told, State.orderRelease_waits (by exact releasing)]
    exact ⟨rfl, rfl⟩

theorem State.ordersTold_waits (asked : s.order.endReleasePending = false) (out : s.order.releaseOut = true) :
    s.ordersTold l = { s with order := { s.order with endDrained := true } } :=
  (if_pos waits).trans (State.orderDrained_of_out active ending asked out)

/-- An order whose release is complete ends, and the next is chosen (R135, R136). -/
theorem State.ordersTold_ends (asked : s.order.endReleasePending = false) (complete : s.order.releaseOut = false)
    (incoming : s.order.incoming = none) {e : EndState} {r : EndReason} (ended : o.endState = some e)
    (reason : o.endReason = some r) :
    let u : OrderUnit := { s.order with
      endDrained := true, active := none
      finished := (if s.order.finished.length < 8 then s.order.finished else s.order.finished.tail)
        ++ [{ o with state := e.orderState }] }
    (s.order.stack = [] → s.order.queue = [] → (s.ordersTold l).order = u ∧ (s.ordersTold l).claim = s.claim)
      ∧ (∀ x rest, s.order.stack = x :: rest → (∀ q ∈ s.order.queue.head?, q.priority ≤ x.priority) →
        ∃ b, (s.ordersTold l).order = { u with
          stack := rest, active := some { x with state := .claiming, held := Held.none, blocked := b } })
      ∧ (∀ x rest, s.order.queue = x :: rest → (∀ y ∈ s.order.stack.head?, y.priority < x.priority) →
        ∃ b, (s.ordersTold l).order = { u with
          queue := rest, active := some { x with state := .claiming, held := Held.none, blocked := b } }) := by
  have told : s.ordersTold l = _ := (if_pos waits).trans
    ((State.orderDrained_of_complete active ending asked complete).trans
      (State.finishActive_eq (s := { s with order := { s.order with endDrained := true } }) ended reason incoming))
  rw [told]
  refine ⟨fun stack queue => ?_, fun x rest stack first => ?_, fun x rest queue first => ?_⟩
  · rw [State.nextOrder_of_none (by exact stack) (by exact queue)]
    exact ⟨rfl, rfl⟩
  · rw [State.nextOrder_of_stack (by exact stack) (by exact first)]
    exact State.activate_order (by exact complete) x
  · rw [State.nextOrder_of_queue (by exact queue) (by exact first)]
    exact State.activate_order (by exact complete) x

end

/-! ### The completion in a station that R19 leaves as it is -/

section

variable {t : Nat} {acked : Bool} {a : Attempt} {s : State} {k : Kind} {c : Instr}

theorem exec_frameDone_stays (h : c.frameDone = some (t, acked, [k])) (kind : a.content.kind = k) (live : s.inReset = none)
    (line : s.link.onLine = some a) (mute : s.link.txFaults ≤ 160)
    (active : s.station.state = .active → s.link.txFaults ≤ 64)
    (degraded : s.station.state = .degraded → 33 ≤ s.link.txFaults) :
    exec c s = .next (a.content.done ((s.advance t).counted (a.content.kind == .hello) acked)) := by
  have faults : ((s.advance t).counted (a.content.kind == .hello) acked).link.txFaults = s.link.txFaults - 1 := rfl
  rw [exec_frameDone h live line (kind ▸ List.mem_singleton.mpr rfl), State.completed_counted, State.judgeTxFaults_stays]
  · intro _; omega
  · intro state; have := active state; omega
  · intro state; have := degraded state; omega

end

/-! ### The whole LOWER -/

section

variable {s : State} {l : Lowering} {g : Nat} (lowering : s.share.lowering = some l)

include lowering

/-- A lowering that goes on (R53, R55). -/
theorem State.lowerDone_goes_on (line : s.link.onLine = none) (held : s.link.held = none) (below : l.target < g) :
    let waits := Content.lower l.target ∈ s.link.normal
    let passes := ∃ f, s.share.feed = some f ∧ f ≤ l.target + 10
    ∃ d, (s.lowerDone g).share = { s.share with grant := g, lowering := some { l with deadline := d } }
      ∧ (waits ∨ s.transmits = false → d = none)
      ∧ (¬ waits → s.transmits = true → passes → d = none ∧ .lower l.target ∈ (s.lowerDone g).link.normal)
      ∧ (¬ waits → s.transmits = true → ¬ passes → d = some (s.now + 15000)) := by
  have pending : s.link.lowerPending l.target = true ↔ Content.lower l.target ∈ s.link.normal := by
    unfold Link.lowerPending Link.holds
    rw [line, held]
    simp
  rw [State.lowerDone_of_below g lowering below]
  refine ⟨_, rfl, fun rests => ?_, fun unsent tx passes => ?_, fun unsent tx waits => ?_⟩
  · obtain waits | silent := rests
    · exact State.drainTimer_of_pending (l := { l with deadline := none }) (pending.mpr waits)
    · exact State.drainTimer_of_silent silent
  · have ready := State.feedAtMost_of passes
    have free : s.link.lowerPending l.target = false := Bool.eq_false_iff.mpr fun h => unsent (pending.mp h)
    have drains : s.drains { l with deadline := none } = true := by simp [State.drains, tx, ready, free]
    refine ⟨State.drainTimer_of_ready (l := { l with deadline := none }) ready rfl, ?_⟩
    rw [if_pos drains]
    refine (Link.placeSingle_stands (.lower l.target) _).2 ?_
    rw [State.Spares.lineKind_withdraw]
    unfold Link.lineKind
    rw [line]
    nofun
  · have filled := State.feedAtMost_false_of waits
    have free : s.link.lowerPending l.target = false := Bool.eq_false_iff.mpr fun h => unsent (pending.mp h)
    exact State.drainTimer_of_waiting (l := { l with deadline := none }) tx filled free

/-- A lowering that has reached its target: the share unit and the station (R54, R175). -/
theorem State.lowerDone_ends (line : s.link.onLine = none) (reached : g ≤ l.target) :
    (s.lowerDone g).share = { s.share with grant := g, lowering := none }
      ∧ (l.waitStation = true → s.station.state = .leaving →
        (s.lowerDone g).station = { s.station with leaveDrain := true }
          ∧ (s.station.leaveRelease = true → .bye 1 ∈ (s.lowerDone g).link.normal))
      ∧ (l.waitStation = false ∨ s.station.state ≠ .leaving → (s.lowerDone g).station = s.station) := by
  have idle : ((s.granted g).setLowering none).link.lineKind = none := by
    change s.link.lineKind = none
    unfold Link.lineKind
    rw [line]
    rfl
  rw [State.lowerDone_of_reached g lowering reached, State.signalled_share, State.signalled_station,
    State.signalWaiters_station]
  refine ⟨rfl, fun waits leaving => ⟨?_, fun released => State.signalled_bye waits leaving released idle⟩, fun rests => ?_⟩
  · have drained : (l.waitStation && decide (s.station.state = .leaving)) = true := by rw [waits, leaving]; rfl
    change { s.station with leaveDrain := s.station.leaveDrain || (l.waitStation && decide (s.station.state = StationState.leaving)) } = _
    rw [drained, Bool.or_true]
  · have other : (l.waitStation && decide (s.station.state = .leaving)) = false := by
      obtain unasked | elsewhere := rests
      · rw [unasked]; rfl
      · rw [decide_eq_false elsewhere, Bool.and_false]
    change { s.station with leaveDrain := s.station.leaveDrain || (l.waitStation && decide (s.station.state = StationState.leaving)) } = _
    rw [other, Bool.or_false]

/-- The order and claim units as that leaves them: what the order unit did with its signal. -/
theorem State.lowerDone_order_claim (reached : g ≤ l.target) :
    (s.lowerDone g).order = (((s.granted g).setLowering none).ordersTold l).order
      ∧ (s.lowerDone g).claim = (((s.granted g).setLowering none).ordersTold l).claim := by
  rw [State.lowerDone_of_reached g lowering reached]
  exact State.signalled_order_claim ..

theorem State.lowerDone_release_mem (reached : g ≤ l.target) {c : Content} (release : c.kind = .release) :
    c ∈ (s.lowerDone g).link.normal ↔ c ∈ (((s.granted g).setLowering none).ordersTold l).link.normal := by
  rw [State.lowerDone_of_reached g lowering reached]
  exact (State.signalled_spares (k := .release) l _ nofun nofun nofun).normal c release

/-- What the order unit does with the signal at the completion of the LOWER (R134 to R136). -/
theorem State.lowerDone_tells (line : s.link.onLine = none) (reached : g ≤ l.target) :
    let fin (o : OrderRecord) : List OrderRecord :=
      (if s.order.finished.length < 8 then s.order.finished else s.order.finished.tail) ++ [o]
    let next (b : Option BlockedReason) (x : OrderRecord) : Option OrderRecord :=
      some { x with state := .claiming, held := Held.none, blocked := b }
    (l.waitOrder = false → (s.lowerDone g).order = s.order ∧ (s.lowerDone g).claim = s.claim)
      ∧ (l.waitOrder = true → ∀ o, s.order.active = some o →
        (o.state ≠ .ending → (s.lowerDone g).order = s.order ∧ (s.lowerDone g).claim = s.claim)
          ∧ (o.state = .ending → s.order.endReleasePending = true →
            let asked : OrderUnit := { s.order with endDrained := true, endReleasePending := false, releaseOut := true }
            (s.claim.phase = .settled → (s.lowerDone g).order = asked
                ∧ (s.lowerDone g).claim = { s.claim with
                  phase := .releasing, settle := none, waitOrder := true, releaseOwed := !s.transmits }
                ∧ (∀ b, s.claim.own = some b → s.transmits = true → .release b.hold b.slot ∈ (s.lowerDone g).link.normal))
              ∧ (s.claim.phase = .releasing → (s.lowerDone g).order = asked
                ∧ (s.lowerDone g).claim = { s.claim with waitOrder := true }))
          ∧ (o.state = .ending → s.order.endReleasePending = false → s.order.releaseOut = true →
            (s.lowerDone g).order = { s.order with endDrained := true } ∧ (s.lowerDone g).claim = s.claim)
          ∧ (o.state = .ending → s.order.endReleasePending = false → s.order.releaseOut = false →
            s.order.incoming = none → ∀ e r, o.endState = some e → o.endReason = some r →
            let u : OrderUnit :=
              { s.order with endDrained := true, active := none, finished := fin { o with state := e.orderState } }
            (s.order.stack = [] → s.order.queue = [] → (s.lowerDone g).order = u ∧ (s.lowerDone g).claim = s.claim)
              ∧ (∀ x rest, s.order.stack = x :: rest → (∀ q ∈ s.order.queue.head?, q.priority ≤ x.priority) →
                ∃ b, (s.lowerDone g).order = { u with stack := rest, active := next b x })
              ∧ (∀ x rest, s.order.queue = x :: rest → (∀ y ∈ s.order.stack.head?, y.priority < x.priority) →
                ∃ b, (s.lowerDone g).order = { u with queue := rest, active := next b x }))) := by
  have idle : ((s.granted g).setLowering none).link.lineKind = none := by
    change s.link.lineKind = none
    unfold Link.lineKind
    rw [line]
    rfl
  obtain ⟨orders, claims⟩ := State.lowerDone_order_claim (g := g) lowering reached
  have offered (c : Content) (release : c.kind = .release) := State.lowerDone_release_mem (g := g) lowering reached release
  intro fin next
  rw [orders, claims]
  refine ⟨fun untold => ?_, fun waits o active => ⟨fun other => ?_, fun ending pending => ?_, fun ending asked out => ?_,
    fun ending asked complete incoming e r ended reason => ?_⟩⟩
  · have still : ((s.granted g).setLowering none).ordersTold l = (s.granted g).setLowering none :=
      if_neg (by rw [untold]; decide)
    rw [still]
    exact ⟨rfl, rfl⟩
  · rw [State.ordersTold_of_not_ending waits (by exact active) other]
    exact ⟨rfl, rfl⟩
  · obtain ⟨settles, releases⟩ := State.ordersTold_asks (s := (s.granted g).setLowering none) waits active ending pending
    refine ⟨fun settled => ?_, releases⟩
    obtain ⟨asked, entered, release⟩ := settles settled
    exact ⟨asked, entered, fun b own tx => (offered _ rfl).mpr (release b own tx idle)⟩
  · rw [State.ordersTold_waits waits (by exact active) ending (by exact asked) (by exact out)]
    exact ⟨rfl, rfl⟩
  · exact State.ordersTold_ends (s := (s.granted g).setLowering none) waits active ending asked complete incoming ended reason

end

/-- Settles O20: R19 leaves the station as it is, so the share unit and those it signals act on the counted completion. -/
theorem raiseAndLowerComplete : Obligations.RaiseAndLowerComplete := by
  intro t acked a s live line mute active degraded
  have done {c : Instr} {k : Kind} (kind : a.content.kind = k) (h : c.frameDone = some (t, acked, [k])) :=
    exec_frameDone_stays h kind live line mute active degraded
  generalize counted : (s.advance t).counted (a.content.kind == .hello) acked = w at done
  have share : w.share = s.share := by rw [← counted]; rfl
  have station : w.station = s.station := by rw [← counted]; rfl
  have order : w.order = s.order := by rw [← counted]; rfl
  have claim : w.claim = s.claim := by rw [← counted]; rfl
  have now : w.now = max s.now t := by rw [← counted]; rfl
  have sends : w.transmits = s.transmits := congrArg (fun u => u.state.transmits) station
  have halted : w.halted = s.halted := congrArg (fun u : Share => u.halts != 0#16) share
  have quiet : w.link.onLine = none := by rw [← counted]; rfl
  have empty : w.link.held = none := by rw [← counted]; rfl
  have normal : w.link.normal = s.link.normal ++ s.link.held.toList := by rw [← counted]; rfl
  refine ⟨fun target current b content sending => ?_, fun grant content => ?_⟩
  · have e := done (k := .raise) (by rw [content]; rfl) (c := .raiseCompletes t acked) rfl
    rw [content] at e
    change _ = Host.Outcome.next (w.raiseDone target) at e
    have raise : w.share.raise = .sending target b := by rw [share]; exact sending
    have kept : (w.raiseDone target).share.grant = w.share.grant := congrArg (·.share.grant) (raiseDone_mask target w)
    refine ⟨_, e, kept.trans (by rw [share]), fun unmarked calm fits => ?_, fun yields => ?_⟩
    · have settles := State.raiseDone_settles (y := target) raise unmarked (halted.trans calm) (by rw [share]; exact fits)
      rw [share, now] at settles
      exact settles
    · have yielded := State.raiseDone_yields (y := target) raise (by rw [share, halted]; exact yields)
      rw [share, sends] at yielded
      exact yielded
  · have e := done (k := .lower) (by rw [content]; rfl) (c := .lowerCompletes t acked) rfl
    rw [content] at e
    change _ = Host.Outcome.next (w.lowerDone grant) at e
    refine ⟨_, e, State.lowerDone_grant grant w, fun lowering => ?_, fun l lowering reached => ?_, fun l lowering below => ?_⟩
    · have cleared := State.lowerDone_of_none (s := w) grant (by rw [share]; exact lowering)
      rw [share] at cleared
      exact cleared
    · have kept : w.share.lowering = some l := by rw [share]; exact lowering
      obtain ⟨shared, leaves, rests⟩ := State.lowerDone_ends (g := grant) kept quiet reached
      have tells := State.lowerDone_tells (g := grant) kept quiet reached
      rw [share] at shared
      rw [station] at leaves rests
      rw [order, claim, sends] at tells
      exact ⟨shared, leaves, rests, tells⟩
    · have kept : w.share.lowering = some l := by rw [share]; exact lowering
      have goesOn := State.lowerDone_goes_on (g := grant) kept quiet empty below
      rw [share, sends, now, normal] at goesOn
      simp only [List.mem_append, Option.mem_toList] at goesOn
      exact goesOn

end Sys2Proof.Machine
